-- ==== Sys2Proof/Word.lean ====
section
/-!
DEFINITION. The words of the CS-416: bytes of the service line and of link characters, 16-bit numbers that count
modulo 65536, and 32-bit readings of the millisecond clock (spec/00_scope.md, Conventions).
-/

namespace Sys2Proof

/-- The data of one link character or one service byte (R144, R182). -/
abbrev Byte := BitVec 8

/-- A number counted modulo 65536: stroke, call, canvass and trim numbers, and a CRC. -/
abbrev Half := BitVec 16

/-- A reading of the part's clock: 32 bits of milliseconds (00, "Time"). A difference of two readings wraps. -/
abbrev Time := BitVec 32

/-- "n is ahead of L by k" (00, "Stroke numbers"): the number k = (n − L) mod 65536. -/
def aheadBy (n last : Half) : Nat := (n - last).toNat

/-- A number is *ahead* of a last-taken number when (n − L) mod 65536 lies in 1 to 32767. -/
def isAhead (n last : Half) : Bool := decide (1 ≤ aheadBy n last ∧ aheadBy n last ≤ 32767)

end Sys2Proof
end

