-- ==== Sys2Proof/Config.lean ====
section
/-!
DEFINITION. What the part fixes (codes, capacities and times the rules name) and the free values, which the spec leaves
open: opaque constants without a body, so that no statement can rest on what they are.
-/

namespace Sys2Proof.Config

/-- IDENTIFY's vendor, family and part codes (R190). -/
def vendorCode : Nat := 7
def familyCode : Nat := 4
def partCode : Nat := 16

/-- Capacities: the two queues of a port (R157), the hold cause list (R128), the exit log (R121), the trace ring (R179). -/
def forwardCapacity : Nat := 4
def localCapacity : Nat := 8
def holdCapacity : Nat := 16
def exitLogCapacity : Nat := 64
def traceCapacity : Nat := 512
def pendingCallCapacity : Nat := 2
def trimWindowLength : Nat := 8
def pulsesOwedMax : Nat := 3

/-- Fixed times in ms: the control period (R24), the refresh of own causes (R130), the life of a heard entry (R137), the
settle time and the repeats of HELLO and POS (R165, R167, R173), silence and break (R145, R148), the delivered pulse
(R118), and the longest gap inside one service request (R182). -/
def periodMs : Nat := 100
def refreshMs : Nat := 500
def holdLifeMs : Nat := 2000
def settleMs : Nat := 100
def helloMs : Nat := 500
def posMs : Nat := 500
def silenceMs : Nat := 2
def breakMs : Nat := 4
def deliveredMs : Nat := 100
def serviceGapMs : Nat := 10

/-- One link character occupies 6 µs (R144). -/
def charMicros : Nat := 6

/-- Largest enthalpy of a record, in daJ (R3). -/
def hMax : Nat := 40000000

/-- FREE VALUE (log 9): the source of a frame that a station without a position offers. R150 calls the source a position
0 to 15 and R164 gives such a station none. -/
opaque unplacedSource : Nat → Fin 16

/-- FREE VALUE (log 10): the two bytes of a HELLO's last stroke number when it is marked not present (R189). -/
opaque absentStroke : Nat → Half

/-- FREE VALUE (log 16): the last stroke number a rejoining station takes from an answer that marks its own not present. R22
takes the number the neighbour reports, and no rule says what that is here. -/
opaque unreportedStroke : Nat → Half

end Sys2Proof.Config
end

