-- ==== Sys2Proof/Syntax.lean ====
section
/-!
DEFINITION. The commands of the CS-416: one constructor of Instr per row of spec/opcode_table.json, in the table's order,
with the fields of the link frames (R150, R189), the characters of a link (R144) and the bytes of a service request (R182)
that they carry.
-/

namespace Sys2Proof

/-- The two link ports: UP toward the loader, DOWN toward the press. -/
inductive Port where
  | up | down
  deriving DecidableEq, Repr

/-- The other port of the station: the onward port of a frame that arrived on this one (R154). -/
def Port.other : Port → Port
  | .up => .down
  | .down => .up

/-- The six hold causes (R127). -/
inductive Cause where
  | pressIdle | linkLossUp | linkLossDown | estop | inverterFault | pusherFault
  deriving DecidableEq, Repr

/-- The eleven frame kinds, in the order of R153. -/
inductive Kind where
  | hold | clear | stroke | call | pos | count | hello | canvass | reply | ret | trim
  deriving DecidableEq, Repr

/-- A call's kind (R97). -/
inductive CallKind where
  | press | self
  deriving DecidableEq, Repr

/-- A REPLY's kind (R71). -/
inductive ReplyKind where
  | lend | decline | conflict
  deriving DecidableEq, Repr

/-- A TRIM's step, +1 or −1 (R124). -/
inductive TrimStep where
  | raise | lower
  deriving DecidableEq, Repr

/-- The states a HELLO can name (R189). -/
inductive HelloState where
  | discover | fault | run | hold | tripped
  deriving DecidableEq, Repr

/-- A billet record as a STROKE frame lays it out (R189): every field at its width on the link, before the repair of R8. -/
structure WireRecord where
  serial : BitVec 16
  mass : BitVec 24
  h : BitVec 32
  d : BitVec 16
  soak : BitVec 16
  flags : Byte
  stations : List (Byte × BitVec 16)
  deriving DecidableEq, Repr

/-- The fields of a HELLO (R166, R189). -/
structure Hello where
  position : Byte
  state : HelloState
  recipe : Half
  lastStroke : Half
  newestSerial : Half
  n : Byte
  marks : Byte
  deriving DecidableEq, Repr

/-- The payload of a frame, by kind (R189). Fields that R189 does not code keep every value their width admits. -/
inductive Payload where
  | hold (cause origin : Byte)
  | clear (cause origin : Byte)
  | stroke (number : Half) (synth : Byte) (content : Option WireRecord)
  | call (kind : CallKind) (number : Half)
  | pos (position : Byte) (recipe : Half) (version : Byte) (agrees : Bool)
  | count (n : Byte) (agrees : Bool)
  | hello (h : Hello)
  | canvass (origin : Byte) (number want : Half)
  | reply (number : Half) (kind : ReplyKind) (amount : Half)
  | ret (number amount : Half)
  | trim (step : TrimStep) (number : Half)
  deriving DecidableEq, Repr

/-- A frame: its source, its destination (255 for ALL) and its payload. Kind and class follow from the payload (R153), and
the direction from the port that holds or takes it (R150). -/
structure Frame where
  src : Byte
  dst : Byte
  payload : Payload
  deriving DecidableEq, Repr

/-- A character of 12 bit times as the receiver sees it (R144). -/
structure RawChar where
  data : Byte
  mark : Bool
  parity : Bool
  stop : Bool
  deriving DecidableEq, Repr

/-- A complete service request less its command byte: the payload and the two CRC bytes received (R182, R190). -/
structure Request where
  payload : List Byte
  crc : Half
  deriving DecidableEq, Repr

/-- What the outside presents with a command (log 1): the microseconds since the previous command, and the levels of the
lines that rules sample (R16, R18, R31, R56, R116). -/
structure Env where
  dt : Nat
  feedback : BitVec 16
  feedbackValid : Bool
  tripReset : Bool
  loaderPresent : Bool
  weigh : Nat
  pyro : Nat
  pyroValid : Bool
  deriving DecidableEq, Repr

/-- Where a complete frame arrived, and its header's source and destination. -/
structure Arrival where
  port : Port
  src : Byte
  dst : Byte
  deriving DecidableEq, Repr

/-- The commands of the part, one per row of spec/opcode_table.json. -/
inductive Instr where
  | powerOn (e : Env)
  | resetPin (e : Env)
  | identify (e : Env) (r : Request)
  | loadImage (e : Env) (r : Request)
  | start (e : Env) (r : Request)
  | readStatus (e : Env) (r : Request)
  | readQueue (e : Env) (r : Request)
  | readExitLog (e : Env) (r : Request)
  | readCounters (e : Env) (r : Request)
  | clearCounters (e : Env) (r : Request)
  | clearResetCause (e : Env) (r : Request)
  | traceSetup (e : Env) (r : Request)
  | traceArm (e : Env) (r : Request)
  | traceStop (e : Env) (r : Request)
  | readTrace (e : Env) (r : Request)
  | serviceAbandoned (e : Env)
  | serviceResponseSent (e : Env)
  | periodEnd (e : Env)
  | estopAsserted (e : Env)
  | estopReleased (e : Env)
  | faultHigh (e : Env)
  | faultLow (e : Env)
  | readyLow (e : Env)
  | readyHigh (e : Env)
  | tripReset (e : Env)
  | motionEdge (e : Env)
  | pushed (e : Env)
  | pressCall (e : Env)
  | motionDeadlineExpiry (e : Env)
  | confirmDeadlineExpiry (e : Env)
  | pusherTimeout (e : Env)
  | pushPulseEnd (e : Env)
  | callTimerExpiry (e : Env)
  | fillTimerExpiry (e : Env)
  | pressIdleExpiry (e : Env)
  | sampleDeadlineExpiry (e : Env)
  | deliveredPulseEnd (e : Env)
  | canvassDeadlineExpiry (e : Env)
  | backoffExpiry (e : Env)
  | recanvassExpiry (e : Env)
  | refreshTimerExpiry (e : Env)
  | holdExpiry (e : Env) (cause : Cause) (origin : Byte)
  | settleExpiry (e : Env)
  | helloTimerExpiry (e : Env)
  | posTimerExpiry (e : Env)
  | helloCheckRepeat (e : Env) (p : Port)
  | linkUp (e : Env) (p : Port)
  | linkDownErrors (e : Env) (p : Port)
  | linkDownSilence (e : Env) (p : Port)
  | breakPeriodEnd (e : Env) (p : Port)
  | transmitterFree (e : Env) (p : Port)
  | frameDropped (e : Env) (p : Port) (c : RawChar)
  | hold (e : Env) (a : Arrival) (cause origin : Byte)
  | clear (e : Env) (a : Arrival) (cause origin : Byte)
  | stroke (e : Env) (a : Arrival) (number : Half) (synth : Byte) (content : Option WireRecord)
  | call (e : Env) (a : Arrival) (kind : CallKind) (number : Half)
  | pos (e : Env) (a : Arrival) (position : Byte) (recipe : Half) (version : Byte) (agrees : Bool)
  | count (e : Env) (a : Arrival) (n : Byte) (agrees : Bool)
  | hello (e : Env) (a : Arrival) (h : Hello)
  | canvass (e : Env) (a : Arrival) (origin : Byte) (number want : Half)
  | reply (e : Env) (a : Arrival) (number : Half) (kind : ReplyKind) (amount : Half)
  | ret (e : Env) (a : Arrival) (number amount : Half)
  | trim (e : Env) (a : Arrival) (step : TrimStep) (number : Half)
  | characterReceived (e : Env) (p : Port) (c : RawChar)
  | serviceByteReceived (e : Env) (b : Byte)
  | unknownCommand (e : Env) (code : Byte) (r : Request)
  deriving DecidableEq, Repr

end Sys2Proof
end

