-- ==== Sys2Proof/Decode.lean ====
section
/-!
DEFINITION. The decoder the host asks for. No row of spec/opcode_table.json gives bits: a command is an event at a pin, a
timer, a link or the service line, and no word spells one. The link frames and service requests, which do have layouts, are
read in Machine/Operands.lean, Machine/Link.lean and Machine/Service.lean.
-/

namespace Sys2Proof

/-- The command a word of the table's bits spells: none, since no row gives bits. -/
def decodeTableWord (_nbits _w : Nat) : Option Instr := none

end Sys2Proof
end

