-- ==== Sys2Proof/Machine/State.lean ====
section
/-!
DEFINITION. The state of the part: every item the chapters give the blocks (INVENTORY.md lists each with its rule), the
reasons a step could stop, and the state right after a power-on reset.
-/

namespace Sys2Proof.Machine

/-! ### The configuration image (R184, R191) -/

/-- A breakpoint of the enthalpy table (R26): specific enthalpy in 0.1 J/g and temperature in °C. -/
structure Breakpoint where
  h : Nat
  t : Nat
  deriving DecidableEq, Repr

/-- The four factors of a segment (R26): coupling, surface gain, surface decay, loss. -/
structure Factors where
  c : Nat
  g : Nat
  d : Nat
  l : Nat
  deriving DecidableEq, Repr

/-- The configuration image, row by row of R191. Enable fields hold the byte loaded: 0 for off, 1 for on. -/
structure Image where
  recipeId : Nat
  version : Nat
  slotCount : Vector Nat 16
  eta : Vector Nat 16
  pMax : Vector Nat 16
  baseCredits : Vector Nat 16
  target : Vector Nat 16
  weights : Vector Nat 8
  bandLo : Nat
  bandHi : Nat
  soakThreshold : Nat
  soakLimit : Nat
  surfaceLimit : Nat
  guardTemp : Nat
  guardPower : Nat
  holdHorizon : Nat
  ramp : Nat
  cadence : Nat
  creditKw : Nat
  lineTotal : Nat
  keep : Nat
  canvassTimeout : Nat
  backoffUnit : Nat
  recanvassInterval : Nat
  nominalMass : Nat
  weigh : Nat
  ambient : Nat
  breakpointCount : Nat
  breakpoints : Vector Breakpoint 13
  factors : Vector Factors 12
  exitLow : Nat
  exitHigh : Nat
  coreMin : Nat
  pyroEnable : Nat
  pyroLow : Nat
  pyroHigh : Nat
  sampleDelay : Nat
  trimDeadband : Nat
  fillInterval : Nat
  pressIdleTimeout : Nat
  callTimeout : Nat
  pusherPulse : Nat
  pusherTimeout : Nat
  motionSense : Nat
  motionDeadline : Nat
  confirmWindow : Nat
  deriving DecidableEq, Repr

/-- What the functions of an image answer for a station that holds none (log 28): an image of zeros. No reachable state
reads it on line, where an image is always stored. -/
def Image.blank : Image :=
  { recipeId := 0, version := 0, slotCount := .replicate 16 0, eta := .replicate 16 0, pMax := .replicate 16 0,
    baseCredits := .replicate 16 0, target := .replicate 16 0, weights := .replicate 8 0, bandLo := 0, bandHi := 0,
    soakThreshold := 0, soakLimit := 0, surfaceLimit := 0, guardTemp := 0, guardPower := 0, holdHorizon := 0, ramp := 0,
    cadence := 0, creditKw := 0, lineTotal := 0, keep := 0, canvassTimeout := 0, backoffUnit := 0,
    recanvassInterval := 0, nominalMass := 0, weigh := 0, ambient := 0, breakpointCount := 0,
    breakpoints := .replicate 13 ⟨0, 0⟩, factors := .replicate 12 ⟨0, 0, 0, 0⟩, exitLow := 0, exitHigh := 0,
    coreMin := 0, pyroEnable := 0, pyroLow := 0, pyroHigh := 0, sampleDelay := 0, trimDeadband := 0, fillInterval := 0,
    pressIdleTimeout := 0, callTimeout := 0, pusherPulse := 0, pusherTimeout := 0, motionSense := 0,
    motionDeadline := 0, confirmWindow := 0 }

/-! ### Billet records and the coil queue (R2 to R10) -/

/-- The set of a record's flags (R4). -/
structure Flags where
  lostTrack : Bool
  lateRecord : Bool
  modelLimit : Bool
  massClamped : Bool
  surfaceExcess : Bool
  excursion : Bool
  creditShort : Bool
  deriving DecidableEq, Repr

/-- The two fields of a self-stroke placeholder while it stands in slot 0 (R6). -/
structure SelfStroke where
  accrued : Int
  createdAt : Half
  deriving DecidableEq, Repr

/-- A billet record (R3). -/
structure Record where
  serial : Option Nat
  mass : Nat
  h : Nat
  d : Nat
  soak : Nat
  flags : Flags
  stations : List (Nat × Nat)
  self : Option SelfStroke
  deriving DecidableEq, Repr

/-- The content of a slot: a billet record, or none for a GAP (R2). -/
abbrev Slot := Option Record

/-- The coil queue: its slots from slot 0 to the lead, and the stroke state of R10. -/
structure CoilQueue where
  slots : List Slot
  lastStroke : Half
  lastShift : Time
  intervalOpen : Bool
  iAvg : Nat
  newestSerial : Option Nat
  deriving DecidableEq, Repr

/-! ### Thermal Accounting Unit, Power Demand Unit, Inverter Interface -/

/-- The inputs of the most recent period end (R25). -/
structure Sample where
  pFb : Nat
  substituted : Bool
  useful : Nat
  deriving DecidableEq, Repr

/-- The Thermal Accounting Unit (R25), with the number of the last TRIM applied (R125). The enthalpy table is the image's.
The period timer holds the time at which the running period began. -/
structure Tau where
  periodStart : Option Time
  residue : Nat
  trim : Int
  targets : Option (Vector Nat 16)
  sample : Sample
  lastTrim : Option Half
  deriving DecidableEq, Repr

/-- The Power Demand Unit (R47). Its c_need stands in the Credit Unit, which it is handed to (R53, R68). -/
structure Pdu where
  ePlan : Nat
  pDem : Nat
  guardActive : Bool
  pAvail : Nat
  creditClamped : Bool
  pPrev : Nat
  pNext : Nat
  deriving DecidableEq, Repr

/-- The Inverter Interface (R56). The feedback stands with the input lines. -/
structure Ivi where
  buffer : Nat
  bufferMark : Bool
  latched : Nat
  latchedMark : Bool
  inForce : Nat
  enable : Bool
  notReady : Bool
  deriving DecidableEq, Repr

/-! ### Credit Unit -/

/-- The tracker entry of an open canvass (R70). -/
structure Canvass where
  number : Half
  want : Nat
  expected : Nat
  received : Nat
  total : Nat
  conflict : Bool
  deadline : Time
  deriving DecidableEq, Repr

/-- The Credit Unit (R68). -/
structure Cru where
  base : Nat
  loans : Nat
  pool : Nat
  need : Option Nat
  tracker : Option Canvass
  counter : Half
  backoff : Option Time
  recanvass : Option Time
  deriving DecidableEq, Repr

/-! ### Stroke and Call Unit -/

/-- The stroke tracker (R88). -/
structure Tracker where
  unmatched : Nat
  motionDeadline : Option Time
  unconfirmed : Nat
  confirmDeadline : Option Time
  deriving DecidableEq, Repr

inductive Pusher where
  | idle | pushing | fault
  deriving DecidableEq, Repr

/-- The Stroke and Call Unit at the head (R96). The pulse is on while it has an end time. -/
structure Head where
  calls : List Half
  lastExecuted : Option Half
  pusher : Pusher
  pulse : Option Time
  timer : Option Time
  owed : Bool
  nextSerial : Nat
  deriving DecidableEq, Repr

/-- The Stroke and Call Unit at the tail (R102). -/
structure Tail where
  counter : Half
  outstanding : Option (Half × CallKind)
  callTimer : Option Time
  pressWaiting : Bool
  fill : Bool
  fillTimer : Option Time
  pressIdle : Option Time
  deriving DecidableEq, Repr

/-! ### Exit Unit -/

/-- The reasons of a verdict (R112, R116): PASS when the set is empty, REJECT otherwise. -/
structure Reasons where
  meanLow : Bool
  meanHigh : Bool
  coreLow : Bool
  surfaceHigh : Bool
  soakOver : Bool
  track : Bool
  model : Bool
  pyroOut : Bool
  deriving DecidableEq, Repr

/-- A record that left the tail's coil, latched with its judgement (R114). -/
structure Latched where
  record : Record
  stroke : Half
  reasons : Reasons
  mean : Nat
  surface : Nat
  core : Nat
  deriving DecidableEq, Repr

/-- The awaiting billet and its sample deadline (R115). -/
structure Awaiting where
  billet : Latched
  deadline : Time
  deriving DecidableEq, Repr

/-- The delivered pulse output (R118): off with its low interval run out, high until a time, or low until a time. -/
inductive Pulse where
  | off
  | high (until_ : Time)
  | low (until_ : Time)
  deriving DecidableEq, Repr

/-- An exit log entry (R120). -/
structure LogEntry where
  time : Time
  stroke : Half
  serial : Option Nat
  pass : Bool
  reasons : Reasons
  mass : Nat
  mean : Nat
  surface : Nat
  core : Nat
  soak : Nat
  reading : Option Nat
  flags : Flags
  stations : List (Nat × Nat)
  deriving DecidableEq, Repr

/-- The Exit Unit (R111). The preview is none for a GAP in the lead, else the set of reasons; the gate is true for PASS. -/
structure Exu where
  preview : Option Reasons
  awaiting : Option Awaiting
  gate : Bool
  pulse : Pulse
  owed : Nat
  log : List LogEntry
  window : List Int
  counter : Half
  deriving DecidableEq, Repr

/-! ### Hold Unit -/

/-- An entry of the hold cause list (R128). -/
structure HoldEntry where
  cause : Cause
  origin : Byte
  own : Bool
  refreshed : Time
  deriving DecidableEq, Repr

/-- The Hold Unit (R128). The line mode is the station state of the Line Discovery Unit (R129, R164). -/
structure Hlu where
  entries : List HoldEntry
  refresh : Option Time
  deriving DecidableEq, Repr

/-! ### Link ports (R146) and HELLO checks (R173) -/

inductive LinkState where
  | down | up
  deriving DecidableEq, Repr

/-- The receiver of a port (R150). IN_FRAME holds the bytes so far: the kind code, then the data characters. -/
inductive Receiver where
  | hunting
  | inFrame (got : List Byte)
  deriving DecidableEq, Repr

/-- The transmitter of a port (R145). SENDING holds the frame in transmission, whether the station's own unit originated
it, and the time in µs at which its first character began. -/
inductive Transmitter where
  | brk (until_ : Time)
  | idling
  | sending (frame : Frame) (own : Bool) (began : Nat)
  deriving DecidableEq, Repr

inductive Check where
  | pending | passed | miswired
  deriving DecidableEq, Repr

structure LinkPort where
  link : LinkState
  validRun : Nat
  errorRun : Nat
  silence : Option Time
  receiver : Receiver
  transmitter : Transmitter
  forward : List Frame
  localQ : List Frame
  starvation : Nat
  check : Check
  checkTimer : Option Time
  recvEnd : Option Nat
  sendEnd : Option Nat
  counters : Vector (BitVec 32) 22
  deriving DecidableEq, Repr

/-! ### Line Discovery Unit (R164) -/

inductive StationState where
  | config | discover | run | hold | tripped | fault
  deriving DecidableEq, Repr

inductive FaultReason where
  | configMismatch | lineTooLong | budget
  deriving DecidableEq, Repr

inductive Role where
  | head | tail | middle | headTail
  deriving DecidableEq, Repr

structure Ldu where
  state : StationState
  reason : Option FaultReason
  position : Option (Fin 16)
  n : Option Nat
  role : Option Role
  headClaim : Bool
  seen : Bool
  settle : Option Time
  helloTimer : Option Time
  posTimer : Option Time
  deriving DecidableEq, Repr

/-! ### Link Trace (R175 to R179) -/

inductive Action where
  | receivedForwarded | consumed | copiedForwarded | originated | dropped
  deriving DecidableEq, Repr

inductive ErrorKind where
  | charError | lengthError | crcError | unknownKind | headerError | state | forwardOverrun | misrouted | endOfLine
  | localRefused | localDisplaced | linkLoss
  deriving DecidableEq, Repr

/-- What the trace sees of a frame (R175). A destination of ALL is held as 16 (R190). -/
structure FrameView where
  kind : Option Byte
  src : Option Nat
  dst : Option Nat
  key : Option Half
  deriving DecidableEq, Repr

structure TraceEntry where
  port : Port
  action : Action
  error : Option ErrorKind
  gap : Nat
  time : Time
  view : FrameView
  deriving DecidableEq, Repr

inductive TraceMode where
  | free | startOn | stopOn | onlyMatch
  deriving DecidableEq, Repr

inductive TraceState where
  | idle | armed | recording | stopped
  deriving DecidableEq, Repr

/-- The trigger pattern (R177): each field a value, or none for ANY. -/
structure Pattern where
  kind : Option Byte
  src : Option Nat
  dst : Option Nat
  action : Option Action
  error : Option ErrorKind
  key : Option Half
  deriving DecidableEq, Repr

/-- The Link Trace. The ring is the list of the entries held, oldest first. -/
structure Ltr where
  state : TraceState
  mode : TraceMode
  pattern : Pattern
  filter : Vector (BitVec 16) 16
  traceErrors : Bool
  ring : List TraceEntry
  writeIndex : Nat
  rollover : Nat
  deriving DecidableEq, Repr

/-! ### Service port and image store (R182 to R186) -/

inductive SvcReceiver where
  | hunting
  | inRequest (got : List Byte) (last : Time)
  | responding (response : List Byte)
  deriving DecidableEq, Repr

structure Svi where
  image : Option Image
  receiver : SvcReceiver
  causePowerOn : Bool
  causeResetPin : Bool
  deriving DecidableEq, Repr

/-- The levels of the input lines as last presented. -/
structure Pins where
  ready : Bool
  fault : Bool
  estop : Bool
  tripReset : Bool
  feedback : BitVec 16
  feedbackValid : Bool
  loaderPresent : Bool
  weigh : Nat
  pyro : Nat
  pyroValid : Bool
  deriving DecidableEq, Repr

/-! ### Counters -/

/-- The counters of every block but the ports', block by block in the order of their tables (R23, R46, R65, R85, R110, R126,
R143, R174, R187). -/
inductive Counter where
  -- cq (R23)
  | shifts | placeholdersMade | recordRepaired | duplicateSerials | excursions | massClamps
  -- tau (R46)
  | periods | feedbackInvalid | feedbackSaturated | energyUseful | energyUnplaced | modelLimits
  | surfaceExcesses
  -- pduIvi (R65)
  | creditClampedPeriods | guardPeriods | rampLimitedPeriods | notReadyPeriods | estopTrips
  | inverterFaultTrips | tripResets | tripResetRefused
  -- cru (R85)
  | canvassesOpened | canvassNotOpened | canvassesAnswered | canvassTimeouts | backoffs | recanvassWaits
  | conflictsSeen | lendsSent | declinesSent | conflictsSent | repliesRefused | canvassOwnOrigin
  | creditsLent | creditsBorrowed | returnsSent | creditsReturned | returnsRefused | creditsUnreturned
  | returnsReceived | creditsBack | lateLends | lateCreditsKept | lateCreditsReceived | lateRepliesIgnored
  | creditsRestored | creditsDiscarded
  -- scu (R110)
  | strokesSent | strokesRefused | strokesUnexpected | synthStrokesTaken | catchupShifts | selfStrokes
  | lateMerged | lateDiscarded | motionConfirmed | motionExcess | motionMissing | motionIgnored
  | pressCallsTaken | selfCallsTaken | callsRepeated | callsDropped | pushesStarted | pusherTimeouts
  | latePushed | pushedSpurious | pusherResets | pressCalls | callsSent | callsRefused | callResends
  | selfCalls | fillCalls | pressIdleHolds
  -- exu (R126)
  | gatePass | gateReject | reasonMeanLow | reasonMeanHigh | reasonCoreLow | reasonSurfaceHigh
  | reasonSoakOver | reasonTrack | reasonModel | reasonPyroOut | pyroForced | pyroInvalid | pyroOutside
  | deliveredLost | exitLogEntries | exitLogOverwrites | trimSamples | trimWindows | trimsSentUp
  | trimsSentDown | trimsRefused | trimsApplied | trimsClamped | trimsMissed
  -- hlu (R143)
  | ownCausesRaised | ownCausesRemoved | holdsSent | holdsRefused | clearsSent | clearsRefused | holdsTaken
  | clearsTaken | clearsUnmatched | holdsOwnOrigin | holdsUnknown | holdListFull | holdEvictions
  | holdExpiries | runEntries | holdEntries | trippedEntries
  -- ldu (R174)
  | hellosSent | hellosAnswered | hellosIgnored | posSent | posIgnored | countResent | countIgnored
  | discoveries | rejoinRefused | rejoins | helloChecksPassed | miswiredMarks
  -- svi (R187)
  | serviceRequests | serviceRefused | serviceStray | serviceAbandoned | imagesLoaded | imagesRefused
  deriving DecidableEq, Repr

/-- The counters of one port, in the order of R163. -/
inductive PortCounter where
  | charErrors | linkUps | linkDownsErrors | linkDownsSilence | linkLossDiscards | framesGood
  | frameCharErrors | lengthErrors | crcErrors | strayData | unknownKinds | headerErrors | framesConsumed
  | misrouted | droppedState | framesForwarded | forwardOverrun | localTaken | localRefused | localDisplaced
  | starvationOverrides | framesSent
  deriving DecidableEq, Repr

/-- Where a counter stands in the vector of counters. -/
def Counter.idx (c : Counter) : Fin 134 := ⟨c.ctorIdx, by cases c <;> decide⟩

def PortCounter.idx (c : PortCounter) : Fin 22 := ⟨c.ctorIdx, by cases c <;> decide⟩

/-! ### The state -/

/-- The state of the part. `micros` counts microseconds since the end of the last reset (log 1), `freeIndex` picks the free
values (log 11), and `pending` is the queue of the commands that wait, first in, first out. -/
structure State where
  micros : Nat
  freeIndex : Nat
  pins : Pins
  ldu : Ldu
  cq : CoilQueue
  tau : Tau
  pdu : Pdu
  ivi : Ivi
  cru : Cru
  tracker : Tracker
  head : Head
  tail : Tail
  exu : Exu
  hlu : Hlu
  upPort : LinkPort
  downPort : LinkPort
  ltr : Ltr
  svi : Svi
  counters : Vector (BitVec 32) 134
  pending : List Instr
  deriving DecidableEq, Repr

/-- The reasons a step could stop with a fault. There is none: every rule of the spec gives each command an effect, and the
FAULT of R164 and of R96 are states of the station and of the pusher, not stops. -/
inductive Fault where
  deriving DecidableEq, Repr

/-- The reasons a step could be refused. -/
inductive Refusal where
  /-- Raised by exec alone, for a row of the opcode table that has no meaning yet; safe. No arm raises it. -/
  | notModelled (mnemonic : String)
  deriving DecidableEq, Repr

/-! ### Values after reset -/

/-- The stroke state after reset (R20). -/
def CoilQueue.reset : CoilQueue :=
  { slots := [], lastStroke := 0, lastShift := 0, intervalOpen := false, iAvg := 0, newestSerial := none }

/-- R25, R125. -/
def Tau.reset : Tau :=
  { periodStart := none, residue := 0, trim := 0, targets := none,
    sample := { pFb := 0, substituted := false, useful := 0 }, lastTrim := none }

/-- R47. -/
def Pdu.reset : Pdu :=
  { ePlan := 0, pDem := 0, guardActive := false, pAvail := 0, creditClamped := false, pPrev := 0, pNext := 0 }

/-- R56. -/
def Ivi.reset : Ivi :=
  { buffer := 0, bufferMark := false, latched := 0, latchedMark := false, inForce := 0, enable := false,
    notReady := false }

/-- R68. -/
def Cru.reset : Cru :=
  { base := 0, loans := 0, pool := 0, need := none, tracker := none, counter := 0, backoff := none, recanvass := none }

/-- R88. -/
def Tracker.reset : Tracker :=
  { unmatched := 0, motionDeadline := none, unconfirmed := 0, confirmDeadline := none }

/-- R96. -/
def Head.reset : Head :=
  { calls := [], lastExecuted := none, pusher := .idle, pulse := none, timer := none, owed := false, nextSerial := 1 }

/-- R102. -/
def Tail.reset : Tail :=
  { counter := 0, outstanding := none, callTimer := none, pressWaiting := false, fill := false, fillTimer := none,
    pressIdle := none }

/-- R111. -/
def Exu.reset : Exu :=
  { preview := none, awaiting := none, gate := false, pulse := .off, owed := 0, log := [], window := [], counter := 0 }

/-- R128. -/
def Hlu.reset : Hlu :=
  { entries := [], refresh := none }

/-- R146, R164, R175: both transmitters begin a break period at the end of a reset, when the clock reads 0. -/
def LinkPort.reset : LinkPort :=
  { link := .down, validRun := 0, errorRun := 0, silence := none, receiver := .hunting,
    transmitter := .brk (BitVec.ofNat 32 Config.breakMs), forward := [], localQ := [], starvation := 0,
    check := .pending, checkTimer := none, recvEnd := none, sendEnd := none, counters := .replicate 22 0 }

/-- R164. -/
def Ldu.reset : Ldu :=
  { state := .config, reason := none, position := none, n := none, role := none, headClaim := false, seen := false,
    settle := none, helloTimer := none, posTimer := none }

/-- Every field of the pattern ANY (R177). -/
def Pattern.any : Pattern :=
  { kind := none, src := none, dst := none, action := none, error := none, key := none }

/-- R176 to R179. -/
def Ltr.reset : Ltr :=
  { state := .idle, mode := .free, pattern := .any, filter := .replicate 16 0xFFFF, traceErrors := true, ring := [],
    writeIndex := 0, rollover := 0 }

/-- R182, R184; the reset cause of a power-on (R186). -/
def Svi.reset : Svi :=
  { image := none, receiver := .hunting, causePowerOn := true, causeResetPin := false }

/-- DESIGN CHOICE (log 7): the levels of the input lines in `State.reset`. The lines belong to the plant and the spec gives
them no reset value. -/
def Pins.quiet : Pins :=
  { ready := false, fault := false, estop := false, tripReset := false, feedback := 0, feedbackValid := false,
    loaderPresent := false, weigh := 0, pyro := 0, pyroValid := false }

/-- The part right after a power-on reset (R186), with the plant's lines quiet and no command waiting. -/
def State.reset : State :=
  { micros := 0, freeIndex := 0, pins := .quiet, ldu := .reset, cq := .reset, tau := .reset, pdu := .reset, ivi := .reset,
    cru := .reset, tracker := .reset, head := .reset, tail := .reset, exu := .reset, hlu := .reset, upPort := .reset,
    downPort := .reset, ltr := .reset, svi := .reset, counters := .replicate 134 0, pending := [] }

end Sys2Proof.Machine
end

