-- ==== Sys2Proof/Machine/Arith.lean ====
section
/-!
DEFINITION. The arithmetic of the manual (00, "Arithmetic"): ceil, clamp and saturation, the byte order of chapter 12, and
the CRC of R188.
-/

namespace Sys2Proof.Machine

/-- Division rounding up. Denominators in the rules are never 0. -/
def ceilDiv (a b : Nat) : Nat := (a + b - 1) / b

/-- clamp(x, a, b). -/
def clampNat (x a b : Nat) : Nat := min (max x a) b

def clampInt (x a b : Int) : Int := min (max x a) b

/-- A 32-bit counter saturates (00, "Counters"). -/
def satAdd (c : BitVec 32) (n : Nat) : BitVec 32 := BitVec.ofNat 32 (min (c.toNat + n) 4294967295)

/-- The `n` low bytes of a number, most significant first (chapter 12). -/
def toBytes : Nat → Nat → List Byte
  | 0, _ => []
  | n + 1, v => BitVec.ofNat 8 (v / 256 ^ n) :: toBytes n v

/-- The number a list of bytes spells, most significant first. -/
def ofBytes (bs : List Byte) : Nat := bs.foldl (fun acc b => acc * 256 + b.toNat) 0

/-- `n` bytes of two's complement (chapter 12). -/
def toBytesInt (n : Nat) (v : Int) : List Byte := toBytes n ((v % (256 ^ n : Nat)).toNat)

/-- One bit of the CRC's shift register: generator x^16 + x^12 + x^5 + 1, most significant bit first (R188). -/
def crcBit (r : Half) : Half := if r.msb then (r <<< 1) ^^^ 0x1021 else r <<< 1

/-- One byte into the CRC. -/
def crcByte (r : Half) (b : Byte) : Half :=
  crcBit (crcBit (crcBit (crcBit (crcBit (crcBit (crcBit (crcBit (r ^^^ (b.zeroExtend 16 <<< 8)))))))))

/-- The CRC of R188 and R182: all ones at the start, not inverted at the end. -/
def crc (bs : List Byte) : Half := bs.foldl crcByte 0xFFFF

/-- The fewest whole bytes that hold 0..max (R190). -/
def bytesFor (max : Nat) : Nat :=
  if max < 256 then 1 else if max < 65536 then 2 else if max < 16777216 then 3 else if max < 4294967296 then 4 else 5

/-- An item of range 0..max in a read response (R190). -/
def item (max v : Nat) : List Byte := toBytes (bytesFor max) v

/-- An item that may be absent: the fewest bytes whose all-ones value lies above the range; absent is all ones (R190). -/
def optItem (max : Nat) (v : Option Nat) : List Byte :=
  match v with
  | some x => toBytes (bytesFor (max + 1)) x
  | none => List.replicate (bytesFor (max + 1)) 0xFF

/-- yes and no, set and clear, high and low: 1 and 0 (log 25). -/
def bitItem (b : Bool) : List Byte := if b then [1] else [0]

/-- A list is a count byte followed by its elements (R190). -/
def listItem {α : Type} (xs : List α) (f : α → List Byte) : List Byte :=
  BitVec.ofNat 8 xs.length :: xs.flatMap f

/-- A set is one bit per member, in the order of its table (R190), the first at bit 0 (DESIGN CHOICE, log 25). -/
def setBits (bs : List Bool) : Nat := bs.foldr (fun b acc => acc * 2 + b.toNat) 0

/-- A reading of the clock has come when it does not lie ahead (00, "Time"; log 3). -/
def reached (now t : Time) : Bool := decide ((now - t).toNat < 2147483648)

/-- A timer is due: it runs and its expiry has come (log 3). -/
def due (now : Time) : Option Time → Bool
  | some t => reached now t
  | none => false

/-- The reading `ms` milliseconds after a reading. -/
def after (now : Time) (ms : Nat) : Time := now + BitVec.ofNat 32 ms

end Sys2Proof.Machine
end

