-- ==== Sys2Proof/Machine/Operands.lean ====
section
/-!
DEFINITION. The formats of chapter 12 that commands and frames carry: kinds, classes and paths (R153), the payload layouts
(R189) with their header checks (R152), the characters of a link (R144), and what the trace sees of a frame (R175).
-/

namespace Sys2Proof.Machine

/-! ### Kinds, classes and paths (R153, R188) -/

/-- The kind code of a frame start (R188). -/
def kindCode : Kind → Byte
  | .hold => 1 | .clear => 2 | .stroke => 3 | .call => 4 | .pos => 5 | .count => 6 | .hello => 7 | .canvass => 8
  | .reply => 9 | .ret => 10 | .trim => 11

/-- The kind a code names: codes 12 to 255 are unknown (R188). -/
def kindOfCode (b : Byte) : Option Kind :=
  [Kind.hold, .clear, .stroke, .call, .pos, .count, .hello, .canvass, .reply, .ret, .trim].find? (kindCode · == b)

/-- The class of a kind: 0 is the highest priority (R153). -/
def kindClass : Kind → Nat
  | .hold | .clear => 0
  | .stroke | .call | .pos | .count | .hello => 1
  | .canvass | .reply | .ret => 2
  | .trim => 3

inductive Path where
  | addressed | broadcast | neighbour
  deriving DecidableEq, Repr

/-- The path of a kind (R153). -/
def kindPath : Kind → Path
  | .stroke | .call | .reply | .ret => .addressed
  | .pos | .hello => .neighbour
  | .hold | .clear | .count | .canvass | .trim => .broadcast

/-- The port on which frames of a kind bound to one direction arrive: DOWNSTREAM on UP, UPSTREAM on DOWN (R152, R153). -/
def kindArrivesOn : Kind → Option Port
  | .stroke | .pos => some .up
  | .call | .count | .trim => some .down
  | _ => none

def payloadKind : Payload → Kind
  | .hold .. => .hold
  | .clear .. => .clear
  | .stroke .. => .stroke
  | .call .. => .call
  | .pos .. => .pos
  | .count .. => .count
  | .hello .. => .hello
  | .canvass .. => .canvass
  | .reply .. => .reply
  | .ret .. => .ret
  | .trim .. => .trim

def frameKind (f : Frame) : Kind := payloadKind f.payload

def frameClass (f : Frame) : Nat := kindClass (frameKind f)

/-- The destination byte of ALL (R188). -/
def dstAll : Byte := 255

/-! ### Codes of payload fields (R189) -/

def causeCode : Cause → Byte
  | .pressIdle => 1 | .linkLossUp => 2 | .linkLossDown => 3 | .estop => 4 | .inverterFault => 5 | .pusherFault => 6

def causeOfCode (b : Byte) : Option Cause :=
  [Cause.pressIdle, .linkLossUp, .linkLossDown, .estop, .inverterFault, .pusherFault].find? (causeCode · == b)

def callKindCode : CallKind → Byte
  | .press => 1 | .self => 2

def replyKindCode : ReplyKind → Byte
  | .lend => 1 | .decline => 2 | .conflict => 3

def helloStateCode : HelloState → Byte
  | .discover => 1 | .fault => 2 | .run => 3 | .hold => 4 | .tripped => 5

/-- step: 1 for +1 and 255 for −1. -/
def trimStepCode : TrimStep → Byte
  | .raise => 1 | .lower => 255

def trimStepValue : TrimStep → Int
  | .raise => 1 | .lower => -1

def boolCode (b : Bool) : Byte := if b then 1 else 0

def callKindOfCode (b : Byte) : Option CallKind := [CallKind.press, .self].find? (callKindCode · == b)

def replyKindOfCode (b : Byte) : Option ReplyKind := [ReplyKind.lend, .decline, .conflict].find? (replyKindCode · == b)

def helloStateOfCode (b : Byte) : Option HelloState :=
  [HelloState.discover, .fault, .run, .hold, .tripped].find? (helloStateCode · == b)

def trimStepOfCode (b : Byte) : Option TrimStep := [TrimStep.raise, .lower].find? (trimStepCode · == b)

def boolOfCode (b : Byte) : Option Bool := [false, true].find? (boolCode · == b)

/-- The marks of a HELLO: wanted in bit 0, last stroke present in bit 1; bits 2 to 7 are ignored (DESIGN CHOICE, log 45). -/
def helloWanted (h : Hello) : Bool := h.marks.getLsbD 0

def helloStrokePresent (h : Hello) : Bool := h.marks.getLsbD 1

/-- The states of a HELLO that are on line: RUN, HOLD or TRIPPED (R171). -/
def helloOnLine (h : Hello) : Bool :=
  match h.state with
  | .run | .hold | .tripped => true
  | .discover | .fault => false

/-- The newest serial of a HELLO: 0 for none. -/
def helloSerial (h : Hello) : Option Nat := if h.newestSerial = 0 then none else some h.newestSerial.toNat

/-! ### Payload layouts (R189) -/

def encodeStation (e : Byte × BitVec 16) : List Byte := e.1 :: toBytes 2 e.2.toNat

/-- A record inside a STROKE: 15 bytes, then the list. -/
def encodeRecord (r : WireRecord) : List Byte :=
  toBytes 2 r.serial.toNat ++ toBytes 3 r.mass.toNat ++ toBytes 4 r.h.toNat ++ toBytes 2 r.d.toNat ++
  toBytes 2 r.soak.toNat ++ [r.flags] ++ [BitVec.ofNat 8 r.stations.length] ++ r.stations.flatMap encodeStation

/-- The payload of a frame as its bytes. -/
def encodePayload : Payload → List Byte
  | .hold cause origin => [cause, origin]
  | .clear cause origin => [cause, origin]
  | .stroke n synth none => toBytes 2 n.toNat ++ [synth, 0]
  | .stroke n synth (some r) => toBytes 2 n.toNat ++ [synth, 1] ++ encodeRecord r
  | .call k n => callKindCode k :: toBytes 2 n.toNat
  | .pos p recipe version agrees => p :: (toBytes 2 recipe.toNat ++ [version, boolCode agrees])
  | .count n agrees => [n, boolCode agrees]
  | .hello h =>
    [h.position, helloStateCode h.state] ++ toBytes 2 h.recipe.toNat ++ toBytes 2 h.lastStroke.toNat ++
    toBytes 2 h.newestSerial.toNat ++ [h.n, h.marks]
  | .canvass origin n want => origin :: (toBytes 2 n.toNat ++ toBytes 2 want.toNat)
  | .reply n k amount => toBytes 2 n.toNat ++ [replyKindCode k] ++ toBytes 2 amount.toNat
  | .ret n amount => toBytes 2 n.toNat ++ toBytes 2 amount.toNat
  | .trim step n => trimStepCode step :: toBytes 2 n.toNat

/-- Two bytes, most significant first. -/
def half (a b : Byte) : Half := a ++ b

/-- The entries of a station list: three bytes each, and nothing left over. -/
def parseStations : Nat → List Byte → Option (List (Byte × BitVec 16))
  | 0, [] => some []
  | 0, _ => none
  | c + 1, p :: t1 :: t2 :: rest => (parseStations c rest).map ((p, half t1 t2) :: ·)
  | _ + 1, _ => none

/-- A record inside a STROKE; the list count is 0 to 16 and agrees with the length (R189). -/
def parseRecord : List Byte → Option WireRecord
  | s1 :: s2 :: m1 :: m2 :: m3 :: h1 :: h2 :: h3 :: h4 :: d1 :: d2 :: k1 :: k2 :: flags :: c :: rest =>
    if c.toNat ≤ 16 then
      (parseStations c.toNat rest).map fun sts =>
        { serial := half s1 s2, mass := (m1 ++ m2 ++ m3 : BitVec 24), h := (h1 ++ h2 ++ h3 ++ h4 : BitVec 32),
          d := half d1 d2, soak := half k1 k2, flags := flags, stations := sts }
    else none
  | _ => none

/-- The payload its bytes spell; none where the length or a coded field is wrong, a header error under R152 (R189). -/
def parsePayload : Kind → List Byte → Option Payload
  | .hold, [cause, origin] => some (.hold cause origin)
  | .clear, [cause, origin] => some (.clear cause origin)
  | .stroke, n1 :: n2 :: synth :: content :: rest =>
    if content = 0 then (if rest = [] then some (.stroke (half n1 n2) synth none) else none)
    else if content = 1 then (parseRecord rest).map fun r => .stroke (half n1 n2) synth (some r)
    else none
  | .call, [k, n1, n2] => (callKindOfCode k).map fun k' => .call k' (half n1 n2)
  | .pos, [p, r1, r2, version, m] => (boolOfCode m).map fun m' => .pos p (half r1 r2) version m'
  | .count, [n, m] => (boolOfCode m).map fun m' => .count n m'
  | .hello, [p, st, r1, r2, l1, l2, s1, s2, n, marks] =>
    (helloStateOfCode st).map fun st' =>
      .hello { position := p, state := st', recipe := half r1 r2, lastStroke := half l1 l2,
               newestSerial := half s1 s2, n := n, marks := marks }
  | .canvass, [origin, n1, n2, w1, w2] => some (.canvass origin (half n1 n2) (half w1 w2))
  | .reply, [n1, n2, k, a1, a2] => (replyKindOfCode k).map fun k' => .reply (half n1 n2) k' (half a1 a2)
  | .ret, [n1, n2, a1, a2] => some (.ret (half n1 n2) (half a1 a2))
  | .trim, [st, n1, n2] => (trimStepOfCode st).map fun st' => .trim st' (half n1 n2)
  | _, _ => none

/-! ### Header checks (R152) -/

/-- The payload conditions of R189: a REPLY's amount agrees with its kind, a RETURN's is not 0, and a list count is at
most 16. -/
def payloadOk : Payload → Bool
  | .reply _ .lend amount => decide (1 ≤ amount.toNat ∧ amount.toNat ≤ 500)
  | .reply _ _ amount => amount == 0
  | .ret _ amount => amount != 0
  | .stroke _ _ (some r) => decide (r.stations.length ≤ 16)
  | _ => true

/-- The destination suits the path: a position for an addressed kind, ALL otherwise (R152, R188). -/
def dstOk (k : Kind) (dst : Byte) : Bool :=
  match kindPath k with
  | .addressed => decide (dst.toNat ≤ 15)
  | .broadcast | .neighbour => dst == dstAll

/-- The kind may travel in the direction of frames that arrive on the port. -/
def directionOk (k : Kind) (p : Port) : Bool :=
  match kindArrivesOn k with
  | some q => p == q
  | none => true

/-- A frame with a good class and direction bit passes the header checks of R152 on its port of arrival. -/
def headerOk (p : Port) (f : Frame) : Bool :=
  directionOk (frameKind f) p && dstOk (frameKind f) f.dst && payloadOk f.payload

/-- Header 1 of a frame that travels as frames arriving on the port do: direction in the top bit, class in the two lowest
(R188). -/
def header1 (p : Port) (k : Kind) : Byte :=
  BitVec.ofNat 8 ((match p with | .up => 0 | .down => 128) + kindClass k)

/-- The bytes of a frame from its kind code to the end of its payload: what the CRC is computed over (R188). `arrives` is
the port on which the receiver takes it. -/
def frameBytes (arrives : Port) (f : Frame) : List Byte :=
  [kindCode (frameKind f), header1 arrives (frameKind f), f.src, f.dst,
   BitVec.ofNat 8 (encodePayload f.payload).length] ++ encodePayload f.payload

/-- A frame on the line: its bytes and its CRC, high byte first. -/
def frameChars (arrives : Port) (f : Frame) : List Byte :=
  frameBytes arrives f ++ toBytes 2 (crc (frameBytes arrives f)).toNat

/-- Characters of a frame on the line: payload length + 7 (R145). -/
def frameLength (f : Frame) : Nat := (encodePayload f.payload).length + 7

/-! ### Characters (R144) -/

/-- The four sorts of character. -/
inductive CharSort where
  | error | idle | start (code : Byte) | data (b : Byte)
  deriving DecidableEq, Repr

/-- The number of ones among the eight data bits. -/
def onesOf (b : Byte) : Nat := ((List.range 8).filter (b.getLsbD ·)).length

/-- The sort of a received character: parity is odd over data, mark and parity bit; the stop bit must be found. -/
def sortChar (c : RawChar) : CharSort :=
  if (onesOf c.data + c.mark.toNat + c.parity.toNat) % 2 = 0 ∨ c.stop = false then .error
  else if c.mark then (if c.data = 0 then .idle else .start c.data)
  else .data c.data

/-! ### What the trace sees of a frame (R175) -/

/-- The bytes of the payload that hold a frame's key: their offset and number. -/
def keySpan : Kind → Option (Nat × Nat)
  | .stroke => some (0, 2)
  | .call => some (1, 2)
  | .canvass => some (1, 2)
  | .reply => some (0, 2)
  | .ret => some (0, 2)
  | .trim => some (1, 2)
  | .hold => some (0, 1)
  | .clear => some (0, 1)
  | .pos => some (0, 1)
  | .count => some (0, 1)
  | .hello => none

/-- The key that has arrived among the payload's bytes. -/
def keyOf (k : Kind) (payload : List Byte) : Option Half :=
  match keySpan k with
  | some (off, n) =>
    if off + n ≤ payload.length then some (BitVec.ofNat 16 (ofBytes ((payload.drop off).take n))) else none
  | none => none

/-- A source above 15 is taken as lacking (R188). -/
def viewSrc (b : Byte) : Option Nat := if b.toNat ≤ 15 then some b.toNat else none

/-- A destination: 0 to 15, or ALL, held as 16 (R190); 16 to 254 is taken as lacking (log 30). -/
def viewDst (b : Byte) : Option Nat := if b.toNat ≤ 15 then some b.toNat else if b = dstAll then some 16 else none

/-- What the trace sees of a frame from its first bytes (R162: a dropped frame shows what it had received). -/
def viewOfBytes (got : List Byte) : FrameView :=
  { kind := got[0]?, src := (got[2]?).bind viewSrc, dst := (got[3]?).bind viewDst,
    key := match got[0]? with
      | some code =>
        (match kindOfCode code with
         | some k => keyOf k (((got.drop 5).take ((got[4]?).elim 0 BitVec.toNat)))
         | none => none)
      | none => none }

/-- What the trace sees of a whole frame. -/
def viewOfFrame (f : Frame) : FrameView :=
  { kind := some (kindCode (frameKind f)), src := viewSrc f.src, dst := viewDst f.dst,
    key := keyOf (frameKind f) (encodePayload f.payload) }

end Sys2Proof.Machine
end

