-- ==== Sys2Proof/Machine/Flags.lean ====
section
/-!
DEFINITION. The flag sets: a record's flags (R4) with their byte on the link (R189), and the reasons of a verdict (R112, R117)
with their bytes in READ_STATUS (R190) and in the exit log (R191).
-/

namespace Sys2Proof.Machine

/-- The empty set of flags. -/
def Flags.empty : Flags :=
  { lostTrack := false, lateRecord := false, modelLimit := false, massClamped := false, surfaceExcess := false,
    excursion := false, creditShort := false }

/-- The members of a flag set in the order of R4. -/
def Flags.members (f : Flags) : List Bool :=
  [f.lostTrack, f.lateRecord, f.modelLimit, f.massClamped, f.surfaceExcess, f.excursion, f.creditShort]

/-- The flag byte: LOST_TRACK bit 0 to CREDIT_SHORT bit 6, bit 7 sent 0 (R189). -/
def Flags.toByte (f : Flags) : Byte := BitVec.ofNat 8 (setBits f.members)

/-- The flags a byte carries; bit 7 is ignored (R189). -/
def Flags.ofByte (b : Byte) : Flags :=
  { lostTrack := b.getLsbD 0, lateRecord := b.getLsbD 1, modelLimit := b.getLsbD 2, massClamped := b.getLsbD 3,
    surfaceExcess := b.getLsbD 4, excursion := b.getLsbD 5, creditShort := b.getLsbD 6 }

/-- The flags of either set. -/
def Flags.union (a b : Flags) : Flags :=
  { lostTrack := a.lostTrack || b.lostTrack, lateRecord := a.lateRecord || b.lateRecord,
    modelLimit := a.modelLimit || b.modelLimit, massClamped := a.massClamped || b.massClamped,
    surfaceExcess := a.surfaceExcess || b.surfaceExcess, excursion := a.excursion || b.excursion,
    creditShort := a.creditShort || b.creditShort }

/-- No reason. -/
def Reasons.empty : Reasons :=
  { meanLow := false, meanHigh := false, coreLow := false, surfaceHigh := false, soakOver := false, track := false,
    model := false, pyroOut := false }

/-- The seven reasons of a model verdict, in the order of the table of R112. -/
def Reasons.modelMembers (r : Reasons) : List Bool :=
  [r.meanLow, r.meanHigh, r.coreLow, r.surfaceHigh, r.soakOver, r.track, r.model]

/-- The members of a set of final reasons: those of R112, and PYRO_OUT, which R117 adds, last. -/
def Reasons.members (r : Reasons) : List Bool := r.modelMembers ++ [r.pyroOut]

/-- The verdict is PASS when no reason holds (R112). -/
def Reasons.pass (r : Reasons) : Bool := r.members.all (! ·)

/-- The reasons byte: MEAN_LOW bit 0 to PYRO_OUT bit 7 (R191). -/
def Reasons.toByte (r : Reasons) : Byte := BitVec.ofNat 8 (setBits r.members)

/-- The reasons of a model verdict as one byte, MEAN_LOW bit 0 to MODEL bit 6 (R112, R190; DEDUCED, log 56). -/
def Reasons.modelByte (r : Reasons) : Byte := BitVec.ofNat 8 (setBits r.modelMembers)

/-- The counters of the reasons that hold (R117, R126). -/
def Reasons.counters (r : Reasons) : List Counter :=
  (if r.meanLow then [.reasonMeanLow] else []) ++ (if r.meanHigh then [.reasonMeanHigh] else []) ++
  (if r.coreLow then [.reasonCoreLow] else []) ++ (if r.surfaceHigh then [.reasonSurfaceHigh] else []) ++
  (if r.soakOver then [.reasonSoakOver] else []) ++ (if r.track then [.reasonTrack] else []) ++
  (if r.model then [.reasonModel] else []) ++ (if r.pyroOut then [.reasonPyroOut] else [])

end Sys2Proof.Machine
end

