-- ==== Sys2Proof/Machine/Image.lean ====
section
/-!
DEFINITION. The configuration image: reading it from the 286 bytes of R191 and checking it row by row (R184).
-/

namespace Sys2Proof.Machine

/-- The big-endian number of `w` bytes at an offset. -/
def fieldAt (bs : List Byte) (off w : Nat) : Nat := ofBytes ((bs.drop off).take w)

/-- The image its 286 bytes spell (R191). -/
def parseImage (bs : List Byte) : Image :=
  { recipeId := fieldAt bs 0 2
    version := fieldAt bs 2 1
    slotCount := Vector.ofFn fun i => fieldAt bs (3 + i) 1
    eta := Vector.ofFn fun i => fieldAt bs (19 + i) 1
    pMax := Vector.ofFn fun i => fieldAt bs (35 + 2 * i) 2
    baseCredits := Vector.ofFn fun i => fieldAt bs (67 + i) 1
    target := Vector.ofFn fun i => fieldAt bs (83 + 2 * i) 2
    weights := Vector.ofFn fun i => fieldAt bs (115 + i) 1
    bandLo := fieldAt bs 123 1
    bandHi := fieldAt bs 124 1
    soakThreshold := fieldAt bs 125 2
    soakLimit := fieldAt bs 127 2
    surfaceLimit := fieldAt bs 129 2
    guardTemp := fieldAt bs 131 2
    guardPower := fieldAt bs 133 2
    holdHorizon := fieldAt bs 135 2
    ramp := fieldAt bs 137 2
    cadence := fieldAt bs 139 2
    creditKw := fieldAt bs 141 1
    lineTotal := fieldAt bs 142 2
    keep := fieldAt bs 144 1
    canvassTimeout := fieldAt bs 145 2
    backoffUnit := fieldAt bs 147 1
    recanvassInterval := fieldAt bs 148 2
    nominalMass := fieldAt bs 150 3
    weigh := fieldAt bs 153 1
    ambient := fieldAt bs 154 1
    breakpointCount := fieldAt bs 155 1
    breakpoints := Vector.ofFn fun i => { h := fieldAt bs (156 + 4 * i) 2, t := fieldAt bs (158 + 4 * i) 2 }
    factors := Vector.ofFn fun i =>
      { c := fieldAt bs (208 + 4 * i) 1, g := fieldAt bs (209 + 4 * i) 1, d := fieldAt bs (210 + 4 * i) 1,
        l := fieldAt bs (211 + 4 * i) 1 }
    exitLow := fieldAt bs 256 2
    exitHigh := fieldAt bs 258 2
    coreMin := fieldAt bs 260 2
    pyroEnable := fieldAt bs 262 1
    pyroLow := fieldAt bs 263 2
    pyroHigh := fieldAt bs 265 2
    sampleDelay := fieldAt bs 267 2
    trimDeadband := fieldAt bs 269 1
    fillInterval := fieldAt bs 270 2
    pressIdleTimeout := fieldAt bs 272 3
    callTimeout := fieldAt bs 275 2
    pusherPulse := fieldAt bs 277 2
    pusherTimeout := fieldAt bs 279 2
    motionSense := fieldAt bs 281 1
    motionDeadline := fieldAt bs 282 2
    confirmWindow := fieldAt bs 284 2 }

/-- `lo ≤ v ≤ hi`. -/
def within (v lo hi : Nat) : Bool := decide (lo ≤ v ∧ v ≤ hi)

/-- One check of R184: the row of R191 it is reported at, the element, and whether it holds. -/
structure ImageCheck where
  row : Nat
  element : Nat
  ok : Bool
  deriving DecidableEq, Repr

/-- The check of a row that is a single field. -/
def checkField (row : Nat) (ok : Bool) : List ImageCheck := [{ row := row, element := 0, ok := ok }]

/-- The checks of a row of several elements, element 0 first. -/
def checkEach (row n : Nat) (ok : Nat → Bool) : List ImageCheck :=
  (List.range n).map fun i => { row := row, element := i, ok := ok i }

/-- The breakpoint of an index. -/
def Image.breakpoint (img : Image) (k : Nat) : Breakpoint := (img.breakpoints[k]?).getD ⟨0, 0⟩

/-- The factors of a segment's index. -/
def Image.factor (img : Image) (k : Nat) : Factors := (img.factors[k]?).getD ⟨0, 0, 0, 0⟩

/-- Row 29: breakpoint k against R26, the first against (0, T_0), the last against the nominal mass (R191). -/
def Image.breakpointOk (img : Image) (k : Nat) : Bool :=
  decide ((img.breakpoint k).t ≤ 1600) &&
  (if k = 0 then decide ((img.breakpoint 0).h = 0 ∧ (img.breakpoint 0).t = img.ambient)
   else decide ((img.breakpoint (k - 1)).h < (img.breakpoint k).h ∧ (img.breakpoint (k - 1)).t < (img.breakpoint k).t)) &&
  (if k + 1 = img.breakpointCount then decide ((img.breakpoint k).h * img.nominalMass / 100 ≤ Config.hMax) else true)

/-- Row 30: a segment's factors (R26): coupling 1 to 255, the others 0 to 255. -/
def Image.factorOk (img : Image) (k : Nat) : Bool :=
  within (img.factor k).c 1 255 && within (img.factor k).g 0 255 && within (img.factor k).d 0 255 &&
  within (img.factor k).l 0 255

/-- Every check of R184 in the order of R191's rows. -/
def Image.checks (img : Image) : List ImageCheck :=
  checkField 1 (within img.recipeId 1 65535) ++
  checkField 2 (within img.version 0 255) ++
  checkEach 3 16 (fun i => within ((img.slotCount[i]?).getD 0) 1 8) ++
  checkEach 4 16 (fun i => within ((img.eta[i]?).getD 0) 64 255) ++
  checkEach 5 16 (fun i => within ((img.pMax[i]?).getD 0) 100 5000) ++
  checkEach 6 16 (fun i => within ((img.baseCredits[i]?).getD 0) 0 255) ++
  checkEach 7 16 (fun i => within ((img.target[i]?).getD 0) 100 1400) ++
  checkEach 8 8 (fun i => within ((img.weights[i]?).getD 0) 1 255) ++
  checkField 9 (within img.bandLo 0 200) ++
  checkField 10 (within img.bandHi 0 200) ++
  checkField 11 (within img.soakThreshold 500 1400) ++
  checkField 12 (within img.soakLimit 100 36000) ++
  checkField 13 (within img.surfaceLimit 800 1500) ++
  checkField 14 (within img.guardTemp 0 img.surfaceLimit) ++
  checkField 15 (within img.guardPower 0 5000) ++
  checkField 16 (within img.holdHorizon 10 600) ++
  checkField 17 (within img.ramp 10 5000) ++
  checkField 18 (within img.cadence 2000 60000) ++
  checkField 19 (within img.creditKw 1 100) ++
  checkField 20 (within img.lineTotal 1 4095 && decide (img.lineTotal * img.creditKw ≤ 127500)) ++
  checkField 21 (within img.keep 0 255) ++
  checkField 22 (within img.canvassTimeout 20 1000) ++
  checkField 23 (within img.backoffUnit 5 200) ++
  checkField 24 (within img.recanvassInterval 100 10000) ++
  checkField 25 (within img.nominalMass 500 200000) ++
  checkField 26 (within img.weigh 0 1) ++
  checkField 27 (within img.ambient 0 60) ++
  checkField 28 (within img.breakpointCount 2 13) ++
  checkEach 29 (min img.breakpointCount 13) img.breakpointOk ++
  checkEach 30 (min (img.breakpointCount - 1) 12) img.factorOk ++
  checkField 31 (within img.exitLow 0 1600) ++
  checkField 32 (within img.exitHigh 0 1600 && decide (img.exitLow ≤ img.exitHigh)) ++
  checkField 33 (within img.coreMin 0 1600) ++
  checkField 34 (within img.pyroEnable 0 1) ++
  checkField 35 (within img.pyroLow 0 1600) ++
  checkField 36 (within img.pyroHigh 0 1600 && decide (img.pyroLow ≤ img.pyroHigh)) ++
  checkField 37 (within img.sampleDelay 50 2000) ++
  checkField 38 (within img.trimDeadband 1 100) ++
  checkField 39 (img.fillInterval == 0 || within img.fillInterval 2000 60000) ++
  checkField 40 (within img.pressIdleTimeout 5000 600000) ++
  checkField 41 (within img.callTimeout 1000 60000) ++
  checkField 42 (within img.pusherPulse 50 2000) ++
  checkField 43 (within img.pusherTimeout 500 10000) ++
  checkField 44 (within img.motionSense 0 1) ++
  checkField 45 (within img.motionDeadline 50 2000) ++
  checkField 46 (within img.confirmWindow 50 2000)

/-- The first check that fails: the field an IMAGE refusal reports (R184). -/
def Image.firstFailure (img : Image) : Option ImageCheck := img.checks.find? (! ·.ok)

/-- Every check passes. -/
def Image.valid (img : Image) : Bool := img.checks.all (·.ok)

end Sys2Proof.Machine
end

