-- ==== Sys2Proof/Machine/Thermal.lean ====
section
/-!
DEFINITION. The thermal model of chapter 2 on one image and one record: the enthalpy table (R26 to R29), the inverse lookup
(R42, R43), the distribution of a period's energy (R32, R33) and the update of a record at a period end (R34 to R38).
-/

namespace Sys2Proof.Machine

/-! ### The table -/

/-- The last breakpoint of the table (R26). -/
def Image.last (img : Image) : Breakpoint := img.breakpoint (img.breakpointCount - 1)

/-- The number of segments (R26). -/
def Image.segmentCount (img : Image) : Nat := img.breakpointCount - 1

/-- The segment of a specific enthalpy (R27): the first segment whose end lies above it, or the last one. -/
def Image.segmentOf (img : Image) (h : Nat) : Nat :=
  min ((List.range img.segmentCount).findIdx (fun k => h < (img.breakpoint (k + 1)).h)) (img.segmentCount - 1)

/-- The factors of the segment of a specific enthalpy. -/
def Image.factorsAt (img : Image) (h : Nat) : Factors := img.factor (img.segmentOf h)

/-- The mean temperature of a specific enthalpy (R28). -/
def Image.meanAt (img : Image) (h : Nat) : Nat :=
  if h < img.last.h then
    let k := img.segmentOf h
    (img.breakpoint k).t +
      (h - (img.breakpoint k).h) * ((img.breakpoint (k + 1)).t - (img.breakpoint k).t) /
        ((img.breakpoint (k + 1)).h - (img.breakpoint k).h)
  else img.last.t

/-- The target specific enthalpy of a temperature (R43). -/
def Image.targetOf (img : Image) (t : Nat) : Nat :=
  if t < img.last.t then
    let k := min ((List.range img.segmentCount).findIdx (fun k => t < (img.breakpoint (k + 1)).t)) (img.segmentCount - 1)
    (img.breakpoint k).h +
      ceilDiv ((t - (img.breakpoint k).t) * ((img.breakpoint (k + 1)).h - (img.breakpoint k).h))
        ((img.breakpoint (k + 1)).t - (img.breakpoint k).t)
  else img.last.h

/-- The target table (R42). -/
def Image.targetTable (img : Image) : Vector Nat 16 := img.target.map img.targetOf

/-! ### A record's temperatures -/

/-- The specific enthalpy of a record (R27). -/
def Record.specific (r : Record) : Nat := r.h * 100 / r.mass

/-- The mean temperature of a record (R28). -/
def Record.mean (img : Image) (r : Record) : Nat := img.meanAt r.specific

/-- The surface of a record, limited to 1600 (R29). -/
def Record.surface (img : Image) (r : Record) : Nat := min (r.mean img + ceilDiv r.d 2) 1600

/-- The core of a record, limited to 0 (R29): the subtraction of naturals stops at 0. -/
def Record.core (img : Image) (r : Record) : Nat := r.mean img - r.d / 2

/-- The record lies at or beyond the end of the model (R28). -/
def Record.beyondTable (img : Image) (r : Record) : Bool := decide (img.last.h ≤ r.specific)

/-! ### Energy into the coil -/

/-- η_eff of a position under a trim (R30). -/
def Image.etaEff (img : Image) (p : Fin 16) (trim : Int) : Nat := (clampInt ((img.eta.get p : Int) + trim) 64 255).toNat

/-- The effective weight of a slot: w_s × c_k for a record, 0 for a GAP, which takes no part (R33). -/
def slotWeight (img : Image) (s : Nat) : Slot → Nat
  | some r => ((img.weights[s]?).getD 0) * (img.factorsAt r.specific).c
  | none => 0

/-- The effective weights of the slots from slot `s` on. -/
def slotWeights (img : Image) : Nat → List Slot → List Nat
  | _, [] => []
  | s, x :: rest => slotWeight img s x :: slotWeights img (s + 1) rest

/-- At least one slot is occupied (R32). -/
def occupied (slots : List Slot) : Bool := slots.any Option.isSome

/-- The share of each slot of the pool (R33). -/
def shares (img : Image) (pool : Nat) (slots : List Slot) : List Nat :=
  let es := slotWeights img 0 slots
  es.map (fun e => pool * e / es.sum)

/-! ### Bringing a record up to date -/

/-- The loss of a record in one period (R34). -/
def Record.loss (img : Image) (r : Record) : Nat := (img.factorsAt r.specific).l * r.mass / 1000

/-- R34: the enthalpy, with MODEL_LIMIT where it reaches its bound (R4), exactly or clamped to it. -/
def Record.heat (img : Image) (share : Nat) (r : Record) : Record :=
  { r with
    h := (clampInt ((r.h : Int) + share - r.loss img) 0 Config.hMax).toNat
    flags := { r.flags with
      modelLimit := r.flags.modelLimit || decide ((Config.hMax : Int) ≤ (r.h : Int) + share - r.loss img) } }

/-- R35: the surface difference from the share and the factors of the segment before the update. -/
def Record.newD (img : Image) (share : Nat) (r : Record) : Nat :=
  (clampInt ((r.d : Int) - (r.d * (img.factorsAt r.specific).d / 256 : Nat) +
    (share * 1000 / r.mass * (img.factorsAt r.specific).g / 256 : Nat)) 0 400).toNat

/-- R38: accrued of a self-stroke placeholder in slot 0. -/
def Record.accrue (img : Image) (share : Nat) (r : Record) : Option SelfStroke :=
  r.self.map fun ss => { ss with accrued := clampInt (ss.accrued + share - r.loss img) (-40000000) 40000000 }

/-- R36 and R37 on a record whose H and D are new: MODEL_LIMIT at or beyond h_last, SURFACE_EXCESS above the limit, and
the soak count. -/
def Record.judgePeriod (img : Image) (r : Record) : Record :=
  { r with
    soak := if img.soakThreshold ≤ r.mean img then min (r.soak + 1) 65535 else r.soak
    flags := { r.flags with
      modelLimit := r.flags.modelLimit || r.beyondTable img
      surfaceExcess := r.flags.surfaceExcess || decide (img.surfaceLimit < r.surface img) } }

/-- R34 to R39 on one record, with the share it is given; `slot0` is whether it stands in slot 0, `short` whether the
setpoint latched for the period was credit-clamped. -/
def Record.periodUpdate (img : Image) (slot0 short : Bool) (share : Nat) (r : Record) : Record :=
  let u := Record.judgePeriod img
    { r.heat img share with
      d := r.newD img share
      self := if slot0 then r.accrue img share else r.self }
  { u with flags := { u.flags with creditShort := u.flags.creditShort || short } }

/-- The slots after a period end: each record with its own share (R40). -/
def updateSlots (img : Image) (short : Bool) : Bool → List Slot → List Nat → List Slot
  | slot0, some r :: rest, sh :: shs => some (r.periodUpdate img slot0 short sh) :: updateSlots img short false rest shs
  | _, none :: rest, _ :: shs => none :: updateSlots img short false rest shs
  | _, rest, [] => rest
  | _, [], _ => []

/-- How many records gained a flag between two states of the slots (R34, R36: counted if not already set). -/
def gained (flag : Flags → Bool) : List Slot → List Slot → Nat
  | some a :: as, some b :: bs => (if !flag a.flags && flag b.flags then 1 else 0) + gained flag as bs
  | _ :: as, _ :: bs => gained flag as bs
  | _, _ => 0

end Sys2Proof.Machine
end

