-- ==== Sys2Proof/Machine/Ops.lean ====
section
/-!
DEFINITION. The shared operations over State: the clock and the lines presented with a command, the counters, the two ports,
the offers to the Link Trace (R162, R175 to R179) and the offers to a port's local queue (R158, R159) with what the Credit
Unit is told of them (R81).
-/

namespace Sys2Proof.Machine

/-! ### Time and lines -/

/-- The reading of the part's clock: milliseconds modulo 2^32 (00, "Time"; log 1). -/
def State.now (s : State) : Time := BitVec.ofNat 32 (s.micros / 1000)

/-- Time passes to the command, and the sampled lines stand as presented with it (log 1). -/
def State.observe (s : State) (e : Env) : State :=
  { s with
    micros := s.micros + e.dt
    pins := { s.pins with
      feedback := e.feedback, feedbackValid := e.feedbackValid, tripReset := e.tripReset,
      loaderPresent := e.loaderPresent, weigh := e.weigh, pyro := e.pyro, pyroValid := e.pyroValid } }

/-! ### Station -/

/-- RUN, HOLD and TRIPPED are the on-line states (R164). -/
def StationState.online : StationState → Bool
  | .run | .hold | .tripped => true
  | .config | .discover | .fault => false

def State.onLine (s : State) : Bool := s.ldu.state.online

def Role.isHead : Role → Bool
  | .head | .headTail => true
  | .tail | .middle => false

def Role.isTail : Role → Bool
  | .tail | .headTail => true
  | .head | .middle => false

/-- The station is the head of its line. -/
def State.isHead (s : State) : Bool := s.ldu.role.any Role.isHead

/-- The station is the tail of its line. -/
def State.isTail (s : State) : Bool := s.ldu.role.any Role.isTail

/-- The one station of a single-station line (R109). -/
def State.isSingle (s : State) : Bool := s.isHead && s.isTail

/-- The station's position; 0 where it has none, which no rule reads. -/
def State.pos (s : State) : Fin 16 := s.ldu.position.getD 0

/-- The station's image; blank where it holds none (log 28). -/
def State.img (s : State) : Image := s.svi.image.getD .blank

/-- The enable fields of the image (R191). -/
def Image.weighs (img : Image) : Bool := img.weigh == 1

def Image.pyroOn (img : Image) : Bool := img.pyroEnable == 1

def Image.senses (img : Image) : Bool := img.motionSense == 1

/-! ### Counters -/

/-- A counter rises by `n` and saturates. -/
def State.countBy (s : State) (c : Counter) (n : Nat) : State :=
  { s with counters := s.counters.set c.idx (satAdd (s.counters.get c.idx) n) }

def State.count (s : State) (c : Counter) : State := s.countBy c 1

/-- The value of a counter. -/
def State.counter (s : State) (c : Counter) : BitVec 32 := s.counters.get c.idx

/-! ### Ports -/

def State.port (s : State) : Port → LinkPort
  | .up => s.upPort
  | .down => s.downPort

def State.setPort (s : State) (p : Port) (x : LinkPort) : State :=
  match p with
  | .up => { s with upPort := x }
  | .down => { s with downPort := x }

/-- A port's counter rises by `n` and saturates. -/
def LinkPort.countBy (x : LinkPort) (c : PortCounter) (n : Nat) : LinkPort :=
  { x with counters := x.counters.set c.idx (satAdd (x.counters.get c.idx) n) }

def State.portCountBy (s : State) (p : Port) (c : PortCounter) (n : Nat) : State :=
  s.setPort p ((s.port p).countBy c n)

def State.portCount (s : State) (p : Port) (c : PortCounter) : State := s.portCountBy p c 1

/-- The value of a port's counter. -/
def State.portCounter (s : State) (p : Port) (c : PortCounter) : BitVec 32 := (s.port p).counters.get c.idx

def State.linkIsUp (s : State) (p : Port) : Bool := (s.port p).link == .up

/-! ### The Link Trace -/

/-- An offer to the trace: the port R162 names, the action, the error kind of a drop, and the frame as the router saw it. -/
structure Offer where
  port : Port
  action : Action
  error : Option ErrorKind
  view : FrameView
  deriving DecidableEq, Repr

/-- An offer whose port is the port of arrival takes its gap from the receive end; the six of R175 take it from the send
end. -/
def Offer.fromReceiver (o : Offer) : Bool :=
  match o.action, o.error with
  | .originated, _ => false
  | .dropped, some .localRefused => false
  | .dropped, some .localDisplaced => false
  | .dropped, some .forwardOverrun => false
  | .dropped, some .misrouted => false
  | .dropped, some .linkLoss => false
  | _, _ => true

/-- The send end of a port: the time at which its transmitter sent the last character of a frame (R175). The last character
of a frame in transmission is sent 6 µs per character after it began (R144, R145; log 34). -/
def LinkPort.sentAt (x : LinkPort) (micros : Nat) : Option Nat :=
  match x.transmitter with
  | .sending f _ began =>
    if began + Config.charMicros * frameLength f ≤ micros then some (began + Config.charMicros * frameLength f)
    else x.sendEnd
  | _ => x.sendEnd

/-- The gap since a frame end, in whole 10 µs, saturating at 255; 255 before the first frame end (R175). -/
def gapSince (micros : Nat) : Option Nat → Nat
  | some t => min ((micros - t) / 10) 255
  | none => 255

/-- The entry an offer makes (R175). -/
def State.traceEntry (s : State) (o : Offer) : TraceEntry :=
  { port := o.port, action := o.action, error := o.error,
    gap := gapSince s.micros (if o.fromReceiver then (s.port o.port).recvEnd else (s.port o.port).sentAt s.micros),
    time := s.now, view := o.view }

/-- The row of the filter table of a kind code: codes 1 to 11 have rows 0 to 10 (R176, R188). -/
def filterRow (code : Byte) : Option (Fin 16) :=
  if code = 0 then none else if h : code.toNat ≤ 11 then some ⟨code.toNat - 1, by omega⟩ else none

/-- R176: the offer passes the filter. -/
def Ltr.passes (t : Ltr) (v : FrameView) : Bool :=
  match v.kind.bind filterRow, v.src with
  | some row, some src => (t.filter.get row).getLsbD src
  | _, _ => t.traceErrors

/-- A field of the pattern: ANY, or present in the offer with that value (R177). -/
def patternField {α : Type} [DecidableEq α] (want have_ : Option α) : Bool :=
  match want with
  | none => true
  | some v => decide (have_ = some v)

/-- R177: the offer matches the trigger pattern. -/
def Pattern.matches (q : Pattern) (o : Offer) : Bool :=
  patternField q.kind o.view.kind && patternField q.src o.view.src && patternField q.dst o.view.dst &&
  patternField q.action (some o.action) && patternField q.error o.error && patternField q.key o.view.key

/-- R179: an entry is appended at the write index; a full ring loses its oldest. -/
def Ltr.append (t : Ltr) (e : TraceEntry) : Ltr :=
  { t with
    ring := if t.ring.length < Config.traceCapacity then t.ring ++ [e] else t.ring.drop 1 ++ [e]
    writeIndex := if t.writeIndex + 1 < Config.traceCapacity then t.writeIndex + 1 else 0
    rollover := if t.writeIndex + 1 < Config.traceCapacity then t.rollover else min (t.rollover + 1) 65535 }

/-- R178: an offer that passed the filter is taken by the state and mode. -/
def Ltr.take (t : Ltr) (o : Offer) (e : TraceEntry) : Ltr :=
  match t.state, t.mode with
  | .armed, .startOn => if t.pattern.matches o then { t.append e with state := .recording } else t
  | .recording, .free => t.append e
  | .recording, .startOn => t.append e
  | .recording, .stopOn => if t.pattern.matches o then { t.append e with state := .stopped } else t.append e
  | .recording, .onlyMatch => if t.pattern.matches o then t.append e else t
  | _, _ => t

/-- The router offers a frame to the trace (R162, R176, R178). -/
def State.offerTrace (s : State) (o : Offer) : State :=
  { s with ltr := if s.ltr.passes o.view then s.ltr.take o (s.traceEntry o) else s.ltr }

/-- A drop offered to the trace. -/
def State.traceDrop (s : State) (p : Port) (k : ErrorKind) (v : FrameView) : State :=
  s.offerTrace { port := p, action := .dropped, error := some k, view := v }

def State.traceAction (s : State) (p : Port) (a : Action) (v : FrameView) : State :=
  s.offerTrace { port := p, action := a, error := none, view := v }

/-! ### Offers to a local queue -/

/-- The credits a frame of this station carries: a LEND's amount or a RETURN's (R81, R82). -/
def carriedCredits (f : Frame) : Nat :=
  match f.payload with
  | .reply _ .lend amount => amount.toNat
  | .ret _ amount => amount.toNat
  | _ => 0

/-- R158: a frame joins after every frame of its own class and of higher priority, before every frame of lower priority. -/
def insertByClass (f : Frame) : List Frame → List Frame
  | [] => [f]
  | g :: rest => if frameClass g ≤ frameClass f then g :: insertByClass f rest else f :: g :: rest

/-- An offer the port refuses: its link is DOWN, or it is MISWIRED and the frame is no HELLO (R158). -/
def LinkPort.refuses (x : LinkPort) (f : Frame) : Bool :=
  x.link == .down || (x.check == .miswired && frameKind f != .hello)

/-- The offer is refused (R158, R159, R162). -/
def State.refuseLocal (s : State) (p : Port) (f : Frame) : State :=
  (s.portCount p .localRefused).traceDrop p .localRefused (viewOfFrame f)

/-- The offer is taken into the queue `q` (R158, R162). -/
def State.takeLocal (s : State) (p : Port) (q : List Frame) (f : Frame) : State :=
  ((s.setPort p { (s.port p).countBy .localTaken 1 with localQ := insertByClass f q }).traceAction p .originated
    (viewOfFrame f))

/-- A frame is displaced: counted and offered to the trace (R159, R162), and its credits restored (R81). -/
def State.displace (s : State) (p : Port) (g : Frame) : State :=
  let t := ((s.portCount p .localDisplaced).traceDrop p .localDisplaced (viewOfFrame g)).countBy .creditsRestored
    (carriedCredits g)
  { t with cru := { t.cru with loans := t.cru.loans + carriedCredits g } }

/-- The answer to an offer. -/
structure Offered where
  state : State
  taken : Bool

/-- A unit offers a frame to a port's local queue (R158, R159). The queue is ordered by class then age, so the youngest
frame of its lowest-priority class is its last (log 35). -/
def State.offer (s : State) (p : Port) (f : Frame) : Offered :=
  if (s.port p).refuses f then ⟨s.refuseLocal p f, false⟩
  else if (s.port p).localQ.length < Config.localCapacity then ⟨s.takeLocal p (s.port p).localQ f, true⟩
  else match (s.port p).localQ.getLast? with
    | some g =>
      if frameClass f < frameClass g then ⟨(s.displace p g).takeLocal p (s.port p).localQ.dropLast f, true⟩
      else ⟨s.refuseLocal p f, false⟩
    | none => ⟨s.refuseLocal p f, false⟩

/-- The header's source of a frame this station originates: its position (R150), or a free value where it has none (log 9). -/
def State.source (s : State) : Byte :=
  match s.ldu.position with
  | some p => BitVec.ofNat 8 p.val
  | none => BitVec.ofNat 8 (Config.unplacedSource s.freeIndex).val

/-- A frame this station originates. -/
def State.frame (s : State) (dst : Byte) (x : Payload) : Frame := { src := s.source, dst := dst, payload := x }

/-- Offer a frame and count the answer: one counter if taken, another if refused. -/
def State.offerCounted (s : State) (p : Port) (f : Frame) (taken refused : Counter) : State :=
  let r := s.offer p f
  if r.taken then r.state.count taken else r.state.count refused

/-- Offer a frame and count it if taken. -/
def State.offerCountTaken (s : State) (p : Port) (f : Frame) (taken : Counter) : State :=
  let r := s.offer p f
  if r.taken then r.state.count taken else r.state

/-- A broadcast "both ways": the frame is offered to each port whose link is UP, UP first, each answer counted. -/
def State.offerBothCounted (s : State) (x : Payload) (taken refused : Counter) : State :=
  let t := if s.linkIsUp .up then s.offerCounted .up (s.frame dstAll x) taken refused else s
  if t.linkIsUp .down then t.offerCounted .down (t.frame dstAll x) taken refused else t

end Sys2Proof.Machine
end

