-- ==== Sys2Proof/Machine/Calls.lean ====
section
/-!
DEFINITION. Calls (chapter 5): the head's pending list and the start of a stroke (R97, R98), and the tail's calls and call
check (R103, R105, R106, R109).
-/

namespace Sys2Proof.Machine

/-! ### The head -/

/-- R98: the head starts the stroke of its oldest pending call when the pusher is IDLE and the hold cause list is empty. The
units call it at each event at which one of the three can become true. -/
def State.tryStart (s : State) : State :=
  match s.head.calls with
  | n :: rest =>
    if s.onLine ∧ s.isHead ∧ s.head.pusher = .idle ∧ s.hlu.entries = [] then
      let t : State := { s with
        head := { s.head with
          calls := rest
          lastExecuted := some n
          pusher := .pushing
          pulse := some (after s.now s.img.pusherPulse)
          timer := some (after s.now s.img.pusherTimeout) } }
      t.count .pushesStarted
    else s
  | [] => s

/-- A call the head already holds (R97). -/
def Head.holds (h : Head) (n : Half) : Bool := h.lastExecuted == some n || h.calls.contains n

/-- R97: a CALL taken at the head. -/
def State.takeCall (s : State) (k : CallKind) (n : Half) : State :=
  if s.head.holds n then s.count .callsRepeated
  else if s.head.calls.length < Config.pendingCallCapacity then
    let t : State := { s with head := { s.head with calls := s.head.calls ++ [n] } }
    (t.count (match k with | .press => .pressCallsTaken | .self => .selfCallsTaken)).tryStart
  else s.count .callsDropped

/-! ### The tail -/

/-- R103, R109: the tail hands a CALL to the head: within the part on a single-station line, else to the UP port's queue.
The answer counts `sent` or CALLS_REFUSED. -/
def State.passCall (s : State) (k : CallKind) (n : Half) (sent : Counter) : State :=
  if s.isSingle then (s.count sent).takeCall k n
  else s.offerCounted .up (s.frame 0 (.call k n)) sent .callsRefused

/-- R103: a new call. -/
def State.sendCall (s : State) (k : CallKind) : State :=
  let n := s.tail.counter + 1
  let t : State := { s with
    tail := { s.tail with counter := n, outstanding := some (n, k), callTimer := some (after s.now s.img.callTimeout) } }
  t.passCall k n .callsSent

/-- The preview of the lead is REJECT; a GAP counts as not REJECT (R104, R112). -/
def State.previewRejects (s : State) : Bool := s.exu.preview.any (fun r => !r.pass)

/-- R105: the call check. -/
def State.callCheck (s : State) : State :=
  if s.ldu.state = .run ∧ s.tail.outstanding = none then
    if s.previewRejects then (s.sendCall .self).count .selfCalls
    else if s.tail.pressWaiting then
      let t := s.sendCall .press
      { t with tail := { t.tail with pressWaiting := false } }
    else s
  else s

/-- R106: a tail shift makes no call outstanding and stops the call timer. -/
def State.endCall (s : State) : State :=
  { s with tail := { s.tail with outstanding := none, callTimer := none } }

end Sys2Proof.Machine
end

