-- ==== Sys2Proof/Machine/Hold.lean ====
section
/-!
DEFINITION. The Hold Unit (chapter 7): the line mode (R129), own causes raised, repeated and removed (R130 to R133), causes
heard from the line (R134 to R137), and trip reset (R64, R101, R140).
-/

namespace Sys2Proof.Machine

/-! ### Line mode -/

/-- R129: the mode a hold cause list gives. -/
def modeOf (es : List HoldEntry) : StationState :=
  if es.any (fun e => e.own && (e.cause == .estop || e.cause == .inverterFault)) then .tripped
  else if es.isEmpty then .run
  else .hold

/-- The counter of an entry into a mode (R143). -/
def modeCounter : StationState → Counter
  | .run => .runEntries
  | .tripped => .trippedEntries
  | _ => .holdEntries

/-- The station enters a mode, counted by its new value (R129). -/
def State.enterMode (s : State) (m : StationState) : State :=
  let t : State := { s with ldu := { s.ldu with state := m } }
  t.count (modeCounter m)

/-- R129, R139: the line mode of an on-line station is derived again; when the head's list is empty R98 is applied. -/
def State.deriveMode (s : State) : State :=
  if s.onLine then
    (if modeOf s.hlu.entries = s.ldu.state then s else s.enterMode (modeOf s.hlu.entries)).tryStart
  else s

/-! ### Own causes -/

/-- The list holds an own entry of the cause. -/
def Hlu.hasOwn (x : Hlu) (c : Cause) : Bool := x.entries.any (fun e => e.own && e.cause == c)

/-- How long ago an entry was refreshed. -/
def HoldEntry.age (now : Time) (e : HoldEntry) : Nat := (now - e.refreshed).toNat

/-- The largest age of a heard entry. -/
def oldestHeard (now : Time) (es : List HoldEntry) : Nat :=
  ((es.filter (! ·.own)).map (HoldEntry.age now)).foldl max 0

/-- R130: the heard entry with the oldest last refresh time is evicted, the first of the list among equals (log 32). -/
def evictOldest (now : Time) (es : List HoldEntry) : List HoldEntry :=
  es.eraseP (fun e => !e.own && e.age now == oldestHeard now es)

/-- R130: room is made in a full list. -/
def State.makeRoom (s : State) : State :=
  if s.hlu.entries.length < Config.holdCapacity then s
  else
    let t : State := { s with hlu := { s.hlu with entries := evictOldest s.now s.hlu.entries } }
    t.count .holdEvictions

/-- The station's position as the origin byte of HOLD and CLEAR. -/
def State.originByte (s : State) : Byte := BitVec.ofNat 8 s.pos.val

/-- R130: the HOLD of a cause that is new, offered on each port whose link is UP; on a single-station line no frame is offered. -/
def State.offerHold (s : State) (c : Cause) : State :=
  if s.isSingle then s
  else s.offerBothCounted (.hold (causeCode c) s.originByte) .holdsSent .holdsRefused

/-- R130: an own cause is raised, without the derivation of the mode, which ends the event (R129). -/
def State.raiseOwn (s : State) (c : Cause) : State :=
  if s.hlu.hasOwn c then s
  else
    let r := s.makeRoom
    let t : State := { r with
      hlu := { r.hlu with
        entries := r.hlu.entries ++ [{ cause := c, origin := r.originByte, own := true, refreshed := r.now }] } }
    let u := t.offerHold c
    let v : State := { u with
      hlu := { u.hlu with refresh := some (u.hlu.refresh.getD (after u.now Config.refreshMs)) } }
    v.count .ownCausesRaised

/-- R131: the repeats of the own causes, in the order of the list, on each port whose link is UP, on a single-station line too
(DESIGN CHOICE, log 52). -/
def State.repeatOwn (s : State) : List HoldEntry → State
  | [] => s
  | e :: rest =>
    if e.own then
      (s.offerBothCounted (.hold (causeCode e.cause) s.originByte) .holdsSent .holdsRefused).repeatOwn rest
    else s.repeatOwn rest

/-- R133: an own cause is removed, without the derivation of the mode. Its CLEAR is offered on each port whose link is UP, on a
single-station line too (DESIGN CHOICE, log 52). -/
def State.removeOwn (s : State) (c : Cause) : State :=
  if s.hlu.hasOwn c then
    let es := s.hlu.entries.filter (fun e => !(e.own && e.cause == c))
    let t : State := { s with
      hlu := { s.hlu with entries := es, refresh := if es.any (·.own) then s.hlu.refresh else none } }
    (t.offerBothCounted (.clear (causeCode c) t.originByte) .clearsSent .clearsRefused).count .ownCausesRemoved
  else s

/-- R133: several own causes removed in one event, in the order of the list `es`. -/
def State.removeListed (s : State) (wanted : Cause → Bool) : List HoldEntry → State
  | [] => s
  | e :: rest =>
    if e.own && wanted e.cause then (s.removeOwn e.cause).removeListed wanted rest else s.removeListed wanted rest

/-! ### Causes heard from the line -/

/-- An entry of the list with this cause and origin (R128: never two). -/
def Hlu.hears (x : Hlu) (c : Cause) (origin : Byte) : Bool :=
  x.entries.any (fun e => e.cause == c && e.origin == origin)

/-- R134: a HOLD handed to the Hold Unit of an on-line station. A code of no cause is looked at before the origin (DESIGN
CHOICE, log 21). -/
def State.hearHold (s : State) (code origin : Byte) : State :=
  let t := s.count .holdsTaken
  match causeOfCode code with
  | none => t.count .holdsUnknown
  | some c =>
    if origin = t.originByte then t.count .holdsOwnOrigin
    else if t.hlu.hears c origin then
      let u : State := { t with
        hlu := { t.hlu with
          entries := t.hlu.entries.map fun e =>
            if e.cause = c ∧ e.origin = origin then { e with refreshed := t.now } else e } }
      u.deriveMode
    else if t.hlu.entries.length < Config.holdCapacity then
      let u : State := { t with
        hlu := { t.hlu with
          entries := t.hlu.entries ++ [{ cause := c, origin := origin, own := false, refreshed := t.now }] } }
      u.deriveMode
    else (t.count .holdListFull).deriveMode

/-- The heard entries with a cause and origin leave the list. -/
def State.dropHeard (s : State) (c : Cause) (origin : Byte) : State :=
  { s with
    hlu := { s.hlu with entries := s.hlu.entries.filter (fun e => !(!e.own && e.cause == c && e.origin == origin)) } }

/-- The list holds a heard entry with a cause and origin. -/
def Hlu.hearsOther (x : Hlu) (c : Cause) (origin : Byte) : Bool :=
  x.entries.any (fun e => !e.own && e.cause == c && e.origin == origin)

/-- R136: a CLEAR handed to the Hold Unit of an on-line station. A code of no cause is looked at before the origin (DESIGN CHOICE,
log 21). -/
def State.hearClear (s : State) (code origin : Byte) : State :=
  let t := s.count .clearsTaken
  match causeOfCode code with
  | none => t.count .holdsUnknown
  | some c =>
    if origin = t.originByte then t.count .holdsOwnOrigin
    else if t.hlu.hearsOther c origin then (t.dropHeard c origin).deriveMode
    else t.count .clearsUnmatched

/-- R137: a heard entry is at its expiry 2000 ms after its last refresh time. -/
def State.heardExpired (s : State) (c : Cause) (origin : Byte) : Bool :=
  s.hlu.entries.any (fun e =>
    !e.own && e.cause == c && e.origin == origin && reached s.now (after e.refreshed Config.holdLifeMs))

/-! ### Inverter cut and trip reset -/

/-- R61 to R63, R58: power is taken away at once. -/
def State.cutPower (s : State) : State := { s with ivi := { s.ivi with inForce := 0, enable := false } }

/-- R62, R63: the trip at the inverter; a station already TRIPPED keeps enable and setpoint as they are. -/
def State.tripInverter (s : State) : State := if s.ldu.state = .tripped then s else s.cutPower

/-- R64: what a trip reset edge removes at the inverter: ESTOP and INVERTER_FAULT if ESTOP is released and FAULT low. -/
def State.tripClear (s : State) : Bool := !s.pins.estop && !s.pins.fault

/-- R64: TRIP_RESETS if either cause was present, TRIP_RESET_REFUSED if a condition blocks the reset. -/
def State.countTripReset (s : State) : State :=
  if s.tripClear then
    (if s.hlu.hasOwn .estop || s.hlu.hasOwn .inverterFault then s.count .tripResets else s)
  else s.count .tripResetRefused

/-- R101: the edge finds the head's pusher in FAULT. -/
def State.pusherFaulted (s : State) : Bool := s.isHead && s.head.pusher == .fault

/-- R101: the pusher returns to IDLE, and an owed call is forgotten. -/
def State.resetPusher (s : State) : State :=
  if s.pusherFaulted then
    let t : State := { s with
      head := { s.head with
        pusher := .idle
        lastExecuted := if s.head.owed then none else s.head.lastExecuted
        owed := false } }
    t.count .pusherResets
  else s

/-- The own causes a trip reset edge removes (R140). -/
def State.resetRemoves (s : State) (c : Cause) : Bool :=
  match c with
  | .estop | .inverterFault => s.tripClear
  | .pusherFault => s.pusherFaulted
  | .pressIdle | .linkLossUp | .linkLossDown => false

/-- R140: a trip reset edge at an on-line station, in one event. -/
def State.resetTrip (s : State) : State :=
  let t := s.countTripReset.resetPusher
  (t.removeListed s.resetRemoves s.hlu.entries).deriveMode

end Sys2Proof.Machine
end

