-- ==== Sys2Proof/Machine/Exit.lean ====
section
/-!
DEFINITION. The Exit Unit (chapter 6): the judgement of a record (R112, R113), the handover and the pyrometer sample (R114 to
R116), the gate event (R117 to R121) and the model trim (R122 to R125).
-/

namespace Sys2Proof.Machine

/-! ### Judging a record -/

/-- R112: the reasons of a record as it stands. -/
def Record.judge (img : Image) (r : Record) : Reasons :=
  { meanLow := decide (r.mean img < img.exitLow)
    meanHigh := decide (img.exitHigh < r.mean img)
    coreLow := decide (r.core img < img.coreMin)
    surfaceHigh := r.flags.surfaceExcess || decide (img.surfaceLimit < r.surface img)
    soakOver := decide (img.soakLimit < r.soak)
    track := r.flags.lostTrack
    model := r.flags.modelLimit
    pyroOut := false }

/-- The content of the lead slot; a GAP where there is no slot. -/
def CoilQueue.lead (q : CoilQueue) : Slot := q.slots.getLast?.join

/-- R113: the tail computes the preview of its lead; at another station the item keeps its reset value. -/
def State.preview (s : State) : State :=
  if s.isTail then { s with exu := { s.exu with preview := s.cq.lead.map (Record.judge s.img) } } else s

/-! ### Trim -/

/-- R125: a step is applied to the station's τ, with the clamp. -/
def State.applyTrim (s : State) (step : Int) : State :=
  let v := clampInt (s.tau.trim + step) (-32) 31
  let t : State := { s with tau := { s.tau with trim := v } }
  let u := t.count .trimsApplied
  if v = s.tau.trim then u.count .trimsClamped else u

/-- R125: a TRIM frame taken by an on-line station. -/
def State.hearTrim (s : State) (step : TrimStep) (n : Half) : State :=
  let t := match s.tau.lastTrim with
    | some last =>
      if 2 ≤ aheadBy n last ∧ aheadBy n last ≤ 32767 then s.countBy .trimsMissed (aheadBy n last - 1) else s
    | none => s
  let u : State := { t with tau := { t.tau with lastTrim := some n } }
  u.applyTrim (trimStepValue step)

/-- The counter of a step sent (R126). -/
def trimSentCounter : TrimStep → Counter
  | .raise => .trimsSentUp
  | .lower => .trimsSentDown

/-- R124: the tail sends a step and applies it to its own τ if the frame is taken; a single station applies it. -/
def State.sendTrim (s : State) (step : TrimStep) : State :=
  let n := s.exu.counter + 1
  let t : State := { s with exu := { s.exu with counter := n } }
  if t.isSingle then (t.applyTrim (trimStepValue step)).count (trimSentCounter step)
  else
    let r := t.offer .up (t.frame dstAll (.trim step n))
    if r.taken then (r.state.applyTrim (trimStepValue step)).count (trimSentCounter step)
    else r.state.count .trimsRefused

/-- R123: the step a full window calls for; the average is truncated toward zero. -/
def windowStep (deadband : Nat) (errors : List Int) : Option TrimStep :=
  let avg := Int.tdiv errors.sum 8
  if avg > deadband then some .raise else if avg < -(deadband : Int) then some .lower else none

/-- R122, R123: the error of a qualifying billet joins the window; the eighth is judged and empties it. -/
def State.sampleTrim (s : State) (error : Int) : State :=
  let es := s.exu.window ++ [error]
  let t := s.count .trimSamples
  if es.length < Config.trimWindowLength then { t with exu := { t.exu with window := es } }
  else
    let u := match windowStep t.img.trimDeadband es with
      | some step => t.sendTrim step
      | none => t
    let v : State := { u with exu := { u.exu with window := [] } }
    v.count .trimWindows

/-! ### The gate event -/

/-- R118: a delivered pulse is emitted, owed, or lost. -/
def State.emitPulse (s : State) : State :=
  if s.exu.pulse = .off then
    { s with exu := { s.exu with pulse := .high (after s.now Config.deliveredMs) } }
  else if s.exu.owed < Config.pulsesOwedMax then { s with exu := { s.exu with owed := s.exu.owed + 1 } }
  else s.count .deliveredLost

/-- R121: an entry joins the newest end of the exit log; a full log loses its oldest. -/
def State.appendLog (s : State) (e : LogEntry) : State :=
  if s.exu.log.length < Config.exitLogCapacity then
    let t : State := { s with exu := { s.exu with log := s.exu.log ++ [e] } }
    t.count .exitLogEntries
  else
    let t : State := { s with exu := { s.exu with log := s.exu.log.drop 1 ++ [e] } }
    (t.count .exitLogEntries).count .exitLogOverwrites

/-- R108: the first PASS clears FILL, stops the fill timer and starts the press-idle timer. -/
def State.clearFill (s : State) : State :=
  if s.tail.fill then
    { s with tail := { s.tail with
        fill := false, fillTimer := none, pressIdle := some (after s.now s.img.pressIdleTimeout) } }
  else s

/-- R120: the exit log entry of a decided billet. -/
def logEntry (now : Time) (b : Latched) (reasons : Reasons) (reading : Option Nat) : LogEntry :=
  { time := now, stroke := b.stroke, serial := b.record.serial, pass := reasons.pass, reasons := reasons,
    mass := b.record.mass, mean := b.mean, surface := b.surface, core := b.core, soak := b.record.soak,
    reading := reading, flags := b.record.flags, stations := b.record.stations }

/-- R117, steps 3 to 5 and the counts: the log entry, the PASS report, and the trim sample of a qualifying billet (R122). -/
def State.recordDecision (s : State) (b : Latched) (reasons : Reasons) (reading : Option Nat) : State :=
  let t := s.appendLog (logEntry s.now b reasons reading)
  if reasons.pass then
    match reading with
    | some v => t.clearFill.sampleTrim ((v : Int) - b.surface)
    | none => t.clearFill
  else t

/-- Each counter of a list is counted once. -/
def State.countAll (s : State) (cs : List Counter) : State := cs.foldl State.count s

/-- R117: a gate event decides one billet with its final reasons. -/
def State.gateEvent (s : State) (b : Latched) (reasons : Reasons) (reading : Option Nat) : State :=
  let t : State := { s with exu := { s.exu with gate := reasons.pass } }
  let u := if reasons.pass then t.emitPulse.count .gatePass else t.count .gateReject
  (u.countAll reasons.counters).recordDecision b reasons reading

/-! ### The billet leaves the coil -/

/-- R114: the record is judged and latched with the stroke number its shift took. -/
def latch (img : Image) (r : Record) (n : Half) : Latched :=
  { record := r, stroke := n, reasons := r.judge img, mean := r.mean img, surface := r.surface img, core := r.core img }

/-- R115: a billet still awaiting its sample is decided with PYRO_OUT and no reading. -/
def State.forceAwaiting (s : State) : State :=
  match s.exu.awaiting with
  | some a =>
    let t := s.gateEvent a.billet { a.billet.reasons with pyroOut := true } none
    let u : State := { t with exu := { t.exu with awaiting := none } }
    u.count .pyroForced
  | none => s

/-- R114, R115: a record handed to the Exit Unit of the tail. -/
def State.exitHandover (s : State) (r : Record) (n : Half) : State :=
  if s.img.pyroOn then
    let t := s.forceAwaiting
    { t with exu := { t.exu with
        awaiting := some { billet := latch s.img r n, deadline := after t.now t.img.sampleDelay } } }
  else s.gateEvent (latch s.img r n) (r.judge s.img) none

/-- R116: the reading taken at the sample deadline: the value kept, and the count of PYRO_OUT's cause. -/
def State.sampleReading (s : State) : Option Nat × Option Counter :=
  if s.pins.pyroValid then
    let v := min s.pins.pyro 1600
    if s.img.pyroLow ≤ v ∧ v ≤ s.img.pyroHigh then (some v, none) else (some v, some .pyroOutside)
  else (none, some .pyroInvalid)

/-- R116: the awaiting billet takes its reading and is decided. -/
def State.takeSample (s : State) (a : Awaiting) : State :=
  let t : State := { s with exu := { s.exu with awaiting := none } }
  match s.sampleReading with
  | (v, some c) => (t.count c).gateEvent a.billet { a.billet.reasons with pyroOut := true } v
  | (v, none) => t.gateEvent a.billet a.billet.reasons v

end Sys2Proof.Machine
end

