-- ==== Sys2Proof/Machine/Queue.lean ====
section
/-!
DEFINITION. The coil queue (chapter 1): placeholders (R7), records from and for STROKE frames (R8, R86), duplicate serials
(R9), loading at the head (R16 to R18), the interval average (R19) and the shift (R11 to R14) with what follows it at the
tail (R105, R106, R113).
-/

namespace Sys2Proof.Machine

/-! ### Placeholders -/

/-- h_tgt(p − 1), 0 for the head (R7, R42). -/
def State.upstreamTarget (s : State) : Nat :=
  if s.pos.val = 0 then 0 else (s.tau.targets.elim 0 fun v => (v[s.pos.val - 1]?).getD 0)

/-- A placeholder made at the station (R7): an ordinary one, or a self-stroke placeholder with its two fields. -/
def State.placeholder (s : State) (self : Option SelfStroke) : Record :=
  { serial := none, mass := s.img.nominalMass, h := s.upstreamTarget * s.img.nominalMass / 100, d := 0, soak := 0,
    flags := { Flags.empty with lostTrack := true }, stations := [], self := self }

/-! ### Records on the link -/

/-- The content of a lead slot as a STROKE payload carries it: accrued and created-at have no place in it (R13, R189). -/
def Record.wire (r : Record) : WireRecord :=
  { serial := BitVec.ofNat 16 (r.serial.getD 0), mass := BitVec.ofNat 24 r.mass, h := BitVec.ofNat 32 r.h,
    d := BitVec.ofNat 16 r.d, soak := BitVec.ofNat 16 r.soak, flags := r.flags.toByte,
    stations := r.stations.map fun e => (BitVec.ofNat 8 e.1, BitVec.ofNat 16 e.2) }

/-- R8: a station list is cut just before the first entry that breaks R5 at the receiving position; a temperature above
1600 is set to 1600. `prev` is one more than the position before. -/
def cutStations (p : Nat) : Nat → List (Byte × BitVec 16) → List (Nat × Nat)
  | _, [] => []
  | prev, e :: rest =>
    if e.1.toNat ≤ 15 ∧ prev ≤ e.1.toNat ∧ e.1.toNat < p then
      (e.1.toNat, min e.2.toNat 1600) :: cutStations p (e.1.toNat + 1) rest
    else []

/-- R8: the list of an arriving record is cut at the receiving position. -/
def listCut (p : Nat) (w : WireRecord) : Bool :=
  decide ((cutStations p 0 w.stations).length < w.stations.length)

/-- R8: an arriving record brought within R3 and R5 at the receiving position. -/
def repairRecord (p : Nat) (w : WireRecord) : Record :=
  { serial := if w.serial = 0 then none else some w.serial.toNat
    mass := clampNat w.mass.toNat 500 200000
    h := min w.h.toNat Config.hMax
    d := min w.d.toNat 400
    soak := w.soak.toNat
    flags :=
      { Flags.ofByte w.flags with
        massClamped := (Flags.ofByte w.flags).massClamped || decide (w.mass.toNat < 500 ∨ 200000 < w.mass.toNat)
        modelLimit := (Flags.ofByte w.flags).modelLimit || decide (Config.hMax < w.h.toNat)
        lostTrack := (Flags.ofByte w.flags).lostTrack || listCut p w }
    stations := cutStations p 0 w.stations
    self := none }

/-- R8: the record needed one or more repairs. -/
def needsRepair (p : Nat) (w : WireRecord) : Bool :=
  decide (w.mass.toNat < 500 ∨ 200000 < w.mass.toNat ∨ Config.hMax < w.h.toNat ∨ 400 < w.d.toNat) ||
  w.stations.any (fun e => decide (1600 < e.2.toNat)) || listCut p w

/-- R8: the record is counted once if it needed a repair. -/
def State.countRepair (s : State) (w : WireRecord) : State :=
  if needsRepair s.pos.val w then s.count .recordRepaired else s

/-! ### Entering slot 0 -/

/-- Another slot holds a record with this serial (R9). -/
def heldSerial (n : Nat) (slots : List Slot) : Bool := slots.any (fun x => x.any (fun r => r.serial == some n))

/-- R9: the entering record is a duplicate of one in the other slots. -/
def isDuplicate (others : List Slot) (r : Record) : Bool := r.serial.any (heldSerial · others)

/-- R9: a duplicate loses its serial and gains LOST_TRACK. -/
def Record.dedupe (others : List Slot) (r : Record) : Record :=
  if isDuplicate others r then { r with serial := none, flags := { r.flags with lostTrack := true } } else r

/-- R6: a self-stroke placeholder that leaves slot 0 loses accrued and created-at. -/
def Record.settle (r : Record) : Record := { r with self := none }

/-- R14: the slots after the lead has left: each content one slot on, the incoming content in slot 0. -/
def movedSlots (slots : List Slot) : List Slot := slots.dropLast.map (Option.map Record.settle)

/-- R19: the interval average after a shift at `now`. -/
def CoilQueue.nextAverage (q : CoilQueue) (cadence : Nat) (now : Time) : Nat :=
  if q.intervalOpen then (7 * q.iAvg + clampNat (now - q.lastShift).toNat 500 (2 * cadence)) / 8 else q.iAvg

/-- R14: the newest serial after a content enters slot 0 by a shift. -/
def CoilQueue.nextSerial (q : CoilQueue) (incoming : Slot) : Option Nat :=
  match incoming.bind Record.serial with
  | some n => some n
  | none => q.newestSerial

/-- R14, R19: the coil queue after a shift. -/
def CoilQueue.shifted (q : CoilQueue) (cadence : Nat) (now : Time) (incoming : Slot) : CoilQueue :=
  { slots := incoming.map (Record.dedupe (movedSlots q.slots)) :: movedSlots q.slots
    lastStroke := q.lastStroke + 1
    lastShift := now
    intervalOpen := true
    iAvg := q.nextAverage cadence now
    newestSerial := q.nextSerial incoming }

/-! ### The shift -/

/-- R12: the mean lies outside the station's exit band. -/
def Record.outsideBand (img : Image) (p : Fin 16) (r : Record) : Bool :=
  decide (r.mean img + img.bandLo < img.target.get p ∨ img.target.get p + img.bandHi < r.mean img)

/-- R12: the lead record is finished at the station before it leaves. -/
def Record.finish (img : Image) (p : Fin 16) (r : Record) : Record :=
  { r with
    flags := { r.flags with
      modelLimit := r.flags.modelLimit || r.beyondTable img
      excursion := r.flags.excursion || r.outsideBand img p }
    stations := r.stations ++ [(p.val, r.mean img)] }

/-- R12: the leaving content of the lead slot, finished. Where the lead is slot 0 a self-stroke placeholder loses accrued and
created-at with it (R3, R6). -/
def State.leaving (s : State) : Slot := s.cq.lead.map (fun r => (r.finish s.img s.pos).settle)

/-- R12: EXCURSIONS is counted for a record that leaves outside its band. -/
def State.countExcursion (s : State) : State :=
  if s.cq.lead.any (Record.outsideBand s.img s.pos) then s.count .excursions else s

/-- R86: a shift at a station that is not the tail originates one STROKE frame to its downstream neighbour. -/
def State.sendStroke (s : State) (n : Half) (synth : Byte) (content : Slot) : State :=
  s.offerCounted .down
    (s.frame (BitVec.ofNat 8 (s.pos.val + 1)) (.stroke n synth (content.map Record.wire)))
    .strokesSent .strokesRefused

/-- R13: the leaving content is handed on: to the Exit Unit at the tail, downstream otherwise. -/
def State.handOn (s : State) (n : Half) (synth : Byte) (content : Slot) : State :=
  if s.isTail then
    match content with
    | some r => s.exitHandover r n
    | none => s
  else s.sendStroke n synth content

/-- R9: a duplicate is counted. -/
def State.countDuplicate (s : State) (others : List Slot) (incoming : Slot) : State :=
  if incoming.any (isDuplicate others) then s.count .duplicateSerials else s

/-- The synthesised-by byte of none (R189). -/
def synthNone : Byte := 255

/-- R11 to R14, R19, R86: the coil queue takes one stroke, the one ahead of its last. -/
def State.moveQueue (s : State) (synth : Byte) (incoming : Slot) : State :=
  let n := s.cq.lastStroke + 1
  let t := s.countExcursion.handOn n synth s.leaving
  let u := t.countDuplicate (movedSlots t.cq.slots) incoming
  let v : State := { u with cq := u.cq.shifted u.img.cadence u.now incoming }
  v.count .shifts

/-- R105, R106, R113: what follows a shift at the tail. -/
def State.tailAfterShift (s : State) : State := if s.isTail then s.endCall.preview.callCheck else s

/-- One shift of the coil queue, with what follows it at the tail. -/
def State.shift (s : State) (synth : Byte) (incoming : Slot) : State := (s.moveQueue synth incoming).tailAfterShift

/-- A catch-up shift: an ordinary placeholder enters (R91, R95). -/
def State.catchUp (s : State) : State :=
  ((s.count .placeholdersMade).shift synthNone (some (s.placeholder none))).count .catchupShifts

/-- R95: `k` catch-up shifts with no frame adjustment. -/
def State.catchUps : Nat → State → State
  | 0, s => s
  | k + 1, s => s.catchUp.catchUps k

/-! ### Loading at the head -/

/-- R18: the bounds of the weigh reading. -/
def Image.massLow (img : Image) : Nat := max 500 (ceilDiv img.nominalMass 2)

def Image.massHigh (img : Image) : Nat := min 200000 (3 * img.nominalMass / 2)

/-- R18: the weigh reading lies outside its range. -/
def State.weighClamped (s : State) : Bool :=
  s.img.weighs && decide (s.pins.weigh < s.img.massLow ∨ s.img.massHigh < s.pins.weigh)

/-- R18: the mass of a new record. -/
def State.newMass (s : State) : Nat :=
  if s.img.weighs then clampNat s.pins.weigh s.img.massLow s.img.massHigh else s.img.nominalMass

/-- R16: a new real record. -/
def State.newRecord (s : State) : Record :=
  { serial := some s.head.nextSerial, mass := s.newMass, h := 0, d := 0, soak := 0,
    flags := { Flags.empty with massClamped := s.weighClamped }, stations := [], self := none }

/-- R17: the serial after one, from 65535 to 1. -/
def serialAfter (n : Nat) : Nat := if n < 65535 then n + 1 else 1

/-- R16, R17: a head stroke, with loader-present and the weigh reading sampled at it. -/
def State.headStroke (s : State) : State :=
  if s.pins.loaderPresent then
    let t := if s.weighClamped then s.count .massClamps else s
    let u : State := { t with head := { t.head with nextSerial := serialAfter t.head.nextSerial } }
    u.shift synthNone (some s.newRecord)
  else s.shift synthNone none

end Sys2Proof.Machine
end

