-- ==== Sys2Proof/Machine/Strokes.lean ====
section
/-!
DEFINITION. Strokes (chapter 5): the stroke tracker (R88 to R90, R92, R93), the judgement of a STROKE frame (R87, R90, R91,
R94), the pusher (R99, R100) and the tail's press calls and timers (R104, R106 to R108).
-/

namespace Sys2Proof.Machine

/-! ### The stroke tracker -/

/-- The station uses a tracker: on line, not the head, motion sense enabled (R88). -/
def State.tracks (s : State) : Bool := s.onLine && !s.isHead && s.img.senses

/-- A deadline that restarts while a count is above 0 and stops at 0. -/
def restartWhile (n : Nat) (now : Time) (ms : Nat) : Option Time := if 0 < n then some (after now ms) else none

/-- R89: a motion edge at a station that uses its tracker. -/
def State.motionTaken (s : State) : State :=
  if 0 < s.tracker.unconfirmed then
    let n := s.tracker.unconfirmed - 1
    let t : State := { s with
      tracker := { s.tracker with unconfirmed := n, confirmDeadline := restartWhile n s.now s.img.confirmWindow } }
    t.count .motionConfirmed
  else if s.tracker.unmatched < 2 then
    { s with
      tracker := { s.tracker with
        unmatched := s.tracker.unmatched + 1
        motionDeadline :=
          if s.tracker.unmatched = 0 then some (after s.now s.img.motionDeadline) else s.tracker.motionDeadline } }
  else s.count .motionExcess

/-- The oldest unmatched edge is matched or spent (R90, R92). -/
def State.spendEdge (s : State) : State :=
  let n := s.tracker.unmatched - 1
  { s with
    tracker := { s.tracker with unmatched := n, motionDeadline := restartWhile n s.now s.img.motionDeadline } }

/-- R90: the frame adjustment after a frame-driven shift. -/
def State.frameAdjust (s : State) : State :=
  if s.img.senses then
    if 0 < s.tracker.unmatched then s.spendEdge
    else if s.tracker.unconfirmed < 2 then
      { s with
        tracker := { s.tracker with
          unconfirmed := s.tracker.unconfirmed + 1
          confirmDeadline :=
            if s.tracker.unconfirmed = 0 then some (after s.now s.img.confirmWindow)
            else s.tracker.confirmDeadline } }
    else s.count .motionMissing
  else s

/-- R92: a self-stroke. -/
def State.selfStroke (s : State) : State :=
  let r := s.placeholder (some { accrued := 0, createdAt := s.cq.lastStroke + 1 })
  (((s.count .placeholdersMade).shift (BitVec.ofNat 8 s.pos.val) (some r)).spendEdge).count .selfStrokes

/-- R93: the oldest unconfirmed shift is given up. -/
def State.giveUpConfirm (s : State) : State :=
  let n := s.tracker.unconfirmed - 1
  let t : State := { s with
    tracker := { s.tracker with unconfirmed := n, confirmDeadline := restartWhile n s.now s.img.confirmWindow } }
  t.count .motionMissing

/-! ### The STROKE frame at a station that is not the head -/

/-- The incoming content of a frame's own shift: its payload after R8. -/
def State.payloadSlot (s : State) (content : Option WireRecord) : Slot := content.map (repairRecord s.pos.val)

/-- R8's count for a payload that is taken. -/
def State.countPayload (s : State) (content : Option WireRecord) : State :=
  match content with
  | some w => s.countRepair w
  | none => s

/-- R90: the frame's own shift and its frame adjustment. -/
def State.ownShift (s : State) (content : Option WireRecord) : State :=
  ((s.countPayload content).shift synthNone (s.payloadSlot content)).frameAdjust

/-- R91: `k` catch-up shifts, each followed by the frame adjustment. -/
def State.catchUpsAdjusted : Nat → State → State
  | 0, s => s
  | k + 1, s => s.catchUp.frameAdjust.catchUpsAdjusted k

/-- The unclamped enthalpy of a merge (R94). -/
def mergedH (late : Record) (ss : SelfStroke) : Int := (late.h : Int) + ss.accrued

/-- R94: the record a late record and the placeholder of slot 0 make. -/
def mergeRecords (late held : Record) (ss : SelfStroke) : Record :=
  { serial := late.serial
    mass := late.mass
    h := (clampInt (mergedH late ss) 0 Config.hMax).toNat
    d := held.d
    soak := min (late.soak + held.soak) 65535
    flags :=
      { late.flags.union { held.flags with lostTrack := false } with
        lateRecord := true
        modelLimit := late.flags.modelLimit || held.flags.modelLimit || decide (mergedH late ss > Config.hMax) }
    stations := late.stations
    self := none }

/-- R94: the placeholder of slot 0 that a late frame numbered `n` may merge into, with its two fields. -/
def CoilQueue.mergeable (q : CoilQueue) (n : Half) : Option (Record × SelfStroke) :=
  match q.slots with
  | some r :: _ =>
    (match r.self with
     | some ss => if ss.createdAt = n then some (r, ss) else none
     | none => none)
  | _ => none

/-- R94: the merged record stands in slot 0, R9 applied to it; the preview is computed again when slot 0 is the lead
(R113). -/
def State.mergeLate (s : State) (w : WireRecord) (held : Record) (ss : SelfStroke) : State :=
  let others := s.cq.slots.tail
  let m := mergeRecords (repairRecord s.pos.val w) held ss
  let t := (s.countRepair w).countDuplicate others (some m)
  let u : State := { t with cq := { t.cq with slots := some (m.dedupe others) :: others } }
  let v := u.count .lateMerged
  if others.isEmpty then v.preview else v

/-- R94: a late STROKE frame. -/
def State.lateStroke (s : State) (n : Half) (content : Option WireRecord) : State :=
  match content, s.cq.mergeable n with
  | some w, some (held, ss) => s.mergeLate w held ss
  | _, _ => s.count .lateDiscarded

/-- R87: the synthesised-by byte names a position (log 31). -/
def synthNames (b : Byte) : Bool := decide (b.toNat ≤ 15)

/-- R87: a STROKE frame taken at an on-line station. SYNTH_STROKES_TAKEN is counted for each with its field set (R110), one taken
at the head, which is then discarded, among them. -/
def State.takeStroke (s : State) (n : Half) (synth : Byte) (content : Option WireRecord) : State :=
  let t := if synthNames synth then s.count .synthStrokesTaken else s
  if t.isHead then t.count .strokesUnexpected
  else if isAhead n t.cq.lastStroke then
    (t.catchUpsAdjusted (aheadBy n t.cq.lastStroke - 1)).ownShift content
  else t.lateStroke n content

/-! ### The pusher -/

/-- R99: a PUSHED edge at the on-line head. -/
def State.takePushed (s : State) : State :=
  match s.head.pusher with
  | .pushing =>
    let t := s.headStroke
    let u : State := { t with head := { t.head with pusher := .idle, pulse := none, timer := none } }
    u.tryStart
  | .fault =>
    if s.head.owed then
      let t := s.headStroke
      let u : State := { t with head := { t.head with owed := false } }
      u.count .latePushed
    else s.count .pushedSpurious
  | .idle => s.count .pushedSpurious

/-- R100: the pusher timeout. -/
def State.pusherTimesOut (s : State) : State :=
  let t : State := { s with head := { s.head with pusher := .fault, pulse := none, timer := none, owed := true } }
  ((t.count .pusherTimeouts).raiseOwn .pusherFault).deriveMode

/-! ### Press calls -/

/-- R107: a press call acts on the press-idle timing: the cause is removed, and the timer restarts while FILL is clear. -/
def State.pressTiming (s : State) : State :=
  let t := if s.hlu.hasOwn .pressIdle then (s.removeOwn .pressIdle).deriveMode else s
  if t.tail.fill then t
  else { t with tail := { t.tail with pressIdle := some (after t.now t.img.pressIdleTimeout) } }

/-- R104: a press call at the on-line tail. -/
def State.takePressCall (s : State) : State :=
  let t := (s.count .pressCalls).pressTiming
  if t.tail.outstanding = none ∧ t.previewRejects = false ∧ t.ldu.state = .run then t.sendCall .press
  else { t with tail := { t.tail with pressWaiting := true } }

/-- R106: the call timer expires with a call outstanding. -/
def State.resendCall (s : State) (n : Half) (k : CallKind) : State :=
  let t : State := { s with tail := { s.tail with callTimer := some (after s.now s.img.callTimeout) } }
  t.passCall k n .callResends

/-- R108: the fill timer expires during FILL. -/
def State.fillExpires (s : State) : State :=
  let t : State := { s with tail := { s.tail with fillTimer := some (after s.now s.img.fillInterval) } }
  if t.tail.outstanding = none ∧ t.ldu.state = .run then (t.sendCall .self).count .fillCalls else t

/-- R107: the press-idle timer expires. -/
def State.pressIdles (s : State) : State :=
  let t : State := { s with tail := { s.tail with pressIdle := none } }
  ((t.count .pressIdleHolds).raiseOwn .pressIdle).deriveMode

end Sys2Proof.Machine
end

