-- ==== Sys2Proof/Machine/Credits.lean ====
section
/-!
DEFINITION. The Credit Unit (chapter 4): the loan pool (R67), opening and closing a canvass (R69, R70, R75 to R77), answering
one (R71, R72), replies and returns (R73, R74, R78 to R80).
-/

namespace Sys2Proof.Machine

/-- L of an image for a line of `n` stations (R67); it may be negative. Positions beyond 15 have no entry (log 18). -/
def Image.loanPool (img : Image) (n : Nat) : Int := (img.lineTotal : Int) - ((img.baseCredits.toList.take n).sum : Nat)

/-- c_need, taken as 0 while none (R72, R78). -/
def Cru.needed (c : Cru) : Nat := c.need.getD 0

/-- The credits held: base and loans (R66). -/
def Cru.held (c : Cru) : Nat := c.base + c.loans

/-- Still short: c_need is greater than B + loans (R69, R76). -/
def Cru.short (c : Cru) : Bool := decide (c.held < c.needed)

/-- The surplus of a station answering a canvass (R72). -/
def Cru.surplus (c : Cru) (keep : Nat) : Int := (c.loans : Int) - (c.needed - c.base : Nat) - keep

/-! ### Opening a canvass -/

/-- R69: the conditions for opening one. -/
def State.mayCanvass (s : State) : Bool :=
  s.cru.short && decide (1 < s.ldu.n.getD 0) && s.cru.tracker.isNone && s.cru.backoff.isNone &&
  s.cru.recanvass.isNone && s.onLine

/-- The answer to offering the CANVASS on a port whose link is UP; a port whose link is DOWN is not offered it. -/
def State.offerCanvass (s : State) (p : Port) (x : Payload) : Offered :=
  if s.linkIsUp p then s.offer p (s.frame dstAll x) else ⟨s, true⟩

/-- R69, R70: a demand re-evaluation at which the conditions hold. -/
def State.openCanvass (s : State) : State :=
  if s.linkIsUp .up || s.linkIsUp .down then
    let n := s.cru.counter + 1
    let want := s.cru.needed - s.cru.held
    let t : State := { s with cru := { s.cru with counter := n } }
    let x := Payload.canvass s.originByte n (BitVec.ofNat 16 want)
    let a := t.offerCanvass .up x
    let b := a.state.offerCanvass .down x
    if a.taken && b.taken then
      let u : State := { b.state with
        cru := { b.state.cru with
          tracker := some
            { number := n, want := want, expected := s.ldu.n.getD 0 - 1, received := 0, total := 0, conflict := false,
              deadline := after s.now s.img.canvassTimeout } } }
      u.count .canvassesOpened
    else b.state.count .canvassNotOpened
  else s.count .canvassNotOpened

/-- R68, R69: the demand re-evaluation of a period end. -/
def State.reevaluate (s : State) : State := if s.mayCanvass then s.openCanvass else s

/-! ### Answering a canvass -/

/-- The port toward a position: UP for a lower one, DOWN for a higher (R71), and DOWN for the station's own, which a REPLY with a
false source may name (DESIGN CHOICE, log 44). -/
def State.portToward (s : State) (position : Byte) : Port := if position.toNat < s.pos.val then .up else .down

/-- R71: the kind and amount of the reply to a CANVASS. -/
def State.answerOf (s : State) (want : Half) : ReplyKind × Nat :=
  if s.cru.tracker.isSome then (.conflict, 0)
  else if 0 < s.cru.surplus s.img.keep then (.lend, min (s.cru.surplus s.img.keep).toNat want.toNat)
  else (.decline, 0)

def replyCounter : ReplyKind → Counter
  | .lend => .lendsSent
  | .decline => .declinesSent
  | .conflict => .conflictsSent

/-- R71, R72: an on-line station answers a CANVASS. -/
def State.answerCanvass (s : State) (origin : Byte) (n want : Half) : State :=
  if origin = s.originByte then s.count .canvassOwnOrigin
  else
    let ans := s.answerOf want
    let t := s.count (replyCounter ans.1)
    let r := t.offer (t.portToward origin) (t.frame origin (.reply n ans.1 (BitVec.ofNat 16 ans.2)))
    if r.taken then
      let u : State := { r.state with cru := { r.state.cru with loans := r.state.cru.loans - ans.2 } }
      u.countBy .creditsLent ans.2
    else r.state.count .repliesRefused

/-! ### Closing a canvass -/

/-- R76: the outcome of a closed canvass. -/
def State.judgeClose (s : State) (conflict : Bool) : State :=
  if s.cru.short then
    if conflict then
      let t : State := { s with
        cru := { s.cru with backoff := some (after s.now ((s.pos.val + 1) * s.img.backoffUnit)) } }
      t.count .backoffs
    else
      let t : State := { s with cru := { s.cru with recanvass := some (after s.now s.img.recanvassInterval) } }
      t.count .recanvassWaits
  else s

/-- R75: the canvass closes, counted by its cause. -/
def State.closeCanvass (s : State) (c : Canvass) (why : Counter) : State :=
  let t : State := { s with cru := { s.cru with tracker := none } }
  (t.count why).judgeClose c.conflict

/-! ### Replies at the canvasser -/

/-- R74, R78, R80: a RETURN offered to a lender; what its queue answers. A source byte above 15 is taken as the lender's position as
it stands (DESIGN CHOICE, log 44). -/
def State.offerReturn (s : State) (lender : Byte) (n : Half) (amount : Nat) : Offered :=
  s.offer (s.portToward lender) (s.frame lender (.ret n (BitVec.ofNat 16 amount)))

/-- A RETURN taken: counted with its amount (R74, R78). -/
def State.countReturned (s : State) (amount : Nat) : State := (s.count .returnsSent).countBy .creditsReturned amount

/-- A RETURN refused: counted with its amount (R80). -/
def State.countUnreturned (s : State) (amount : Nat) : State :=
  (s.count .returnsRefused).countBy .creditsUnreturned amount

/-- R58: a setpoint in force never exceeds what the credits held allow. One that a RETURN leaves without its credits is withdrawn
with enable in the same event (DESIGN CHOICE, log 49). -/
def State.keepWithinCredits (s : State) : State :=
  if s.ivi.inForce ≤ s.cru.held * (s.img.creditKw * 10) then s else s.cutPower

/-- R74: a matching LEND. The tracker's entry `c` has already counted the reply. An earlier excess whose RETURN was refused goes
back with this one; where a setpoint in force used it, R58 holds by State.keepWithinCredits. -/
def State.takeLend (s : State) (lender : Byte) (c : Canvass) (amount : Nat) : State :=
  let total := c.total + amount
  let t : State := { s with
    cru := { s.cru with loans := s.cru.loans + amount, tracker := some { c with total := total } } }
  let u := t.countBy .creditsBorrowed amount
  if c.want < total then
    let excess := total - c.want
    let r := u.offerReturn lender c.number excess
    if r.taken then
      let v : State := { r.state with
        cru := { r.state.cru with
          loans := r.state.cru.loans - excess, tracker := some { c with total := c.want } } }
      (v.countReturned excess).keepWithinCredits
    else r.state.countUnreturned excess
  else u

/-- R73: a matching REPLY acts by its kind. -/
def State.matchReply (s : State) (lender : Byte) (c : Canvass) (k : ReplyKind) (amount : Nat) : State :=
  let c' := { c with received := c.received + 1 }
  match k with
  | .conflict =>
    let t : State := { s with cru := { s.cru with tracker := some { c' with conflict := true } } }
    t.count .conflictsSeen
  | .decline => { s with cru := { s.cru with tracker := some c' } }
  | .lend => s.takeLend lender c' amount

/-- R73, R75: when the replies received reach the replies expected the canvass closes. -/
def State.closeIfAnswered (s : State) : State :=
  match s.cru.tracker with
  | some c => if c.expected ≤ c.received then s.closeCanvass c .canvassesAnswered else s
  | none => s

/-- R78: a late LEND. -/
def State.lateLend (s : State) (lender : Byte) (n : Half) (amount : Nat) : State :=
  let k := min amount (s.cru.needed - s.cru.held)
  let t : State := { s with cru := { s.cru with loans := s.cru.loans + k } }
  let u :=
    if k < amount then
      let r := t.offerReturn lender n (amount - k)
      if r.taken then r.state.countReturned (amount - k)
      else
        let v : State := { r.state with cru := { r.state.cru with loans := r.state.cru.loans + (amount - k) } }
        v.countUnreturned (amount - k)
    else t
  ((u.count .lateLends).countBy .lateCreditsReceived amount).countBy .lateCreditsKept k

/-- R78: a late REPLY by kind. -/
def State.lateReply (s : State) (lender : Byte) (n : Half) (k : ReplyKind) (amount : Nat) : State :=
  match k with
  | .lend => s.lateLend lender n amount
  | .decline | .conflict => s.count .lateRepliesIgnored

/-- R73: a REPLY that reached its destination, on line. -/
def State.takeReply (s : State) (lender : Byte) (n : Half) (k : ReplyKind) (amount : Nat) : State :=
  match s.cru.tracker with
  | some c => if c.number = n then (s.matchReply lender c k amount).closeIfAnswered else s.lateReply lender n k amount
  | none => s.lateReply lender n k amount

/-- R79: a RETURN that reached its destination, on line. -/
def State.takeReturn (s : State) (amount : Nat) : State :=
  let t : State := { s with cru := { s.cru with loans := s.cru.loans + amount } }
  (t.count .returnsReceived).countBy .creditsBack amount

end Sys2Proof.Machine
end

