-- ==== Sys2Proof/Machine/Power.lean ====
section
/-!
DEFINITION. The control period (R24): feedback and useful energy (R31), distribution and update (R32 to R40), the demand of
the Power Demand Unit (R47 to R55) and the setpoint latch of the Inverter Interface (R57, R61).
-/

namespace Sys2Proof.Machine

/-! ### Feedback and accounting -/

/-- R31: the feedback sample of the ended period; an invalid one is replaced by the latched setpoint. -/
def State.feedbackSample (s : State) : Sample :=
  let p := if s.pins.feedbackValid then min s.pins.feedback.toNat 6000 else s.ivi.latched
  { pFb := p, substituted := !s.pins.feedbackValid, useful := p * s.img.etaEff s.pos s.tau.trim / 256 }

/-- R31: the counts of the sample. -/
def State.countSample (s : State) (x : Sample) : State :=
  let t := if x.substituted then s.count .feedbackInvalid
    else if 6000 < s.pins.feedback.toNat then s.count .feedbackSaturated else s
  t.countBy .energyUseful x.useful

/-- R32 to R40: the pool is shared and each record brought up to date, or the energy is unplaced. -/
def State.distribute (s : State) (useful : Nat) : State :=
  let pool := useful + s.tau.residue
  if occupied s.cq.slots then
    let shs := shares s.img pool s.cq.slots
    let after_ := updateSlots s.img s.ivi.latchedMark true s.cq.slots shs
    let t : State := { s with
      cq := { s.cq with slots := after_ }
      tau := { s.tau with residue := pool - shs.sum } }
    (t.countBy .modelLimits (gained Flags.modelLimit s.cq.slots after_)).countBy .surfaceExcesses
      (gained Flags.surfaceExcess s.cq.slots after_)
  else
    let t : State := { s with tau := { s.tau with residue := 0 } }
    t.countBy .energyUnplaced pool

/-- R24, R31 to R40: the accounting of a period end. -/
def State.account (s : State) : State :=
  let x := s.feedbackSample
  let t := ((s.count .periods).countSample x).distribute x.useful
  { t with tau := { t.tau with sample := x } }

/-! ### The demand -/

/-- The target specific enthalpy of the station's own position (R42). -/
def State.ownTarget (s : State) : Nat := s.tau.targets.elim 0 fun v => v.get s.pos

/-- R48: the energy a record still needs; the subtraction of naturals stops at 0. -/
def needOf (target : Nat) (r : Record) : Nat := ceilDiv ((target - r.specific) * r.mass) 100

/-- R49: the periods expected before the next shift. -/
def State.periodsBeforeShift (s : State) : Nat := max 1 (ceilDiv (s.cq.iAvg - (s.now - s.cq.lastShift).toNat) 100)

/-- R49, R50: the periods slot `i` of `k` has left. -/
def State.periodsLeft (s : State) (k i : Nat) : Nat :=
  if s.ldu.state = .run then s.periodsBeforeShift + (k - 1 - i) * ceilDiv s.cq.iAvg 100 else s.img.holdHorizon

/-- R51: the rate of slot `i`. -/
def State.rate (s : State) (k i : Nat) : Slot → Nat
  | some r => ceilDiv (needOf s.ownTarget r) (s.periodsLeft k i)
  | none => 0

/-- R51: the sum of the rates of the slots from slot `i` on. -/
def State.planFrom (s : State) (k : Nat) : Nat → List Slot → Nat
  | _, [] => 0
  | i, x :: rest => s.rate k i x + s.planFrom k (i + 1) rest

/-- R51: E_plan. -/
def State.plan (s : State) : Nat := s.planFrom s.cq.slots.length 0 s.cq.slots

/-- R52: P_dem before guard and clamp. -/
def State.rawDemand (s : State) : Nat := ceilDiv (s.plan * 256) (s.img.etaEff s.pos s.tau.trim)

/-- R52: an occupied slot's surface is at or above the guard temperature. -/
def State.guarded (s : State) : Bool := s.cq.slots.any (fun x => x.any (fun r => s.img.guardTemp ≤ r.surface s.img))

/-- R52: P_dem after guard and clamp. -/
def State.demand (s : State) : Nat :=
  min (if s.guarded then min s.rawDemand s.img.guardPower else s.rawDemand) (s.img.pMax.get s.pos)

/-- R53: the credits that cover a power. -/
def Image.creditsFor (img : Image) (p : Nat) : Nat := ceilDiv p (img.creditKw * 10)

/-- R54: the power the credits held allow. -/
def State.available (s : State) : Nat := s.cru.held * (s.img.creditKw * 10)

/-- R55: the setpoint of the next period from the target power and the setpoint in force. -/
def rampTo (target prev ramp : Nat) : Nat := if prev < target then min target (prev + ramp) else target

/-- R47, R52 to R55: the items of the Power Demand Unit at a period end. E_plan is stored as the sum of R51 comes out, also above
the bound of R47's table (DESIGN CHOICE, log 50). -/
def State.demandItems (s : State) : Pdu :=
  let target := min s.demand s.available
  { ePlan := s.plan, pDem := s.demand, guardActive := s.guarded, pAvail := s.available,
    creditClamped := decide (s.available < s.demand), pPrev := s.ivi.inForce,
    pNext := rampTo target s.ivi.inForce s.img.ramp }

/-- R65: the counts of a demand; GUARD_PERIODS only when the guard lowered P_dem. -/
def State.countDemand (s : State) (x : Pdu) : State :=
  let t := if x.creditClamped then s.count .creditClampedPeriods else s
  let u := if s.guarded && decide (s.img.guardPower < s.rawDemand) then t.count .guardPeriods else t
  if x.pNext < min x.pDem x.pAvail then u.count .rampLimitedPeriods else u

/-- R47 to R55: the demand is computed, handed to the Credit Unit (R53) and counted. -/
def State.computeDemand (s : State) : State :=
  let x := s.demandItems
  let t := s.countDemand x
  { t with pdu := x, cru := { t.cru with need := some (s.img.creditsFor x.pDem) } }

/-! ### The latch -/

/-- R57: the station may put a setpoint in force: RUN or HOLD with READY high. -/
def State.mayDrive (s : State) : Bool := (s.ldu.state == .run || s.ldu.state == .hold) && s.pins.ready

/-- R57: the buffer takes P_next and its mark, is latched, and the lines are set for the period now beginning. -/
def State.latchSetpoint (s : State) : State :=
  { s with
    ivi :=
      { buffer := s.pdu.pNext, bufferMark := s.pdu.creditClamped
        latched := s.pdu.pNext, latchedMark := s.pdu.creditClamped
        inForce := if s.mayDrive then s.pdu.pNext else 0
        enable := s.mayDrive
        notReady := if s.pins.ready then false else if s.pins.fault then s.ivi.notReady else true } }

/-- R61: a period end at which not-ready is set is counted once, before the latch. -/
def State.countNotReady (s : State) : State := if s.ivi.notReady then s.count .notReadyPeriods else s

/-- R105, R113: the tail's preview and call check at a period end. -/
def State.tailAfterPeriod (s : State) : State := if s.isTail then s.preview.callCheck else s

/-- R24: the period timer has run 100 ms. -/
def State.periodDue (s : State) : Bool :=
  s.onLine && s.tau.periodStart.any (fun t => reached s.now (after t Config.periodMs))

/-- R24: the next period begins where the ended one closed. -/
def State.nextPeriod (s : State) : State :=
  { s with tau := { s.tau with periodStart := s.tau.periodStart.map (after · Config.periodMs) } }

/-- R24: one period end. A CANVASS of its re-evaluation is offered before the tail's CALL (DESIGN CHOICE, log 43). -/
def State.endPeriod (s : State) : State :=
  ((s.nextPeriod.account.computeDemand.reevaluate).countNotReady.latchSetpoint).tailAfterPeriod

end Sys2Proof.Machine
end

