-- ==== Sys2Proof/Machine/Discovery.lean ====
section
/-!
DEFINITION. Line Discovery (chapter 9): HELLOs (R165, R166), the head decision and POS (R167, R168), COUNT (R169), going on
line by discovery (R170 with R21, R83, R96, R102, R111, R128) and by rejoin (R171, R172 with R22, R84), and the HELLO check
(R173).
-/

namespace Sys2Proof.Machine

/-! ### HELLOs -/

/-- The position byte of a HELLO: 255 for none (R189). -/
def State.positionByte (s : State) : Byte := s.ldu.position.elim 255 fun p => BitVec.ofNat 8 p.val

/-- The state a HELLO names (R166); a station in CONFIG offers none. -/
def helloStateOf : StationState → HelloState
  | .run => .run
  | .hold => .hold
  | .tripped => .tripped
  | .fault => .fault
  | .config | .discover => .discover

/-- The marks byte of a HELLO (R189), its bits 2 to 7 sent 0 (DESIGN CHOICE, log 45). -/
def helloMarks (wanted present : Bool) : Byte := BitVec.ofNat 8 (wanted.toNat + 2 * present.toNat)

/-- R166: the HELLO a station fills from its own state. On line it carries the stroke number, the newest serial and N; in
FAULT its N if it has one. The bytes of an absent stroke number are a free value (log 10). -/
def State.helloPayload (s : State) (wanted : Bool) : Payload :=
  .hello
    { position := s.positionByte, state := helloStateOf s.ldu.state, recipe := BitVec.ofNat 16 s.img.recipeId,
      lastStroke := if s.onLine then s.cq.lastStroke else Config.absentStroke s.freeIndex,
      newestSerial := if s.onLine then BitVec.ofNat 16 (s.cq.newestSerial.getD 0) else 0,
      n := if s.ldu.state = .discover then 0 else BitVec.ofNat 8 (s.ldu.n.getD 0),
      marks := helloMarks wanted s.onLine }

/-- A HELLO offered may have used the free values: the next one uses fresh ones (log 11). -/
def State.nextFree (s : State) : State := { s with freeIndex := s.freeIndex + 1 }

/-- A HELLO with wanted set is offered to a port, counted if taken (R165, R173). -/
def State.sendHello (s : State) (p : Port) : State :=
  (s.offerCountTaken p (s.frame dstAll (s.helloPayload true)) .hellosSent).nextFree

/-- R165: a HELLO with wanted set on each port whose link is UP. -/
def State.sendHellos (s : State) : State :=
  let t := if s.linkIsUp .up then s.sendHello .up else s
  if t.linkIsUp .down then t.sendHello .down else t

/-- R166: an answer to a HELLO with wanted set, on the port of arrival. -/
def State.answerHello (s : State) (p : Port) : State :=
  ((s.offer p (s.frame dstAll (s.helloPayload false))).state.count .hellosAnswered).nextFree

/-! ### The line's shape -/

/-- The role of a position in a line of `n` (R170). -/
def roleOf (p n : Nat) : Role :=
  if n = 1 then .headTail else if p = 0 then .head else if p + 1 = n then .tail else .middle

/-- The port has a neighbour in the line: UP above position 0, DOWN below position N − 1 (R170). -/
def State.hasNeighbour (s : State) (p : Port) : Bool :=
  match p with
  | .up => decide (0 < s.pos.val)
  | .down => decide (s.pos.val + 1 < s.ldu.n.getD 0)

/-- The LINK_LOSS cause of a side (R132). -/
def lossCause : Port → Cause
  | .up => .linkLossUp
  | .down => .linkLossDown

def State.setCheck (s : State) (p : Port) (c : Check) (timer : Option Time) : State :=
  s.setPort p { s.port p with check := c, checkTimer := timer }

/-- R173: a PENDING check offers its HELLO and starts its repeat timer. -/
def State.startCheck (s : State) (p : Port) : State :=
  let t := s.sendHello p
  t.setCheck p (t.port p).check (some (after t.now Config.helloMs))

/-! ### Going on line -/

/-- The station leaves DISCOVER for FAULT with a reason: head claim, the HELLO timer and the POS timer end, and the settle
timer with them (R165, R167; log 29). -/
def State.enterFault (s : State) (r : FaultReason) : State :=
  { s with
    ldu := { s.ldu with
      state := .fault, reason := some r, headClaim := false, settle := none, helloTimer := none, posTimer := none } }

/-- The items every block takes when the coil queue is created, by discovery or rejoin: the Line Discovery Unit's (R170,
R172), TAU (R25, R42, R125), PDU (R47), IVI (R56), CRU (R83, R84), tracker (R88), SCU (R96, R102), EXU (R111) and HLU
(R128). The queue itself, the loans and the role's own items follow in the two ways of going on line. A rejoin, too, ends a head
claim, on-line neighbour seen and the timers of DISCOVER (DESIGN CHOICE, log 53). -/
def State.createUnits (s : State) (p : Fin 16) (n : Nat) : State :=
  { s with
    ldu := { s.ldu with
      state := .run, position := some p, n := some n, role := some (roleOf p.val n), headClaim := false,
      seen := false, settle := none, helloTimer := none, posTimer := none }
    tau := { s.tau with
      periodStart := some s.now, residue := 0, targets := some s.img.targetTable, lastTrim := none }
    pdu := .reset
    ivi := { s.ivi with buffer := 0, bufferMark := false, latched := 0, latchedMark := false }
    cru := { s.cru with
      base := s.img.baseCredits.get p, loans := 0, pool := (s.img.loanPool n).toNat, need := none, tracker := none,
      backoff := none, recanvass := none }
    tracker := .reset
    head := .reset
    tail := .reset
    exu := { s.exu with awaiting := none, gate := false, pulse := .off, owed := 0, window := [] }
    hlu := .reset }

/-- The stroke state at the creation of a queue (R21, R22). -/
def State.createQueue (s : State) (slots : List Slot) (last : Half) : State :=
  { s with
    cq := { slots := slots, lastStroke := last, lastShift := s.now, intervalOpen := false, iAvg := s.img.cadence,
            newestSerial := none } }

/-- The number of slots of the station's own position, K_p (R1). -/
def State.slotCount (s : State) : Nat := s.img.slotCount.get s.pos

/-- R170: a port at discovery end: PASSED with its link UP, else PENDING with its LINK_LOSS cause. -/
def State.settlePort (s : State) (p : Port) : State :=
  if s.hasNeighbour p then
    if s.linkIsUp p then s.setCheck p .passed none else s.raiseOwn (lossCause p)
  else s

/-- R172: the port other than that of the usable answer: an UP link becomes PENDING with its LINK_LOSS cause too. -/
def State.settleOtherPort (s : State) (p : Port) : State :=
  if s.hasNeighbour p then (s.setCheck p .pending none).raiseOwn (lossCause p) else s

/-- R62, R63, R128: the ESTOP and INVERTER_FAULT causes that going on line calls for. -/
def State.raiseTrips (s : State) : State :=
  let t := if s.pins.estop then (s.raiseOwn .estop).count .estopTrips else s
  if t.pins.fault then (t.raiseOwn .inverterFault).count .inverterFaultTrips else t

/-- R57, R128, R129, R111: the mode is derived and counted, the creation boundary latched, the preview computed. -/
def State.openLine (s : State) : State := (s.enterMode (modeOf s.hlu.entries)).latchSetpoint.preview

/-- R102: the tail's items at discovery end. -/
def State.discoveredTail (s : State) : State :=
  if s.isTail then
    { s with tail := { s.tail with
        fill := true
        fillTimer := if s.img.fillInterval = 0 then none else some (after s.now s.img.fillInterval) } }
  else s

/-- R83: the head takes the whole loan pool. -/
def State.headTakesPool (s : State) : State :=
  if s.isHead then { s with cru := { s.cru with loans := s.cru.pool } } else s

/-- R170: going on line by discovery, with a position and N. -/
def State.discover (s : State) (p : Fin 16) (n : Nat) : State :=
  let t := (s.createUnits p n).headTakesPool.discoveredTail
  let u := t.createQueue (List.replicate t.slotCount none) 0
  ((u.settlePort .up).settlePort .down).raiseTrips.openLine.count .discoveries

/-- R169, R167: with match yes the loan pool decides between the line and FAULT BUDGET; N is taken either way. -/
def State.discoverOrBudget (s : State) (n : Nat) : State :=
  let t : State := { s with ldu := { s.ldu with n := some n } }
  if s.img.loanPool n < 0 then t.enterFault .budget else t.discover s.pos n

/-! ### Rejoin -/

/-- The last stroke number a HELLO answer brings; a free value where it is marked not present (log 16). -/
def State.helloStroke (s : State) (h : Hello) : Half :=
  if helloStrokePresent h then h.lastStroke else Config.unreportedStroke s.freeIndex

/-- R22: the head's next serial at a rejoin. -/
def rejoinSerial (h : Hello) : Nat :=
  match helloSerial h with
  | some n => serialAfter n
  | none => 1

/-- R22, R102: the head's and the tail's items at a rejoin. -/
def State.rejoinEnds (s : State) (h : Hello) : State :=
  let t : State := if s.isHead then { s with head := { s.head with nextSerial := rejoinSerial h } } else s
  if t.isTail then
    { t with tail := { t.tail with
        counter := t.helloStroke h, pressIdle := some (after t.now t.img.pressIdleTimeout) } }
  else t

/-- R172: the station rejoins at a position by the answer `h` taken on `p`. The HELLO of the other port's check is offered
after the mode is derived, so that it names it (log 13). -/
def State.rejoin (s : State) (p : Port) (pos : Fin 16) (h : Hello) : State :=
  let t := (s.createUnits pos h.n.toNat).rejoinEnds h
  let u := t.countBy .placeholdersMade t.slotCount
  let v := u.createQueue (List.replicate u.slotCount (some (u.placeholder none))) (u.helloStroke h)
  let w := ((v.setCheck p .passed none).settleOtherPort p.other).raiseTrips.openLine
  ((if w.hasNeighbour p.other && w.linkIsUp p.other then w.startCheck p.other else w).count .rejoins).nextFree

/-- R171: the position a usable answer gives. A position above 15 is no position (R164; log 18). -/
def State.rejoinPosition (s : State) (p : Port) (h : Hello) : Option (Fin 16) :=
  if h.recipe.toNat = s.img.recipeId then
    match p with
    | .up =>
      if h.position.toNat + 1 < h.n.toNat then
        (if q : h.position.toNat + 1 < 16 then some ⟨h.position.toNat + 1, q⟩ else none)
      else none
    | .down => if h.position = 1 ∧ s.linkIsUp .up = false then some 0 else none
  else none

/-- R171, R172: a HELLO answer taken in DISCOVER. -/
def State.hearAnswerDiscover (s : State) (p : Port) (h : Hello) : State :=
  if helloOnLine h then
    let t : State := { s with ldu := { s.ldu with seen := true } }
    match t.rejoinPosition p h with
    | some pos => if t.img.loanPool h.n.toNat < 0 then t.enterFault .budget else t.rejoin p pos h
    | none => t.count .rejoinRefused
  else s.count .hellosIgnored

/-! ### The HELLO check -/

/-- R173: the neighbour of a side proves itself by its recipe id and position. -/
def State.provesNeighbour (s : State) (p : Port) (h : Hello) : Bool :=
  decide (h.recipe.toNat = s.img.recipeId) &&
  (match p with
   | .up => decide (h.position.toNat + 1 = s.pos.val)
   | .down => decide (h.position.toNat = s.pos.val + 1))

/-- R173, R95: the strokes a passing answer on the UP port shows as missed. -/
def State.missedStrokes (s : State) (p : Port) (h : Hello) : Nat :=
  if p = .up ∧ helloStrokePresent h ∧ isAhead h.lastStroke s.cq.lastStroke then aheadBy h.lastStroke s.cq.lastStroke
  else 0

/-- R173: the check passes; its repeat timer stops in the same event (DESIGN CHOICE, log 55). -/
def State.passCheck (s : State) (p : Port) (h : Hello) : State :=
  let t := (s.setCheck p .passed none).count .helloChecksPassed
  ((t.catchUps (t.missedStrokes p h)).removeOwn (lossCause p)).deriveMode

/-- R173: an on-line station takes a HELLO answer; a port with no neighbour in the line makes no check (R132; log 15). An answer that
has no effect, that of a neighbour not on line on a PENDING check among them, is counted (R174). A port marked MISWIRED keeps the
frames it holds, and sends them (DESIGN CHOICE, log 48). -/
def State.hearAnswerOnLine (s : State) (p : Port) (h : Hello) : State :=
  if s.hasNeighbour p && (s.port p).check == .pending && helloOnLine h then
    if s.provesNeighbour p h then s.passCheck p h
    else (s.setCheck p .miswired (s.port p).checkTimer).count .miswiredMarks
  else s.count .hellosIgnored

/-- R166: a HELLO consumed by a station in DISCOVER, FAULT or on line. -/
def State.takeHello (s : State) (p : Port) (h : Hello) : State :=
  if helloWanted h then s.answerHello p
  else if s.onLine then s.hearAnswerOnLine p h
  else if s.ldu.state = .discover then s.hearAnswerDiscover p h
  else s.count .hellosIgnored

/-- R173: the repeat timer of a check runs out with the link UP: the HELLO is offered again. A MISWIRED check repeats too. -/
def State.repeatCheck (s : State) (p : Port) : State :=
  if s.onLine && s.hasNeighbour p && (s.port p).check != .passed && s.linkIsUp p then s.startCheck p
  else s.setCheck p (s.port p).check none

/-! ### Head decision, POS and COUNT -/

/-- R167: the POS of the head. -/
def State.headPos (s : State) : State :=
  let t := s.offerCountTaken .down
    (s.frame dstAll (.pos 0 (BitVec.ofNat 16 s.img.recipeId) (BitVec.ofNat 8 s.img.version) true)) .posSent
  { t with ldu := { t.ldu with posTimer := some (after t.now Config.posMs) } }

/-- R167: the station finds itself head. -/
def State.becomeHead (s : State) : State :=
  let t : State := { s with ldu := { s.ldu with headClaim := true, position := some 0 } }
  if t.linkIsUp .down then t.headPos else t.discoverOrBudget 1

/-- R167: the head decision: head if the UP link is DOWN and no on-line neighbour was seen. -/
def State.headDecision (s : State) : State :=
  if s.linkIsUp .up = false ∧ s.ldu.seen = false then s.becomeHead else s

/-- A COUNT offered upstream (R168). -/
def State.offerCount (s : State) (n : Nat) (agrees : Bool) : State :=
  (s.offer .up (s.frame dstAll (.count (BitVec.ofNat 8 n) agrees))).state

/-- R169: a COUNT taken in DISCOVER by a station whose position is less than its N. -/
def State.acceptCount (s : State) (n : Nat) (agrees : Bool) : State :=
  if agrees then s.discoverOrBudget n
  else
    let t : State := { s with ldu := { s.ldu with n := some n } }
    t.enterFault .configMismatch

/-- R169: a COUNT taken in DISCOVER, FAULT or on line. -/
def State.takeCount (s : State) (n : Nat) (agrees : Bool) : State :=
  if s.ldu.state = .discover ∧ s.ldu.position.any (fun p => p.val < n) then s.acceptCount n agrees
  else s.count .countIgnored

/-- R168: the match a station forms from a POS and its own image. -/
def State.ownMatch (s : State) (recipe : Half) (version : Byte) (agrees : Bool) : Bool :=
  agrees && decide (recipe.toNat = s.img.recipeId) && decide (version.toNat = s.img.version)

/-- R168: a POS taken in DISCOVER, with the position q it gives. -/
def State.takePlace (s : State) (q : Fin 16) (recipe : Half) (version : Byte) (agrees : Bool) : State :=
  let t : State := { s with ldu := { s.ldu with position := some q, headClaim := false, posTimer := none } }
  if t.linkIsUp .down then
    t.offerCountTaken .down (t.frame dstAll (.pos (BitVec.ofNat 8 q.val) recipe version agrees)) .posSent
  else
    let n := q.val + 1
    let u : State := { t with ldu := { t.ldu with n := some n } }
    (u.offerCount n agrees).acceptCount n agrees

/-- R168: a POS whose position plus 1 is above 15. The station has no position it could hold (log 17). -/
def State.lineTooLong (s : State) : State :=
  let t : State := { s with ldu := { s.ldu with position := none } }
  t.enterFault .lineTooLong

/-- R168: a POS taken in DISCOVER. -/
def State.discoverPos (s : State) (p : Byte) (recipe : Half) (version : Byte) (agrees : Bool) : State :=
  if q : p.toNat + 1 < 16 then s.takePlace ⟨p.toNat + 1, q⟩ recipe version (s.ownMatch recipe version agrees)
  else s.lineTooLong

/-- R168: a POS taken in DISCOVER, FAULT or on line. COUNT_RESENT counts the COUNT offered, taken by the queue or not (DESIGN
CHOICE, log 47). -/
def State.takePos (s : State) (p : Byte) (recipe : Half) (version : Byte) (agrees : Bool) : State :=
  if s.ldu.state = .discover then s.discoverPos p recipe version agrees
  else if s.onLine then
    if p.toNat + 1 = s.pos.val ∧ s.upPort.check = .passed then
      (s.offerCount (s.ldu.n.getD 0) true).count .countResent
    else s.count .posIgnored
  else match s.ldu.reason, s.ldu.n with
    | some .configMismatch, some n => s.offerCount n false
    | _, _ => s.count .posIgnored

/-! ### START and the timers of DISCOVER -/

/-- R165: START. -/
def State.startDiscovery (s : State) : State :=
  let t : State := { s with
    ldu := { s.ldu with
      state := .discover
      settle := some (after s.now Config.settleMs)
      helloTimer := some (after s.now Config.helloMs) } }
  t.sendHellos

/-- R165: the HELLO timer expires in DISCOVER. -/
def State.repeatHellos (s : State) : State :=
  let t := s.sendHellos
  { t with ldu := { t.ldu with helloTimer := some (after t.now Config.helloMs) } }

/-- R165: after LOAD_IMAGE the station is in CONFIG, and every timer of R164 is stopped. -/
def State.returnToConfig (s : State) : State :=
  { s with
    ldu := .reset
    upPort := { s.upPort with checkTimer := none }
    downPort := { s.downPort with checkTimer := none } }

/-! ### What the units do when a link changes -/

/-- R147, R173: a link came UP: an on-line station starts the check of a PENDING port that has a neighbour; a MISWIRED port
takes up its repeats again (log 14). -/
def State.unitsLinkUp (s : State) (p : Port) : State :=
  if s.onLine && s.hasNeighbour p then
    match (s.port p).check with
    | .pending => s.startCheck p
    | .miswired => s.setCheck p .miswired (some (after s.now Config.helloMs))
    | .passed => s
  else s

/-- R173: a PASSED check becomes PENDING and the repeat timer stops when the link goes DOWN. -/
def State.unpassCheck (s : State) (p : Port) : State :=
  s.setCheck p (if (s.port p).check = .passed then .pending else (s.port p).check) none

/-- R167: a station that waits for its POS in DISCOVER: its settle time is over and it has no position. -/
def State.waitsForPos (s : State) : Bool :=
  s.ldu.state == .discover && s.ldu.settle.isNone && s.ldu.position.isNone

/-- R132, R148, R167, R173: a link went DOWN. -/
def State.unitsLinkDown (s : State) (p : Port) : State :=
  let t := s.unpassCheck p
  if t.onLine then
    if t.hasNeighbour p then (t.raiseOwn (lossCause p)).deriveMode else t
  else if p = .up ∧ t.waitsForPos then t.headDecision
  else t

end Sys2Proof.Machine
end

