-- ==== Sys2Proof/Machine/Link.lean ====
section
/-!
DEFINITION. The Link Ports and Router (chapter 8): routing of a complete frame (R152, R154 to R157), the change of a link's
state (R147 to R149), the receiver (R150, R151) and the transmitter with its egress choice (R145, R160).
-/

namespace Sys2Proof.Machine

/-! ### Routing -/

/-- What the router does with a frame that passed its checks (R154, R156). -/
inductive Disposition where
  | consume | forward | copy | dropState
  deriving DecidableEq, Repr

/-- R154, R155: the routing at an on-line station; a MISWIRED port takes in nothing but HELLO. -/
def State.disposition (s : State) (p : Port) (f : Frame) : Disposition :=
  if (s.port p).check = .miswired ∧ frameKind f ≠ .hello then .dropState
  else if s.onLine then
    match kindPath (frameKind f) with
    | .addressed => if f.dst = s.originByte then .consume else .forward
    | .broadcast => .copy
    | .neighbour => .consume
  else if s.ldu.state = .config then
    match frameKind f with
    | .pos | .hello => .dropState
    | _ => .forward
  else
    match frameKind f with
    | .pos | .hello => .consume
    | .count => .copy
    | _ => .dropState

/-- R155: the onward port can carry a frame, by the station as it stands once a copy of the frame has been taken. -/
def State.canCarry (s : State) (onward : Port) : Bool :=
  s.linkIsUp onward && (s.port onward).check != .miswired &&
  !(s.onLine && (match onward with | .up => s.isHead | .down => s.isTail))

/-- R157: a frame joins the newest end of the forward queue; FRAMES_FORWARDED is counted on the port of that queue (DESIGN CHOICE,
log 51). -/
def State.enqueueForward (s : State) (onward : Port) (f : Frame) : State :=
  s.setPort onward { (s.port onward).countBy .framesForwarded 1 with forward := (s.port onward).forward ++ [f] }

/-- R155, R157, R162: a frame is carried on; `copied` tells a broadcast whose copy is taken. -/
def State.carry (s : State) (p : Port) (f : Frame) (copied : Bool) : State :=
  let o := p.other
  if s.canCarry o then
    if (s.port o).forward.length < Config.forwardCapacity then
      (s.enqueueForward o f).traceAction p (if copied then .copiedForwarded else .receivedForwarded) (viewOfFrame f)
    else (s.portCount o .forwardOverrun).traceDrop o .forwardOverrun (viewOfFrame f)
  else if copied then s.traceAction p .consumed (viewOfFrame f)
  else if kindPath (frameKind f) = .addressed then (s.portCount o .misrouted).traceDrop o .misrouted (viewOfFrame f)
  else s.traceDrop p .endOfLine (viewOfFrame f)

/-- The unit that takes a consumed frame or a copy acts (R154). The Line Discovery Unit's kinds act in every started state;
the others reach a unit on line only (R156). A CALL consumed by a station that is not the head has no unit to act on it
(log 20). -/
def State.unitTakes (s : State) (p : Port) (f : Frame) : State :=
  match f.payload with
  | .hold cause origin => s.hearHold cause origin
  | .clear cause origin => s.hearClear cause origin
  | .stroke n synth content => s.takeStroke n synth content
  | .call k n => if s.isHead then s.takeCall k n else s
  | .pos q recipe version agrees => s.takePos q recipe version agrees
  | .count n agrees => s.takeCount n.toNat agrees
  | .hello h => s.takeHello p h
  | .canvass origin n want => s.answerCanvass origin n want
  | .reply n k amount => s.takeReply f.src n k amount.toNat
  | .ret _ amount => s.takeReturn amount.toNat
  | .trim step n => s.hearTrim step n

/-- The receive end of a port: a frame was completed or dropped now (R175). -/
def State.endReceive (s : State) (p : Port) : State := s.setPort p { s.port p with recvEnd := some s.micros }

/-- A frame that passed R151 and R152 is routed (R154 to R156). A consumed frame is offered to the trace before its unit acts, and
the copy of a broadcast acts before the frame is carried on (DESIGN CHOICE for the trace, log 22): R155 finds the copy taken, so
that a COUNT which puts the head on line ends there. FRAMES_CONSUMED and DROPPED_STATE are counted on the port of arrival (DESIGN
CHOICE, log 51). -/
def State.route (s : State) (p : Port) (f : Frame) : State :=
  match s.disposition p f with
  | .consume => (((s.portCount p .framesConsumed).traceAction p .consumed (viewOfFrame f)).endReceive p).unitTakes p f
  | .copy => (((s.portCount p .framesConsumed).unitTakes p f).carry p f true).endReceive p
  | .forward => (s.carry p f false).endReceive p
  | .dropState => ((s.portCount p .droppedState).traceDrop p .state (viewOfFrame f)).endReceive p

/-- A frame dropped at reception: counted, offered to the trace, and the frame end kept (R151, R152, R162, R175). -/
def State.dropReceived (s : State) (p : Port) (c : PortCounter) (k : ErrorKind) (v : FrameView) : State :=
  ((s.portCount p c).traceDrop p k v).endReceive p

/-- R150, R152: a complete frame with a matching CRC, of a known kind and a readable payload. -/
def State.receiveFrame (s : State) (p : Port) (f : Frame) : State :=
  if headerOk p f then (s.portCount p .framesGood).route p f
  else s.dropReceived p .headerErrors .headerError (viewOfFrame f)

/-! ### Changes of link state -/

/-- R147: the link becomes UP. -/
def State.linkComesUp (s : State) (p : Port) : State :=
  let t := s.setPort p
    { (s.port p).countBy .linkUps 1 with
      link := .up, validRun := 16, errorRun := 0, receiver := .hunting
      silence := some (after s.now Config.silenceMs) }
  t.unitsLinkUp p

/-- The frame in transmission, with whether it is the station's own (R149). -/
def Transmitter.frame : Transmitter → List (Frame × Bool)
  | .sending f own _ => [(f, own)]
  | .brk _ | .idling => []

/-- R149, R162: every frame a port holds, in the order the router offers their loss, with whether it is the station's own:
the frame in transmission, the forward queue, the local queue. -/
def LinkPort.heldFrames (x : LinkPort) : List (Frame × Bool) :=
  x.transmitter.frame ++ x.forward.map (·, false) ++ x.localQ.map (·, true)

/-- R82, R149: one frame discarded at link loss. -/
def State.discard (s : State) (p : Port) (f : Frame × Bool) : State :=
  let t := (s.portCount p .linkLossDiscards).traceDrop p .linkLoss (viewOfFrame f.1)
  if f.2 then t.countBy .creditsDiscarded (carriedCredits f.1) else t

def State.discardAll (s : State) (p : Port) : List (Frame × Bool) → State
  | [] => s
  | f :: rest => (s.discard p f).discardAll p rest

/-- The receive end of a port whose receiver drops the frame it assembles (R149, R175). -/
def State.dropAssembly (s : State) (p : Port) : State :=
  match (s.port p).receiver with
  | .inFrame _ => s.endReceive p
  | .hunting => s

/-- R148, R149: the link goes DOWN, counted by its cause. The error run becomes 0 with the valid run (DESIGN CHOICE, log 46). -/
def State.linkGoesDown (s : State) (p : Port) (c : PortCounter) : State :=
  let t := ((s.portCount p c).discardAll p (s.port p).heldFrames).dropAssembly p
  let x := t.port p
  let u := t.setPort p
    { x with
      link := .down, validRun := 0, errorRun := 0, silence := none, receiver := .hunting
      transmitter := .brk (after t.now Config.breakMs), forward := [], localQ := [], starvation := 0
      sendEnd := x.sentAt t.micros }
  u.unitsLinkDown p

/-! ### The receiver -/

def State.setReceiver (s : State) (p : Port) (r : Receiver) : State := s.setPort p { s.port p with receiver := r }

/-- A frame under reception is dropped, and the receiver hunts (R151). -/
def State.dropOpen (s : State) (p : Port) (got : List Byte) (c : PortCounter) (k : ErrorKind) : State :=
  (s.setReceiver p .hunting).dropReceived p c k (viewOfBytes got)

/-- The payload length a frame's header gives, once received. -/
def headerLength (got : List Byte) : Option Nat := got[4]?.map BitVec.toNat

/-- The header of a received frame carries the class of its kind, the direction of its port and clear middle bits (R152,
R188). -/
def header1Ok (p : Port) (k : Kind) (got : List Byte) : Bool := got[1]? == some (header1 p k)

/-- R151, R152: the frame is complete; `got` holds its bytes from the kind code to the second CRC character. -/
def State.completeFrame (s : State) (p : Port) (got : List Byte) : State :=
  let t := s.setReceiver p .hunting
  let body := got.take (got.length - 2)
  if crc body = BitVec.ofNat 16 (ofBytes (got.drop (got.length - 2))) then
    match (got[0]?).bind kindOfCode with
    | none => t.dropReceived p .unknownKinds .unknownKind (viewOfBytes got)
    | some k =>
      match parsePayload k (body.drop 5) with
      | some x =>
        if header1Ok p k got then
          t.receiveFrame p { src := (got[2]?).getD 0, dst := (got[3]?).getD 0, payload := x }
        else t.dropReceived p .headerErrors .headerError (viewOfBytes got)
      | none => t.dropReceived p .headerErrors .headerError (viewOfBytes got)
  else t.dropReceived p .crcErrors .crcError (viewOfBytes got)

/-- R150, R151: a data character inside an open frame. -/
def State.collect (s : State) (p : Port) (got : List Byte) (b : Byte) : State :=
  let got' := got ++ [b]
  match headerLength got' with
  | some len =>
    if 96 < len then s.dropOpen p got' .lengthErrors .lengthError
    else if len + 7 ≤ got'.length then s.completeFrame p got'
    else s.setReceiver p (.inFrame got')
  | none => s.setReceiver p (.inFrame got')

/-- R151: an idle, a frame start or a data character taken by the receiver of a port whose link is UP. -/
def State.receiverTakes (s : State) (p : Port) (c : CharSort) : State :=
  match c, (s.port p).receiver with
  | .idle, .inFrame got => s.dropOpen p got .lengthErrors .lengthError
  | .idle, .hunting => s
  | .start k, .inFrame got => (s.dropOpen p got .lengthErrors .lengthError).setReceiver p (.inFrame [k])
  | .start k, .hunting => s.setReceiver p (.inFrame [k])
  | .data b, .inFrame got => s.collect p got b
  | .data _, .hunting => s.portCount p .strayData
  | .error, .inFrame got => s.dropOpen p got .frameCharErrors .charError
  | .error, .hunting => s

/-- R148: a valid character on a link that is UP. -/
def State.noteValid (s : State) (p : Port) : State :=
  s.setPort p { s.port p with errorRun := 0, silence := some (after s.now Config.silenceMs) }

/-- R145: the port's own break period stands. -/
def LinkPort.inBreak (x : LinkPort) : Bool :=
  match x.transmitter with
  | .brk _ => true
  | .idling | .sending _ _ _ => false

/-- R144, R147, R148: an error character. -/
def State.errorChar (s : State) (p : Port) : State :=
  let t := s.portCount p .charErrors
  if t.linkIsUp p then
    let u := t.receiverTakes p .error
    let n := (u.port p).errorRun + 1
    let v := u.setPort p { u.port p with errorRun := n }
    if 8 ≤ n then v.linkGoesDown p .linkDownsErrors else v
  else t.setPort p { t.port p with validRun := 0 }

/-- R151: a data character outside a frame is stray, whatever else its arrival does. -/
def State.noteStray (s : State) (p : Port) : CharSort → State
  | .data _ => s.portCount p .strayData
  | .idle | .start _ | .error => s

/-- R147: a valid character on a link that is DOWN, whose receiver is HUNTING (R146) and opens no frame. -/
def State.validWhileDown (s : State) (p : Port) (c : CharSort) : State :=
  let t := s.noteStray p c
  if (t.port p).inBreak then t
  else
    let n := (t.port p).validRun + 1
    if 16 ≤ n then t.linkComesUp p else t.setPort p { t.port p with validRun := n }

/-- R147, R148, R151: a valid character. -/
def State.validChar (s : State) (p : Port) (c : CharSort) : State :=
  if s.linkIsUp p then (s.noteValid p).receiverTakes p c else s.validWhileDown p c

/-- R144: a character arrives, with everything that comes about in its event. -/
def State.receiveChar (s : State) (p : Port) (c : RawChar) : State :=
  match sortChar c with
  | .error => s.errorChar p
  | .idle => s.validChar p .idle
  | .start k => s.validChar p (.start k)
  | .data b => s.validChar p (.data b)

/-- A complete frame arrives, as a command of its kind gives it: its last character has arrived on a link that is UP (log 5). -/
def State.frameArrives (s : State) (a : Arrival) (x : Payload) : State :=
  if s.linkIsUp a.port then
    ((s.noteValid a.port).setReceiver a.port .hunting).receiveFrame a.port
      { src := a.src, dst := a.dst, payload := x }
  else s

/-! ### The transmitter -/

/-- R160: the local head goes before the forward head. -/
def localFirst (starvation : Nat) (l f : Frame) : Bool := decide (frameClass l < frameClass f ∨ 8 ≤ starvation)

/-- R160: the local head is sent. -/
def State.sendLocal (s : State) (p : Port) (f : Frame) (rest : List Frame) : State :=
  s.setPort p { s.port p with localQ := rest, starvation := 0, transmitter := .sending f true s.micros }

/-- R160: the forward head is sent; the starvation count rises while a local frame waits. -/
def State.sendForward (s : State) (p : Port) (f : Frame) (rest : List Frame) : State :=
  let x := s.port p
  s.setPort p
    { x with
      forward := rest
      starvation := if x.localQ.isEmpty then x.starvation else min (x.starvation + 1) 8
      transmitter := .sending f false s.micros }

/-- R160: the egress choice. A local frame that goes only because the count has reached 8 is an override; one that its class sends
as well is not counted (DESIGN CHOICE, log 54). -/
def State.egress (s : State) (p : Port) : State :=
  match (s.port p).localQ, (s.port p).forward with
  | [], [] => s.setPort p { s.port p with transmitter := .idling }
  | l :: rest, [] => s.sendLocal p l rest
  | [], f :: rest => s.sendForward p f rest
  | l :: ls, f :: fs =>
    if localFirst (s.port p).starvation l f then
      if frameClass l < frameClass f then s.sendLocal p l ls
      else (s.sendLocal p l ls).portCount p .starvationOverrides
    else s.sendForward p f fs

/-- R145: the frame in transmission and its idle have been sent. -/
def State.frameSent (s : State) (p : Port) : State :=
  match (s.port p).transmitter with
  | .sending f _ began =>
    s.setPort p
      { (s.port p).countBy .framesSent 1 with
        transmitter := .idling, sendEnd := some (began + Config.charMicros * frameLength f) }
  | .idling | .brk _ => s

/-- R145: the transmitter can come free at a time: it sends idles, or the last character of its frame and the idle after it,
6 µs each, have been sent (log 34). -/
def Transmitter.canBeFree (micros : Nat) : Transmitter → Bool
  | .brk _ => false
  | .idling => true
  | .sending f _ began => decide (began + Config.charMicros * (frameLength f + 1) ≤ micros)

/-- R145, R160: the transmitter comes free. -/
def State.becomeFree (s : State) (p : Port) : State :=
  if (s.port p).transmitter.canBeFree s.micros then (s.frameSent p).egress p else s

/-- R145: the break period of a port has run out. -/
def LinkPort.breakOver (x : LinkPort) (now : Time) : Bool :=
  match x.transmitter with
  | .brk t => reached now t
  | .idling | .sending _ _ _ => false

end Sys2Proof.Machine
end

