-- ==== Sys2Proof/Machine/Readout.lean ====
section
/-!
DEFINITION. What the reads of the service port return (R142, R181, R185, R187), as bytes (R190, R191). The encodings that R190
leaves open are in logs 25 to 27 and 56.
-/

namespace Sys2Proof.Machine

/-! ### Items (R190; log 25) -/

/-- A time of the part's clock, or a time between two of its readings. -/
def timeItem (t : Time) : List Byte := item 4294967295 t.toNat

/-- A timer: its expiry, absent while it is stopped. -/
def timerItem (t : Option Time) : List Byte := optItem 4294967295 (t.map BitVec.toNat)

def halfItem (n : Half) : List Byte := item 65535 n.toNat

def optHalfItem (n : Option Half) : List Byte := optItem 65535 (n.map BitVec.toNat)

/-- A member of a list of states, by its index in the list of its owning rule. -/
def stationIndex : StationState → Nat
  | .config => 0 | .discover => 1 | .run => 2 | .hold => 3 | .tripped => 4 | .fault => 5

/-- The line modes of R128, in the order RUN, HOLD, TRIPPED. -/
def modeIndex : StationState → Option Nat
  | .run => some 0 | .hold => some 1 | .tripped => some 2
  | .config | .discover | .fault => none

/-- The fault reasons, by their index in the list of R164 counted without its `none`, which is sent as the absent value: so
CONFIG_MISMATCH is 0 (DESIGN CHOICE, log 25). -/
def faultIndex : FaultReason → Nat
  | .configMismatch => 0 | .lineTooLong => 1 | .budget => 2

/-- The roles, by their index in the list of R164 counted without its `none` as well: HEAD is 0 (DESIGN CHOICE, log 25). -/
def roleIndex : Role → Nat
  | .head => 0 | .tail => 1 | .middle => 2 | .headTail => 3

def checkIndex : Check → Nat
  | .pending => 0 | .passed => 1 | .miswired => 2

def pusherIndex : Pusher → Nat
  | .idle => 0 | .pushing => 1 | .fault => 2

def linkIndex : LinkState → Nat
  | .down => 0 | .up => 1

def receiverIndex : Receiver → Nat
  | .hunting => 0 | .inFrame _ => 1

def transmitterIndex : Transmitter → Nat
  | .brk _ => 0 | .idling => 1 | .sending _ _ _ => 2

/-- The port of a trace entry: UP 0, DOWN 1, in the order of R175 (DESIGN CHOICE, log 27: R190 gives the two no code). -/
def portIndex : Port → Nat
  | .up => 0 | .down => 1

def traceStateIndex : TraceState → Nat
  | .idle => 0 | .armed => 1 | .recording => 2 | .stopped => 3

def traceModeIndex : TraceMode → Nat
  | .free => 0 | .startOn => 1 | .stopOn => 2 | .onlyMatch => 3

/-- The trace actions are coded 1 to 5 in the order of R175 (R190). -/
def actionCode : Action → Nat
  | .receivedForwarded => 1 | .consumed => 2 | .copiedForwarded => 3 | .originated => 4 | .dropped => 5

/-- The error kinds are coded 1 to 12 (R190). -/
def errorCode : ErrorKind → Nat
  | .charError => 1 | .lengthError => 2 | .crcError => 3 | .unknownKind => 4 | .headerError => 5 | .state => 6
  | .forwardOverrun => 7 | .misrouted => 8 | .endOfLine => 9 | .localRefused => 10 | .localDisplaced => 11
  | .linkLoss => 12

/-! ### READ_STATUS (R185) -/

/-- 1: the Line Discovery Unit's items (R164), the HELLO checks UP before DOWN (DESIGN CHOICE, log 25). -/
def State.lduItems (s : State) : List Byte :=
  item 5 (stationIndex s.ldu.state) ++ optItem 2 (s.ldu.reason.map faultIndex) ++
  optItem 15 (s.ldu.position.map Fin.val) ++ optItem 16 s.ldu.n ++ optItem 3 (s.ldu.role.map roleIndex) ++
  bitItem s.ldu.headClaim ++ bitItem s.ldu.seen ++ timerItem s.ldu.settle ++ timerItem s.ldu.helloTimer ++
  timerItem s.ldu.posTimer ++
  item 2 (checkIndex s.upPort.check) ++ timerItem s.upPort.checkTimer ++
  item 2 (checkIndex s.downPort.check) ++ timerItem s.downPort.checkTimer

/-- One entry of the hold cause list, five items (R142). -/
def holdItem (now : Time) (e : HoldEntry) : List Byte :=
  [causeCode e.cause, e.origin] ++ bitItem e.own ++ item 4294967295 (e.age now) ++
  optItem 2000 (if e.own then none else some (Config.holdLifeMs - e.age now))

/-- 2: the hold cause list, the refresh timer and the line mode, in the order of the table of R128 (R142, R190). -/
def State.hluItems (s : State) : List Byte :=
  listItem s.hlu.entries (holdItem s.now) ++ timerItem s.hlu.refresh ++ optItem 2 (modeIndex s.ldu.state)

/-- η_eff as it stands (R30), for a station with an image and a position. -/
def State.etaItem (s : State) : Option Nat :=
  match s.svi.image, s.ldu.position with
  | some img, some p => some (img.etaEff p s.tau.trim)
  | _, _ => none

/-- 3: residue, τ, η_eff and the last sample (R25). The mark of the sample is its index in R25's "valid or substituted": valid 0,
substituted 1 (DESIGN CHOICE, log 25). -/
def State.tauItems (s : State) : List Byte :=
  item 7 s.tau.residue ++ toBytesInt 1 s.tau.trim ++ optItem 255 s.etaItem ++ item 6000 s.tau.sample.pFb ++
  bitItem s.tau.sample.substituted ++ item 6000 s.tau.sample.useful

/-- 4: the Power Demand Unit's items (R47). -/
def State.pduItems (s : State) : List Byte :=
  item 48000000 s.pdu.ePlan ++ item 5000 s.pdu.pDem ++ bitItem s.pdu.guardActive ++ optItem 500 s.cru.need ++
  item 1275000 s.pdu.pAvail ++ bitItem s.pdu.creditClamped ++ item 5000 s.pdu.pPrev ++ item 5000 s.pdu.pNext

/-- 5: the Inverter Interface's items, then the levels of READY, FAULT, ESTOP and trip reset (R56). -/
def State.iviItems (s : State) : List Byte :=
  item 5000 s.ivi.buffer ++ bitItem s.ivi.bufferMark ++ item 5000 s.ivi.latched ++ bitItem s.ivi.latchedMark ++
  item 5000 s.ivi.inForce ++ bitItem s.ivi.enable ++ bitItem s.ivi.notReady ++ item 65535 s.pins.feedback.toNat ++
  bitItem s.pins.feedbackValid ++ bitItem s.pins.ready ++ bitItem s.pins.fault ++ bitItem s.pins.estop ++
  bitItem s.pins.tripReset

/-- The items of the tracker (R70), each absent while there is none. -/
def canvassItems (c : Option Canvass) : List Byte :=
  optHalfItem (c.map Canvass.number) ++ optItem 500 (c.map Canvass.want) ++ optItem 15 (c.map Canvass.expected) ++
  optItem 15 (c.map Canvass.received) ++ optItem 4095 (c.map Canvass.total) ++
  optItem 1 (c.map fun x => x.conflict.toNat) ++ timerItem (c.map Canvass.deadline)

/-- 6: the Credit Unit's items with its tracker (R68). -/
def State.cruItems (s : State) : List Byte :=
  item 255 s.cru.base ++ item 4095 s.cru.loans ++ item 4095 s.cru.pool ++ optItem 500 s.cru.need ++
  canvassItems s.cru.tracker ++ halfItem s.cru.counter ++ timerItem s.cru.backoff ++ timerItem s.cru.recanvass

/-- 7: the Stroke and Call Unit's items for head and tail (R96, R102). The push pulse is its end time alone, and the call outstanding
its number and its kind, each absent by itself (DESIGN CHOICE, log 25). -/
def State.scuItems (s : State) : List Byte :=
  listItem s.head.calls halfItem ++ optHalfItem s.head.lastExecuted ++ item 2 (pusherIndex s.head.pusher) ++
  timerItem s.head.pulse ++ timerItem s.head.timer ++ bitItem s.head.owed ++ item 65535 s.head.nextSerial ++
  halfItem s.tail.counter ++ optHalfItem (s.tail.outstanding.map Prod.fst) ++
  optItem 2 (s.tail.outstanding.map fun x => (callKindCode x.2).toNat) ++ timerItem s.tail.callTimer ++
  bitItem s.tail.pressWaiting ++ bitItem s.tail.fill ++ timerItem s.tail.fillTimer ++ timerItem s.tail.pressIdle

/-- A station list: a count byte, then position and exit mean temperature of each entry. -/
def stationsItem (xs : List (Nat × Nat)) : List Byte := listItem xs fun e => item 15 e.1 ++ item 1600 e.2

/-- Accrued, all ones while it is absent (R190; log 26). -/
def accruedItem : Option SelfStroke → List Byte
  | some ss => toBytesInt 4 ss.accrued
  | none => List.replicate 4 0xFF

/-- The fields of a record, in the order of R3. -/
def recordItem (r : Record) : List Byte :=
  optItem 65535 r.serial ++ item 200000 r.mass ++ item 40000000 r.h ++ item 400 r.d ++ item 65535 r.soak ++
  [r.flags.toByte] ++ stationsItem r.stations ++ accruedItem r.self ++ optHalfItem (r.self.map SelfStroke.createdAt)

/-- The preview: GAP, PASS or REJECT, then its reasons, an empty set with a GAP (DESIGN CHOICE, log 25). Its set has the seven
members of R112's table (DEDUCED, log 56). -/
def previewItem : Option Reasons → List Byte
  | none => [0, 0]
  | some r => [if r.pass then 1 else 2, r.modelByte]

/-- The verdict byte: PASS 0, REJECT 1. -/
def verdictItem (pass : Bool) : List Byte := if pass then [0] else [1]

/-- The fields of a record that may be absent as a whole: each is absent with it (R190), its station list as a count of all ones
(log 25). -/
def optRecordItem (r : Option Record) : List Byte :=
  optItem 65535 (r.bind Record.serial) ++ optItem 200000 (r.map Record.mass) ++ optItem 40000000 (r.map Record.h) ++
  optItem 400 (r.map Record.d) ++ optItem 65535 (r.map Record.soak) ++ optItem 127 (r.map fun x => x.flags.toByte.toNat) ++
  (match r with
   | some x => stationsItem x.stations
   | none => [0xFF]) ++
  accruedItem (r.bind Record.self) ++ optHalfItem ((r.bind Record.self).map SelfStroke.createdAt)

/-- The awaiting billet (R111), each of its items absent while there is none (R190; log 25). Its reasons are those of its model
verdict: the seven of R112's table, with range 0 to 127, in one byte (DEDUCED, log 56). -/
def awaitingItem (a : Option Awaiting) : List Byte :=
  let b := a.map Awaiting.billet
  optRecordItem (b.map (·.record)) ++ optHalfItem (b.map (·.stroke)) ++
  optItem 1 (b.map fun x => (!x.reasons.pass).toNat) ++ optItem 127 (b.map fun x => x.reasons.modelByte.toNat) ++
  optItem 1600 (b.map (·.mean)) ++ optItem 1600 (b.map (·.surface)) ++ optItem 1600 (b.map (·.core)) ++
  timerItem (a.map Awaiting.deadline)

/-- The delivered pulse: its end time while it is on. -/
def pulseEnd : Pulse → Option Time
  | .high t => some t
  | .off | .low _ => none

/-- 8: the Exit Unit's items other than the log (R111). -/
def State.exuItems (s : State) : List Byte :=
  previewItem s.exu.preview ++ awaitingItem s.exu.awaiting ++ verdictItem s.exu.gate ++
  timerItem (pulseEnd s.exu.pulse) ++ item 3 s.exu.owed ++ listItem s.exu.window (toBytesInt 2) ++
  halfItem s.exu.counter

/-- The kinds of the frames of a queue as a list, whose count byte is the occupancy (R146; DESIGN CHOICE, log 25). -/
def queueItem (q : List Frame) : List Byte := listItem q fun f => [kindCode (frameKind f)]

/-- The items of one port (R146). -/
def portItems (x : LinkPort) : List Byte :=
  item 1 (linkIndex x.link) ++ item 1 (receiverIndex x.receiver) ++ item 2 (transmitterIndex x.transmitter) ++
  queueItem x.forward ++ queueItem x.localQ ++ item 8 x.starvation ++ item 2 (checkIndex x.check)

/-- 10: the trace state, mode, write index and rollover count. -/
def State.ltrItems (s : State) : List Byte :=
  item 3 (traceStateIndex s.ltr.state) ++ item 3 (traceModeIndex s.ltr.mode) ++ item 511 s.ltr.writeIndex ++
  item 65535 s.ltr.rollover

/-- 11: the reset cause set, POWER_ON in bit 0 and RESET_PIN in bit 1 (DESIGN CHOICE, log 25). -/
def State.causeItems (s : State) : List Byte := item 3 (setBits [s.svi.causePowerOn, s.svi.causeResetPin])

/-- READ_STATUS: the eleven groups of R185 in their order, both ports' items UP before DOWN (DESIGN CHOICE, log 25). -/
def State.statusData (s : State) : List Byte :=
  s.lduItems ++ s.hluItems ++ s.tauItems ++ s.pduItems ++ s.iviItems ++ s.cruItems ++ s.scuItems ++ s.exuItems ++
  portItems s.upPort ++ portItems s.downPort ++ s.ltrItems ++ s.causeItems

/-! ### READ_QUEUE (R44, R185) -/

/-- The stroke state (R10) and the tracker (R88): at a head, which holds no tracker, counts of 0 and stopped deadlines (DESIGN
CHOICE, log 25). -/
def State.strokeItems (s : State) : List Byte :=
  halfItem s.cq.lastStroke ++ timeItem s.cq.lastShift ++ bitItem s.cq.intervalOpen ++ item 120000 s.cq.iAvg ++
  optItem 65535 s.cq.newestSerial ++ item 2 s.tracker.unmatched ++ timerItem s.tracker.motionDeadline ++
  item 2 s.tracker.unconfirmed ++ timerItem s.tracker.confirmDeadline

/-- A slot: a lead byte, 0 for a GAP and 1 for a record (DESIGN CHOICE, log 25), then the record and its derived values (R44). -/
def slotItem (img : Image) : Slot → List Byte
  | none => [0]
  | some r =>
    1 :: (recordItem r ++ item 8000000 r.specific ++ item 11 (img.segmentOf r.specific) ++ item 1600 (r.mean img) ++
      item 1600 (r.surface img) ++ item 1600 (r.core img))

/-- READ_QUEUE: the stroke state, then the slots as a list, a count byte before them (DESIGN CHOICE, log 25: R185 does not call
the slots a list). -/
def State.queueData (s : State) : List Byte := s.strokeItems ++ listItem s.cq.slots (slotItem s.img)

/-! ### READ_EXIT_LOG (R185, R191) -/

/-- One exit log entry: 25 + 3c bytes (R191). -/
def logItem (e : LogEntry) : List Byte :=
  toBytes 4 e.time.toNat ++ toBytes 2 e.stroke.toNat ++ toBytes 2 (e.serial.getD 0) ++ verdictItem e.pass ++
  [e.reasons.toByte] ++ toBytes 3 e.mass ++ toBytes 2 e.mean ++ toBytes 2 e.surface ++ toBytes 2 e.core ++
  toBytes 2 e.soak ++ toBytes 2 (e.reading.getD 65535) ++ [e.flags.toByte] ++
  (BitVec.ofNat 8 e.stations.length :: e.stations.flatMap fun x => toBytes 1 x.1 ++ toBytes 2 x.2)

/-- The number held, EXIT_LOG_ENTRIES, and `count` entries from index `start` on, oldest first. -/
def State.exitLogData (s : State) (start count : Nat) : List Byte :=
  toBytes 1 s.exu.log.length ++ toBytes 4 (s.counter .exitLogEntries).toNat ++
  ((s.exu.log.drop start).take count).flatMap logItem

/-! ### READ_COUNTERS (R187) -/

/-- The counters of one table, in its order (R23). -/
def cqCounters : List Counter :=
  [.shifts, .placeholdersMade, .recordRepaired, .duplicateSerials, .excursions, .massClamps]

/-- The counters of one table, in its order (R46). -/
def tauCounters : List Counter :=
  [.periods, .feedbackInvalid, .feedbackSaturated, .energyUseful, .energyUnplaced, .modelLimits,
   .surfaceExcesses]

/-- The counters of one table, in its order (R65). -/
def pduIviCounters : List Counter :=
  [.creditClampedPeriods, .guardPeriods, .rampLimitedPeriods, .notReadyPeriods, .estopTrips,
   .inverterFaultTrips, .tripResets, .tripResetRefused]

/-- The counters of one table, in its order (R85). -/
def cruCounters : List Counter :=
  [.canvassesOpened, .canvassNotOpened, .canvassesAnswered, .canvassTimeouts, .backoffs, .recanvassWaits,
   .conflictsSeen, .lendsSent, .declinesSent, .conflictsSent, .repliesRefused, .canvassOwnOrigin,
   .creditsLent, .creditsBorrowed, .returnsSent, .creditsReturned, .returnsRefused, .creditsUnreturned,
   .returnsReceived, .creditsBack, .lateLends, .lateCreditsKept, .lateCreditsReceived, .lateRepliesIgnored,
   .creditsRestored, .creditsDiscarded]

/-- The counters of one table, in its order (R110). -/
def scuCounters : List Counter :=
  [.strokesSent, .strokesRefused, .strokesUnexpected, .synthStrokesTaken, .catchupShifts, .selfStrokes,
   .lateMerged, .lateDiscarded, .motionConfirmed, .motionExcess, .motionMissing, .motionIgnored,
   .pressCallsTaken, .selfCallsTaken, .callsRepeated, .callsDropped, .pushesStarted, .pusherTimeouts,
   .latePushed, .pushedSpurious, .pusherResets, .pressCalls, .callsSent, .callsRefused, .callResends,
   .selfCalls, .fillCalls, .pressIdleHolds]

/-- The counters of one table, in its order (R126). -/
def exuCounters : List Counter :=
  [.gatePass, .gateReject, .reasonMeanLow, .reasonMeanHigh, .reasonCoreLow, .reasonSurfaceHigh,
   .reasonSoakOver, .reasonTrack, .reasonModel, .reasonPyroOut, .pyroForced, .pyroInvalid, .pyroOutside,
   .deliveredLost, .exitLogEntries, .exitLogOverwrites, .trimSamples, .trimWindows, .trimsSentUp,
   .trimsSentDown, .trimsRefused, .trimsApplied, .trimsClamped, .trimsMissed]

/-- The counters of one table, in its order (R143). -/
def hluCounters : List Counter :=
  [.ownCausesRaised, .ownCausesRemoved, .holdsSent, .holdsRefused, .clearsSent, .clearsRefused, .holdsTaken,
   .clearsTaken, .clearsUnmatched, .holdsOwnOrigin, .holdsUnknown, .holdListFull, .holdEvictions,
   .holdExpiries, .runEntries, .holdEntries, .trippedEntries]

/-- The counters of one table, in its order (R174). -/
def lduCounters : List Counter :=
  [.hellosSent, .hellosAnswered, .hellosIgnored, .posSent, .posIgnored, .countResent, .countIgnored,
   .discoveries, .rejoinRefused, .rejoins, .helloChecksPassed, .miswiredMarks]

/-- The counters of one table, in its order (R187). -/
def sviCounters : List Counter :=
  [.serviceRequests, .serviceRefused, .serviceStray, .serviceAbandoned, .imagesLoaded, .imagesRefused]

/-- The counters of one port, in the order of R163. -/
def portCounters : List PortCounter :=
  [.charErrors, .linkUps, .linkDownsErrors, .linkDownsSilence, .linkLossDiscards, .framesGood,
   .frameCharErrors, .lengthErrors, .crcErrors, .strayData, .unknownKinds, .headerErrors, .framesConsumed,
   .misrouted, .droppedState, .framesForwarded, .forwardOverrun, .localTaken, .localRefused, .localDisplaced,
   .starvationOverrides, .framesSent]

/-- The counters of a port as 4 bytes each. -/
def portCounterData (x : LinkPort) : List Byte :=
  portCounters.flatMap fun c => toBytes 4 (x.counters.get c.idx).toNat

/-- Counters as 4 bytes each, in the order of a list. -/
def State.counterBytes (s : State) (cs : List Counter) : List Byte := cs.flatMap fun c => toBytes 4 (s.counter c).toNat

/-- The counters of the block a selector names (R187, R190). -/
def State.counterData (s : State) (selector : Nat) : Option (List Byte) :=
  match selector with
  | 1 => some (s.counterBytes cqCounters)
  | 2 => some (s.counterBytes (tauCounters ++ pduIviCounters))
  | 3 => some (s.counterBytes cruCounters)
  | 4 => some (s.counterBytes scuCounters)
  | 5 => some (s.counterBytes exuCounters)
  | 6 => some (s.counterBytes hluCounters)
  | 7 => some (portCounterData s.upPort ++ portCounterData s.downPort)
  | 8 => some (s.counterBytes lduCounters)
  | 9 => some (s.counterBytes sviCounters)
  | _ => none

/-! ### READ_TRACE (R181; log 27) -/

/-- A field of the pattern as one byte, 255 for ANY. -/
def patternByte (x : Option Nat) : Byte := BitVec.ofNat 8 (x.getD 255)

/-- The pattern as TRACE_SETUP lays it out (R190). While the key is ANY its two bytes are 0, whatever TRACE_SETUP carried there
(DESIGN CHOICE, log 27). -/
def patternItem (q : Pattern) : List Byte :=
  [patternByte (q.kind.map BitVec.toNat), patternByte q.src, patternByte q.dst, patternByte (q.action.map actionCode),
   patternByte (q.error.map errorCode)] ++ toBytes 2 (q.key.getD 0).toNat ++ bitItem q.key.isNone

/-- One trace entry (R175). -/
def traceItem (e : TraceEntry) : List Byte :=
  item 1 (portIndex e.port) ++ item 5 (actionCode e.action) ++ optItem 12 (e.error.map errorCode) ++ item 255 e.gap ++
  timeItem e.time ++ optItem 255 (e.view.kind.map BitVec.toNat) ++ optItem 15 e.view.src ++ optItem 16 e.view.dst ++
  optHalfItem e.view.key

/-- READ_TRACE: the set-up and state, then `count` entries from index `start` on, oldest first (R181), sent as a list, a count byte
before them (DESIGN CHOICE, log 27: R181 does not call the entries a list). -/
def State.traceData (s : State) (start count : Nat) : List Byte :=
  item 3 (traceStateIndex s.ltr.state) ++ item 3 (traceModeIndex s.ltr.mode) ++ patternItem s.ltr.pattern ++
  s.ltr.filter.toList.flatMap (fun row => toBytes 2 row.toNat) ++ bitItem s.ltr.traceErrors ++
  item 512 s.ltr.ring.length ++ item 511 s.ltr.writeIndex ++ item 65535 s.ltr.rollover ++
  listItem ((s.ltr.ring.drop start).take count) traceItem

/-! ### IDENTIFY (R190) -/

def State.identityData (s : State) : List Byte :=
  toBytes 2 Config.vendorCode ++ toBytes 1 Config.familyCode ++ toBytes 1 Config.partCode ++
  bitItem s.svi.image.isSome ++ toBytes 2 (s.svi.image.elim 0 Image.recipeId) ++
  toBytes 1 (s.svi.image.elim 0 Image.version) ++ toBytes 1 (stationIndex s.ldu.state)

end Sys2Proof.Machine
end

