-- ==== Sys2Proof/Machine/Service.lean ====
section
/-!
DEFINITION. The service port (chapter 11): the commands with their states, effects and answers (R183, R184, R180, R181, R185 to
R187), the taking of a complete request and its refusals (R183), and the receiver of the service line (R182).
-/

namespace Sys2Proof.Machine

/-! ### Answers -/

/-- The refusal codes of R190, as the status bytes of their responses. OK is 0. -/
def statusOk : Byte := 0
def refusedCrc : Byte := 1
def refusedCommand : Byte := 2
def refusedLength : Byte := 3
def refusedState : Byte := 4
def refusedRange : Byte := 5
def refusedImage : Byte := 6

/-- What the taking of a request comes to: the state after it, the status byte and the data of the response. -/
structure Answer where
  state : State
  status : Byte
  data : List Byte
  deriving DecidableEq, Repr

/-- A response (R190): start byte, status, data length, data, and a CRC over status, length and data. -/
def responseBytes (status : Byte) (data : List Byte) : List Byte :=
  90 :: status :: (toBytes 2 data.length ++ data ++ toBytes 2 (crc (status :: (toBytes 2 data.length ++ data))).toNat)

/-- A command of R183: its payload length (R190), the states that take it, and its effect, which may refuse with RANGE or
IMAGE. -/
structure Service where
  length : Nat
  takenIn : State → Bool
  run : State → List Byte → Answer

def State.ok (s : State) (data : List Byte) : Answer := { state := s, status := statusOk, data := data }

def State.refuse (s : State) (code : Byte) : Answer := { state := s, status := code, data := [] }

/-- A read: it returns the state as it stands and changes nothing. -/
def readService (data : State → List Byte) : Service :=
  { length := 0, takenIn := fun _ => true, run := fun s _ => s.ok (data s) }

/-- The number of a payload's byte or bytes. -/
def payloadNat (payload : List Byte) (off w : Nat) : Nat := fieldAt payload off w

/-! ### IDENTIFY and the reads -/

def identifyService : Service := readService State.identityData

def readStatusService : Service := readService State.statusData

def readQueueService : Service := readService State.queueData

/-- READ_EXIT_LOG: the index must lie below the number held, the count in 1 to 4 (R185). -/
def readExitLogService : Service :=
  { length := 2
    takenIn := fun _ => true
    run := fun s payload =>
      let start := payloadNat payload 0 1
      let count := payloadNat payload 1 1
      if start < s.exu.log.length ∧ 1 ≤ count ∧ count ≤ 4 then s.ok (s.exitLogData start count)
      else s.refuse refusedRange }

/-- READ_COUNTERS: an unknown selector is refused (R187). -/
def readCountersService : Service :=
  { length := 1
    takenIn := fun _ => true
    run := fun s payload =>
      match s.counterData (payloadNat payload 0 1) with
      | some data => s.ok data
      | none => s.refuse refusedRange }

/-- READ_TRACE: the index must lie below the number held, the count in 1 to 16 (R181). -/
def readTraceService : Service :=
  { length := 3
    takenIn := fun _ => true
    run := fun s payload =>
      let start := payloadNat payload 0 2
      let count := payloadNat payload 2 1
      if start < s.ltr.ring.length ∧ 1 ≤ count ∧ count ≤ 16 then s.ok (s.traceData start count)
      else s.refuse refusedRange }

/-! ### LOAD_IMAGE and START -/

/-- R184: a valid image is stored, its table taken, τ set to 0 and the target table cleared (R42). -/
def State.storeImage (s : State) (img : Image) : State :=
  let t : State := { s with
    svi := { s.svi with image := some img }, tau := { s.tau with trim := 0, targets := none } }
  (t.count .imagesLoaded).returnToConfig

/-- R184: a failed check discards the image held before with the refused one. -/
def State.discardImage (s : State) : State :=
  let t : State := { s with svi := { s.svi with image := none }, tau := { s.tau with targets := none } }
  (t.count .imagesRefused).returnToConfig

/-- R184, R190: IMAGE is refused with the row and the element of the first check that fails. -/
def loadImageService : Service :=
  { length := 286
    takenIn := fun s => s.ldu.state == .config || s.ldu.state == .fault
    run := fun s payload =>
      match (parseImage payload).firstFailure with
      | none => (s.storeImage (parseImage payload)).ok []
      | some c =>
        { state := s.discardImage, status := refusedImage, data := [BitVec.ofNat 8 c.row, BitVec.ofNat 8 c.element] } }

/-- R165: START. -/
def startService : Service :=
  { length := 0
    takenIn := fun s => s.ldu.state == .config && s.svi.image.isSome
    run := fun s _ => s.startDiscovery.ok [] }

/-! ### Counters and reset cause -/

/-- R187: every counter of every block becomes 0. -/
def State.zeroCounters (s : State) : State :=
  { s with
    counters := .replicate 134 0
    upPort := { s.upPort with counters := .replicate 22 0 }
    downPort := { s.downPort with counters := .replicate 22 0 } }

/-- R187: the request counts itself after the clearing. -/
def clearCountersService : Service :=
  { length := 0, takenIn := fun _ => true, run := fun s _ => (s.zeroCounters.count .serviceRequests).ok [] }

/-- R186. -/
def clearResetCauseService : Service :=
  { length := 0
    takenIn := fun _ => true
    run := fun s _ =>
      let t : State := { s with svi := { s.svi with causePowerOn := false, causeResetPin := false } }
      t.ok [] }

/-! ### Trace commands (R180) -/

def Ltr.running (x : Ltr) : Bool := x.state == .armed || x.state == .recording

/-- The trigger mode of a code. -/
def traceModeOf : Nat → Option TraceMode
  | 0 => some .free | 1 => some .startOn | 2 => some .stopOn | 3 => some .onlyMatch | _ => none

def actionOf : Nat → Option Action
  | 1 => some .receivedForwarded | 2 => some .consumed | 3 => some .copiedForwarded | 4 => some .originated
  | 5 => some .dropped | _ => none

def errorOf : Nat → Option ErrorKind
  | 1 => some .charError | 2 => some .lengthError | 3 => some .crcError | 4 => some .unknownKind
  | 5 => some .headerError | 6 => some .state | 7 => some .forwardOverrun | 8 => some .misrouted | 9 => some .endOfLine
  | 10 => some .localRefused | 11 => some .localDisplaced | 12 => some .linkLoss | _ => none

/-- A pattern field of one byte: 255 for ANY, else a value the range of the field admits; the outer option is none where it
lies outside (R180, R190). -/
def patternValue {α : Type} (b : Nat) (read : Nat → Option α) : Option (Option α) :=
  if b = 255 then some none else (read b).map some

/-- A kind code 1 to 254 (R175; 255 is ANY). -/
def kindValue (b : Nat) : Option Byte := if 1 ≤ b then some (BitVec.ofNat 8 b) else none

/-- A value 0 to `max`. -/
def upTo (max b : Nat) : Option Nat := if b ≤ max then some b else none

/-- A byte that holds 0 or 1. -/
def bitValue (b : Nat) : Option Bool := if b = 0 then some false else if b = 1 then some true else none

/-- The pattern of a TRACE_SETUP payload: kind, source, destination, action and error kind, then the key with its ANY byte
(R190). -/
def parsePattern (payload : List Byte) : Option Pattern :=
  (patternValue (payloadNat payload 34 1) kindValue).bind fun kind =>
  (patternValue (payloadNat payload 35 1) (upTo 15)).bind fun src =>
  (patternValue (payloadNat payload 36 1) (upTo 16)).bind fun dst =>
  (patternValue (payloadNat payload 37 1) actionOf).bind fun action =>
  (patternValue (payloadNat payload 38 1) errorOf).bind fun error =>
  (bitValue (payloadNat payload 41 1)).map fun any =>
    { kind := kind, src := src, dst := dst, action := action, error := error,
      key := if any then none else some (BitVec.ofNat 16 (payloadNat payload 39 2)) }

/-- The filter table of a TRACE_SETUP payload: row 0 first, bit i of a row's two bytes for source i (R190). -/
def parseFilter (payload : List Byte) : Vector (BitVec 16) 16 :=
  Vector.ofFn fun i => BitVec.ofNat 16 (payloadNat payload (2 * i) 2)

/-- The four items of a set-up put in place of the trace's own (R180). -/
def Ltr.setUp (x : Ltr) (payload : List Byte) : Option Ltr :=
  (bitValue (payloadNat payload 32 1)).bind fun errors =>
  (traceModeOf (payloadNat payload 33 1)).bind fun mode =>
  (parsePattern payload).map fun pattern =>
    { x with filter := parseFilter payload, traceErrors := errors, mode := mode, pattern := pattern }

def traceSetupService : Service :=
  { length := 42
    takenIn := fun s => !s.ltr.running
    run := fun s payload =>
      match s.ltr.setUp payload with
      | some x =>
        let t : State := { s with ltr := x }
        t.ok []
      | none => s.refuse refusedRange }

/-- R179, R180: the ring is emptied, and the trace is ARMED under START_ON, RECORDING under any other mode. -/
def Ltr.arm (x : Ltr) : Ltr :=
  { x with ring := [], writeIndex := 0, rollover := 0, state := if x.mode = .startOn then .armed else .recording }

def traceArmService : Service :=
  { length := 0
    takenIn := fun s => !s.ltr.running
    run := fun s _ =>
      let t : State := { s with ltr := s.ltr.arm }
      t.ok [] }

/-- R180: TRACE_STOP enters STOPPED; in STOPPED it changes nothing, in IDLE it is refused with STATE. -/
def traceStopService : Service :=
  { length := 0
    takenIn := fun s => s.ltr.state != .idle
    run := fun s _ =>
      let t : State := { s with ltr := { s.ltr with state := .stopped } }
      t.ok [] }

/-! ### The command byte (R190) -/

/-- The command a byte names. -/
def serviceOf (code : Byte) : Option Service :=
  match code.toNat with
  | 1 => some identifyService
  | 2 => some loadImageService
  | 3 => some startService
  | 16 => some readStatusService
  | 17 => some readQueueService
  | 18 => some readExitLogService
  | 19 => some readCountersService
  | 20 => some clearCountersService
  | 21 => some clearResetCauseService
  | 32 => some traceSetupService
  | 33 => some traceArmService
  | 34 => some traceStopService
  | 35 => some readTraceService
  | _ => none

/-! ### Taking a request (R183) -/

/-- The CRC that a request's command, length and payload give (R190). -/
def requestCrc (code : Byte) (payload : List Byte) : Half := crc (code :: (toBytes 2 payload.length ++ payload))

/-- The first refusal that applies, or the command's own answer (R183). -/
def State.answerRequest (s : State) (code : Byte) (svc : Option Service) (r : Request) : Answer :=
  if requestCrc code r.payload ≠ r.crc then s.refuse refusedCrc
  else
    match svc with
    | none => s.refuse refusedCommand
    | some c =>
      if r.payload.length ≠ c.length then s.refuse refusedLength
      else if c.takenIn s = false then s.refuse refusedState
      else c.run s r.payload

def State.setSvcReceiver (s : State) (x : SvcReceiver) : State := { s with svi := { s.svi with receiver := x } }

/-- R182, R183: the answer is counted if it refuses, and the receiver enters RESPONDING with the response. -/
def State.respond (a : Answer) : State :=
  (if a.status = statusOk then a.state else a.state.count .serviceRefused).setSvcReceiver
    (.responding (responseBytes a.status a.data))

/-- R183: a complete request is taken in one event. -/
def State.takeRequest (s : State) (code : Byte) (svc : Option Service) (r : Request) : State :=
  State.respond ((s.count .serviceRequests).answerRequest code svc r)

/-- R182: a request is abandoned, with no effect and no response. -/
def State.abandonRequest (s : State) : State := (s.count .serviceAbandoned).setSvcReceiver .hunting

/-- A whole request as a command gives it: its last byte has arrived now (log 6). While a response is sent every byte of it
is stray, and a length above 1024 abandons it (R182). -/
def State.requestArrives (s : State) (code : Byte) (svc : Option Service) (r : Request) : State :=
  match s.svi.receiver with
  | .responding _ => s.countBy .serviceStray (6 + r.payload.length)
  | .hunting | .inRequest _ _ => if 1024 < r.payload.length then s.abandonRequest else s.takeRequest code svc r

/-! ### The service line (R182) -/

/-- The receiver hunts: 90 opens a request, any other byte is stray. -/
def State.huntByte (s : State) (b : Byte) : State :=
  if b = 90 then s.setSvcReceiver (.inRequest [] s.now) else s.count .serviceStray

/-- The payload length that a request's first bytes give. -/
def requestLength (got : List Byte) : Nat := fieldAt got 1 2

/-- The request that its bytes after the start byte spell. -/
def requestOf (got : List Byte) : Request :=
  { payload := (got.drop 3).take (requestLength got)
    crc := BitVec.ofNat 16 (fieldAt got (3 + requestLength got) 2) }

/-- R182: a byte joins an open request; `got` holds the bytes after the start byte, this one among them. -/
def State.collectByte (s : State) (got : List Byte) : State :=
  if got.length < 3 then s.setSvcReceiver (.inRequest got s.now)
  else if 1024 < requestLength got then s.abandonRequest
  else if got.length < 5 + requestLength got then s.setSvcReceiver (.inRequest got s.now)
  else s.takeRequest (got.headD 0) (serviceOf (got.headD 0)) (requestOf got)

/-- The gap since the last byte of an open request is above 10 ms (R182). -/
def gapTooLong (now last : Time) : Bool := decide (Config.serviceGapMs < (now - last).toNat)

/-- R182: a byte arrives on the service line. A byte that comes after too long a gap finds its request abandoned. -/
def State.serviceByte (s : State) (b : Byte) : State :=
  match s.svi.receiver with
  | .hunting => s.huntByte b
  | .inRequest got last =>
    if gapTooLong s.now last then s.abandonRequest.huntByte b else s.collectByte (got ++ [b])
  | .responding _ => s.count .serviceStray

/-- R182: the gap inside an open request has run out. -/
def State.gapExpires (s : State) : State :=
  match s.svi.receiver with
  | .inRequest _ last => if gapTooLong s.now last then s.abandonRequest else s
  | .hunting | .responding _ => s

/-- R182: the last byte of the response has been sent. -/
def State.responseSent (s : State) : State :=
  match s.svi.receiver with
  | .responding _ => s.setSvcReceiver .hunting
  | .hunting | .inRequest _ _ => s

end Sys2Proof.Machine
end

