-- ==== Sys2Proof/Machine/Resets.lean ====
section
/-!
DEFINITION. The two resets (R186, and the reset paragraph of every chapter): POWER_ON and RESET_PIN.
-/

namespace Sys2Proof.Machine

/-- The part right after a reset, with a set of reset causes. The levels of the plant lines, the commands that wait and the
index of the free values belong to the outside or to the model and stay (log 7, 8, 11). -/
def State.afterReset (s : State) (powerOn resetPin : Bool) : State :=
  { State.reset with
    svi := { Svi.reset with causePowerOn := powerOn, causeResetPin := resetPin }
    pins := s.pins
    freeIndex := s.freeIndex
    pending := s.pending }

/-- POWER_ON: the reset cause set becomes {POWER_ON} (R186). -/
def execPowerOn (e : Env) (s : State) : Host.Outcome State Fault Refusal :=
  .next ((s.observe e).afterReset true false)

/-- RESET_PIN: RESET_PIN joins the reset cause set as it stood (R186). -/
def execResetPin (e : Env) (s : State) : Host.Outcome State Fault Refusal :=
  .next ((s.observe e).afterReset s.svi.causePowerOn true)

end Sys2Proof.Machine
end

