-- ==== Sys2Proof/Machine/Requests.lean ====
section
/-!
DEFINITION. The commands of the service port: the thirteen requests (R183), a request of no known command, and the events of the
service line (R182).
-/

namespace Sys2Proof.Machine

/-- IDENTIFY (R183, R190), command byte 1. -/
def execIdentify (e : Env) (r : Request) (s : State) : Host.Outcome State Fault Refusal :=
  .next ((s.observe e).requestArrives 1 (some identifyService) r)

/-- LOAD_IMAGE (R184), command byte 2. -/
def execLoadImage (e : Env) (r : Request) (s : State) : Host.Outcome State Fault Refusal :=
  .next ((s.observe e).requestArrives 2 (some loadImageService) r)

/-- START (R165), command byte 3. -/
def execStart (e : Env) (r : Request) (s : State) : Host.Outcome State Fault Refusal :=
  .next ((s.observe e).requestArrives 3 (some startService) r)

/-- READ_STATUS (R185), command byte 16. -/
def execReadStatus (e : Env) (r : Request) (s : State) : Host.Outcome State Fault Refusal :=
  .next ((s.observe e).requestArrives 16 (some readStatusService) r)

/-- READ_QUEUE (R44, R185), command byte 17. -/
def execReadQueue (e : Env) (r : Request) (s : State) : Host.Outcome State Fault Refusal :=
  .next ((s.observe e).requestArrives 17 (some readQueueService) r)

/-- READ_EXIT_LOG (R185), command byte 18. -/
def execReadExitLog (e : Env) (r : Request) (s : State) : Host.Outcome State Fault Refusal :=
  .next ((s.observe e).requestArrives 18 (some readExitLogService) r)

/-- READ_COUNTERS (R187), command byte 19. -/
def execReadCounters (e : Env) (r : Request) (s : State) : Host.Outcome State Fault Refusal :=
  .next ((s.observe e).requestArrives 19 (some readCountersService) r)

/-- CLEAR_COUNTERS (R187), command byte 20. -/
def execClearCounters (e : Env) (r : Request) (s : State) : Host.Outcome State Fault Refusal :=
  .next ((s.observe e).requestArrives 20 (some clearCountersService) r)

/-- CLEAR_RESET_CAUSE (R186), command byte 21. -/
def execClearResetCause (e : Env) (r : Request) (s : State) : Host.Outcome State Fault Refusal :=
  .next ((s.observe e).requestArrives 21 (some clearResetCauseService) r)

/-- TRACE_SETUP (R180), command byte 32. -/
def execTraceSetup (e : Env) (r : Request) (s : State) : Host.Outcome State Fault Refusal :=
  .next ((s.observe e).requestArrives 32 (some traceSetupService) r)

/-- TRACE_ARM (R180), command byte 33. -/
def execTraceArm (e : Env) (r : Request) (s : State) : Host.Outcome State Fault Refusal :=
  .next ((s.observe e).requestArrives 33 (some traceArmService) r)

/-- TRACE_STOP (R180), command byte 34. -/
def execTraceStop (e : Env) (r : Request) (s : State) : Host.Outcome State Fault Refusal :=
  .next ((s.observe e).requestArrives 34 (some traceStopService) r)

/-- READ_TRACE (R181), command byte 35. -/
def execReadTrace (e : Env) (r : Request) (s : State) : Host.Outcome State Fault Refusal :=
  .next ((s.observe e).requestArrives 35 (some readTraceService) r)

/-- SERVICE_ABANDONED (R182). -/
def execServiceAbandoned (e : Env) (s : State) : Host.Outcome State Fault Refusal :=
  .next (s.observe e).gapExpires

/-- SERVICE_RESPONSE_SENT (R182). -/
def execServiceResponseSent (e : Env) (s : State) : Host.Outcome State Fault Refusal :=
  .next (s.observe e).responseSent

/-- SERVICE_BYTE_RECEIVED (R182). -/
def execServiceByteReceived (e : Env) (b : Byte) (s : State) : Host.Outcome State Fault Refusal :=
  .next ((s.observe e).serviceByte b)

/-- UNKNOWN_COMMAND: a complete request with a command byte that names no command (R183). -/
def execUnknownCommand (e : Env) (code : Byte) (r : Request) (s : State) : Host.Outcome State Fault Refusal :=
  .next ((s.observe e).requestArrives code (serviceOf code) r)

end Sys2Proof.Machine
end

