-- ==== Sys2Proof/Machine/Lines.lean ====
section
/-!
DEFINITION. The commands of the plant lines: ESTOP (R62), FAULT (R63), READY (R61), trip reset (R140), the motion sensor (R89),
PUSHED (R99) and press-ready (R104). An edge command is taken as an edge whatever level stood before (log 4).
-/

namespace Sys2Proof.Machine

/-- R62: an ESTOP edge at an on-line station. -/
def State.takeEstop (s : State) : State := ((s.tripInverter.raiseOwn .estop).count .estopTrips).deriveMode

/-- R63: a FAULT edge at an on-line station. -/
def State.takeFault (s : State) : State :=
  ((s.tripInverter.raiseOwn .inverterFault).count .inverterFaultTrips).deriveMode

/-- R61: READY goes low on line with FAULT low. -/
def State.takeNotReady (s : State) : State :=
  let t := s.cutPower
  { t with ivi := { t.ivi with notReady := true } }

def State.setEstop (s : State) (b : Bool) : State := { s with pins := { s.pins with estop := b } }

def State.setFault (s : State) (b : Bool) : State := { s with pins := { s.pins with fault := b } }

def State.setReady (s : State) (b : Bool) : State := { s with pins := { s.pins with ready := b } }

def State.setTripReset (s : State) (b : Bool) : State := { s with pins := { s.pins with tripReset := b } }

/-- ESTOP_ASSERTED (R62). -/
def execEstopAsserted (e : Env) (s : State) : Host.Outcome State Fault Refusal :=
  let t := (s.observe e).setEstop true
  .next (if t.onLine then t.takeEstop else t)

/-- ESTOP_RELEASED (R62): no cause is removed and no power given back. -/
def execEstopReleased (e : Env) (s : State) : Host.Outcome State Fault Refusal :=
  .next ((s.observe e).setEstop false)

/-- FAULT_HIGH (R63). -/
def execFaultHigh (e : Env) (s : State) : Host.Outcome State Fault Refusal :=
  let t := (s.observe e).setFault true
  .next (if t.onLine then t.takeFault else t)

/-- FAULT_LOW (R63): no cause is removed. -/
def execFaultLow (e : Env) (s : State) : Host.Outcome State Fault Refusal :=
  .next ((s.observe e).setFault false)

/-- READY_LOW (R61, R63). -/
def execReadyLow (e : Env) (s : State) : Host.Outcome State Fault Refusal :=
  let t := (s.observe e).setReady false
  .next (if t.onLine && !t.pins.fault then t.takeNotReady else t)

/-- READY_HIGH (R61): power stays off until the next period boundary. -/
def execReadyHigh (e : Env) (s : State) : Host.Outcome State Fault Refusal :=
  .next ((s.observe e).setReady true)

/-- TRIP_RESET (R64, R101, R140). -/
def execTripReset (e : Env) (s : State) : Host.Outcome State Fault Refusal :=
  let t := (s.observe e).setTripReset true
  .next (if t.onLine then t.resetTrip else t)

/-- R88, R89: a motion edge. The head does not read its motion line (log 20). -/
def State.takeMotion (s : State) : State :=
  if s.tracks then s.motionTaken
  else if s.onLine && s.isHead then s
  else s.count .motionIgnored

/-- MOTION_EDGE (R89). -/
def execMotionEdge (e : Env) (s : State) : Host.Outcome State Fault Refusal :=
  .next (s.observe e).takeMotion

/-- PUSHED (R99): ignored at a station that is not the on-line head, and counted there as every ignored edge is (R110). -/
def execPushed (e : Env) (s : State) : Host.Outcome State Fault Refusal :=
  let t := s.observe e
  .next (if t.onLine && t.isHead then t.takePushed else t.count .pushedSpurious)

/-- PRESS_CALL (R104): ignored at a station that is not the on-line tail. -/
def execPressCall (e : Env) (s : State) : Host.Outcome State Fault Refusal :=
  let t := s.observe e
  .next (if t.onLine && t.isTail then t.takePressCall else t)

end Sys2Proof.Machine
end

