-- ==== Sys2Proof/Machine/Timers.lean ====
section
/-!
DEFINITION. The commands of the part's timers. An expiry acts when its timer runs and its expiry has come; otherwise only time
passes (log 3).
-/

namespace Sys2Proof.Machine

/-- PERIOD_END (R24). -/
def execPeriodEnd (e : Env) (s : State) : Host.Outcome State Fault Refusal :=
  let t := s.observe e
  .next (if t.periodDue then t.endPeriod else t)

/-- MOTION_DEADLINE_EXPIRY (R92). -/
def execMotionDeadlineExpiry (e : Env) (s : State) : Host.Outcome State Fault Refusal :=
  let t := s.observe e
  .next (if t.tracks && due t.now t.tracker.motionDeadline then t.selfStroke else t)

/-- CONFIRM_DEADLINE_EXPIRY (R93). -/
def execConfirmDeadlineExpiry (e : Env) (s : State) : Host.Outcome State Fault Refusal :=
  let t := s.observe e
  .next (if t.tracks && decide (0 < t.tracker.unconfirmed) && due t.now t.tracker.confirmDeadline then t.giveUpConfirm
    else t)

/-- PUSHER_TIMEOUT (R100). -/
def execPusherTimeout (e : Env) (s : State) : Host.Outcome State Fault Refusal :=
  let t := s.observe e
  .next (if t.onLine && t.isHead && t.head.pusher == .pushing && due t.now t.head.timer then t.pusherTimesOut else t)

/-- R98: the push pulse goes off. -/
def State.endPushPulse (s : State) : State := { s with head := { s.head with pulse := none } }

/-- PUSH_PULSE_END (R98). -/
def execPushPulseEnd (e : Env) (s : State) : Host.Outcome State Fault Refusal :=
  let t := s.observe e
  .next (if due t.now t.head.pulse then t.endPushPulse else t)

/-- R106: the call timer has expired; with no call outstanding it only stops. -/
def State.callTimeout (s : State) : State :=
  match s.tail.outstanding with
  | some (n, k) => s.resendCall n k
  | none => s.endCall

/-- CALL_TIMER_EXPIRY (R106). -/
def execCallTimerExpiry (e : Env) (s : State) : Host.Outcome State Fault Refusal :=
  let t := s.observe e
  .next (if t.onLine && t.isTail && due t.now t.tail.callTimer then t.callTimeout else t)

/-- FILL_TIMER_EXPIRY (R108). -/
def execFillTimerExpiry (e : Env) (s : State) : Host.Outcome State Fault Refusal :=
  let t := s.observe e
  .next (if t.onLine && t.isTail && t.tail.fill && due t.now t.tail.fillTimer then t.fillExpires else t)

/-- PRESS_IDLE_EXPIRY (R107). -/
def execPressIdleExpiry (e : Env) (s : State) : Host.Outcome State Fault Refusal :=
  let t := s.observe e
  .next (if t.onLine && t.isTail && due t.now t.tail.pressIdle then t.pressIdles else t)

/-- R116: the awaiting billet whose sample deadline has come. -/
def State.sampleDue (s : State) : Option Awaiting := s.exu.awaiting.filter (fun a => reached s.now a.deadline)

/-- SAMPLE_DEADLINE_EXPIRY (R116). -/
def execSampleDeadlineExpiry (e : Env) (s : State) : Host.Outcome State Fault Refusal :=
  let t := s.observe e
  .next (match t.sampleDue with
    | some a => t.takeSample a
    | none => t)

/-- R118: the delivered pulse after the end of its high or of its low interval, and the pulses still owed. -/
def State.stepPulse (s : State) : State :=
  match s.exu.pulse with
  | .off => s
  | .high t =>
    if reached s.now t then { s with exu := { s.exu with pulse := .low (after s.now Config.deliveredMs) } } else s
  | .low t =>
    if reached s.now t then
      if 0 < s.exu.owed then
        { s with exu := { s.exu with pulse := .high (after s.now Config.deliveredMs), owed := s.exu.owed - 1 } }
      else { s with exu := { s.exu with pulse := .off } }
    else s

/-- DELIVERED_PULSE_END (R118). -/
def execDeliveredPulseEnd (e : Env) (s : State) : Host.Outcome State Fault Refusal :=
  .next (s.observe e).stepPulse

/-- R75: the canvass whose deadline has come. -/
def State.canvassDue (s : State) : Option Canvass := s.cru.tracker.filter (fun c => reached s.now c.deadline)

/-- CANVASS_DEADLINE_EXPIRY (R75). -/
def execCanvassDeadlineExpiry (e : Env) (s : State) : Host.Outcome State Fault Refusal :=
  let t := s.observe e
  .next (match t.canvassDue with
    | some c => t.closeCanvass c .canvassTimeouts
    | none => t)

/-- R77: the backoff timer stops. -/
def State.stopBackoff (s : State) : State := { s with cru := { s.cru with backoff := none } }

/-- BACKOFF_EXPIRY (R77). -/
def execBackoffExpiry (e : Env) (s : State) : Host.Outcome State Fault Refusal :=
  let t := s.observe e
  .next (if due t.now t.cru.backoff then t.stopBackoff else t)

/-- R77: the recanvass timer stops. -/
def State.stopRecanvass (s : State) : State := { s with cru := { s.cru with recanvass := none } }

/-- RECANVASS_EXPIRY (R77). -/
def execRecanvassExpiry (e : Env) (s : State) : Host.Outcome State Fault Refusal :=
  let t := s.observe e
  .next (if due t.now t.cru.recanvass then t.stopRecanvass else t)

/-- R131: the own causes are repeated and the timer restarts while there is one. -/
def State.refreshOwn (s : State) : State :=
  let t := s.repeatOwn s.hlu.entries
  { t with
    hlu := { t.hlu with
      refresh := if t.hlu.entries.any (·.own) then some (after t.now Config.refreshMs) else none } }

/-- REFRESH_TIMER_EXPIRY (R131). -/
def execRefreshTimerExpiry (e : Env) (s : State) : Host.Outcome State Fault Refusal :=
  let t := s.observe e
  .next (if due t.now t.hlu.refresh then t.refreshOwn else t)

/-- HOLD_EXPIRY (R137): the heard entry of a cause and origin. -/
def execHoldExpiry (e : Env) (cause : Cause) (origin : Byte) (s : State) : Host.Outcome State Fault Refusal :=
  let t := s.observe e
  .next (if t.heardExpired cause origin then ((t.dropHeard cause origin).count .holdExpiries).deriveMode else t)

/-- R167: the settle timer has expired. -/
def State.settled (s : State) : State :=
  let t : State := { s with ldu := { s.ldu with settle := none } }
  t.headDecision

/-- SETTLE_EXPIRY (R167). -/
def execSettleExpiry (e : Env) (s : State) : Host.Outcome State Fault Refusal :=
  let t := s.observe e
  .next (if t.ldu.state == .discover && due t.now t.ldu.settle then t.settled else t)

/-- HELLO_TIMER_EXPIRY (R165). -/
def execHelloTimerExpiry (e : Env) (s : State) : Host.Outcome State Fault Refusal :=
  let t := s.observe e
  .next (if t.ldu.state == .discover && due t.now t.ldu.helloTimer then t.repeatHellos else t)

/-- POS_TIMER_EXPIRY (R167). -/
def execPosTimerExpiry (e : Env) (s : State) : Host.Outcome State Fault Refusal :=
  let t := s.observe e
  .next (if t.ldu.state == .discover && t.ldu.headClaim && due t.now t.ldu.posTimer then t.headPos else t)

/-- HELLO_CHECK_REPEAT (R173). -/
def execHelloCheckRepeat (e : Env) (p : Port) (s : State) : Host.Outcome State Fault Refusal :=
  let t := s.observe e
  .next (if due t.now (t.port p).checkTimer then t.repeatCheck p else t)

end Sys2Proof.Machine
end

