-- ==== Sys2Proof/Machine/LinkEvents.lean ====
section
/-!
DEFINITION. The events of a link port: its link UP and DOWN (R147, R148), the end of a break period (R145), the transmitter free
(R160), and a character received (R144, R151).
-/

namespace Sys2Proof.Machine

/-- LINK_UP (R147): the sixteenth valid character has arrived on a DOWN link after the port's break period (log 5). -/
def execLinkUp (e : Env) (p : Port) (s : State) : Host.Outcome State Fault Refusal :=
  let t := s.observe e
  .next (if t.linkIsUp p || (t.port p).inBreak then t else t.linkComesUp p)

/-- Seven error characters in a row have arrived (log 5). -/
def State.sevenErrors (s : State) (p : Port) : State := s.setPort p { s.port p with errorRun := 7 }

/-- LINK_DOWN_ERRORS (R148): the eighth error character in a row has arrived on an UP link (log 5). -/
def execLinkDownErrors (e : Env) (p : Port) (s : State) : Host.Outcome State Fault Refusal :=
  let t := s.observe e
  .next (if t.linkIsUp p then (t.sevenErrors p).errorChar p else t)

/-- LINK_DOWN_SILENCE (R148). -/
def execLinkDownSilence (e : Env) (p : Port) (s : State) : Host.Outcome State Fault Refusal :=
  let t := s.observe e
  .next (if t.linkIsUp p && due t.now (t.port p).silence then t.linkGoesDown p .linkDownsSilence else t)

/-- R145: the transmitter goes from BREAK to IDLING. -/
def State.endBreak (s : State) (p : Port) : State := s.setPort p { s.port p with transmitter := .idling }

/-- BREAK_PERIOD_END (R145). -/
def execBreakPeriodEnd (e : Env) (p : Port) (s : State) : Host.Outcome State Fault Refusal :=
  let t := s.observe e
  .next (if (t.port p).breakOver t.now then t.endBreak p else t)

/-- TRANSMITTER_FREE (R160). -/
def execTransmitterFree (e : Env) (p : Port) (s : State) : Host.Outcome State Fault Refusal :=
  .next ((s.observe e).becomeFree p)

/-- FRAME_DROPPED (R151): the character at which a frame under reception is dropped, or which is stray. -/
def execFrameDropped (e : Env) (p : Port) (c : RawChar) (s : State) : Host.Outcome State Fault Refusal :=
  .next ((s.observe e).receiveChar p c)

/-- CHARACTER_RECEIVED (R144). -/
def execCharacterReceived (e : Env) (p : Port) (c : RawChar) (s : State) : Host.Outcome State Fault Refusal :=
  .next ((s.observe e).receiveChar p c)

end Sys2Proof.Machine
end

