-- ==== Sys2Proof/Machine/Frames.lean ====
section
/-!
DEFINITION. The eleven kinds of complete frame that arrive on a link (R150, R154): each is taken as a frame of its kind on the
port and with the header its command gives (log 5).
-/

namespace Sys2Proof.Machine

/-- HOLD (R134). -/
def execHold (e : Env) (a : Arrival) (cause origin : Byte) (s : State) : Host.Outcome State Fault Refusal :=
  .next ((s.observe e).frameArrives a (.hold cause origin))

/-- CLEAR (R136). -/
def execClear (e : Env) (a : Arrival) (cause origin : Byte) (s : State) : Host.Outcome State Fault Refusal :=
  .next ((s.observe e).frameArrives a (.clear cause origin))

/-- STROKE (R87). -/
def execStroke (e : Env) (a : Arrival) (number : Half) (synth : Byte) (content : Option WireRecord) (s : State) :
    Host.Outcome State Fault Refusal :=
  .next ((s.observe e).frameArrives a (.stroke number synth content))

/-- CALL (R97). -/
def execCall (e : Env) (a : Arrival) (kind : CallKind) (number : Half) (s : State) : Host.Outcome State Fault Refusal :=
  .next ((s.observe e).frameArrives a (.call kind number))

/-- POS (R168). -/
def execPos (e : Env) (a : Arrival) (position : Byte) (recipe : Half) (version : Byte) (agrees : Bool) (s : State) :
    Host.Outcome State Fault Refusal :=
  .next ((s.observe e).frameArrives a (.pos position recipe version agrees))

/-- COUNT (R169). -/
def execCount (e : Env) (a : Arrival) (n : Byte) (agrees : Bool) (s : State) : Host.Outcome State Fault Refusal :=
  .next ((s.observe e).frameArrives a (.count n agrees))

/-- HELLO (R166). -/
def execHello (e : Env) (a : Arrival) (h : Hello) (s : State) : Host.Outcome State Fault Refusal :=
  .next ((s.observe e).frameArrives a (.hello h))

/-- CANVASS (R71). -/
def execCanvass (e : Env) (a : Arrival) (origin : Byte) (number want : Half) (s : State) :
    Host.Outcome State Fault Refusal :=
  .next ((s.observe e).frameArrives a (.canvass origin number want))

/-- REPLY (R73). -/
def execReply (e : Env) (a : Arrival) (number : Half) (kind : ReplyKind) (amount : Half) (s : State) :
    Host.Outcome State Fault Refusal :=
  .next ((s.observe e).frameArrives a (.reply number kind amount))

/-- RETURN (R79). -/
def execRet (e : Env) (a : Arrival) (number amount : Half) (s : State) : Host.Outcome State Fault Refusal :=
  .next ((s.observe e).frameArrives a (.ret number amount))

/-- TRIM (R125). -/
def execTrim (e : Env) (a : Arrival) (step : TrimStep) (number : Half) (s : State) : Host.Outcome State Fault Refusal :=
  .next ((s.observe e).frameArrives a (.trim step number))

end Sys2Proof.Machine
end

