-- ==== Sys2Proof/Machine/Dispatch.lean ====
section
/-!
DEFINITION. The meaning of every command: one arm per row of spec/opcode_table.json, in the table's order.
-/

namespace Sys2Proof.Machine

def exec (i : Instr) (s : State) : Host.Outcome State Fault Refusal :=
  match i with
  | .powerOn e => Sys2Proof.Machine.execPowerOn e s
  | .resetPin e => Sys2Proof.Machine.execResetPin e s
  | .identify e r => Sys2Proof.Machine.execIdentify e r s
  | .loadImage e r => Sys2Proof.Machine.execLoadImage e r s
  | .start e r => Sys2Proof.Machine.execStart e r s
  | .readStatus e r => Sys2Proof.Machine.execReadStatus e r s
  | .readQueue e r => Sys2Proof.Machine.execReadQueue e r s
  | .readExitLog e r => Sys2Proof.Machine.execReadExitLog e r s
  | .readCounters e r => Sys2Proof.Machine.execReadCounters e r s
  | .clearCounters e r => Sys2Proof.Machine.execClearCounters e r s
  | .clearResetCause e r => Sys2Proof.Machine.execClearResetCause e r s
  | .traceSetup e r => Sys2Proof.Machine.execTraceSetup e r s
  | .traceArm e r => Sys2Proof.Machine.execTraceArm e r s
  | .traceStop e r => Sys2Proof.Machine.execTraceStop e r s
  | .readTrace e r => Sys2Proof.Machine.execReadTrace e r s
  | .serviceAbandoned e => Sys2Proof.Machine.execServiceAbandoned e s
  | .serviceResponseSent e => Sys2Proof.Machine.execServiceResponseSent e s
  | .periodEnd e => Sys2Proof.Machine.execPeriodEnd e s
  | .estopAsserted e => Sys2Proof.Machine.execEstopAsserted e s
  | .estopReleased e => Sys2Proof.Machine.execEstopReleased e s
  | .faultHigh e => Sys2Proof.Machine.execFaultHigh e s
  | .faultLow e => Sys2Proof.Machine.execFaultLow e s
  | .readyLow e => Sys2Proof.Machine.execReadyLow e s
  | .readyHigh e => Sys2Proof.Machine.execReadyHigh e s
  | .tripReset e => Sys2Proof.Machine.execTripReset e s
  | .motionEdge e => Sys2Proof.Machine.execMotionEdge e s
  | .pushed e => Sys2Proof.Machine.execPushed e s
  | .pressCall e => Sys2Proof.Machine.execPressCall e s
  | .motionDeadlineExpiry e => Sys2Proof.Machine.execMotionDeadlineExpiry e s
  | .confirmDeadlineExpiry e => Sys2Proof.Machine.execConfirmDeadlineExpiry e s
  | .pusherTimeout e => Sys2Proof.Machine.execPusherTimeout e s
  | .pushPulseEnd e => Sys2Proof.Machine.execPushPulseEnd e s
  | .callTimerExpiry e => Sys2Proof.Machine.execCallTimerExpiry e s
  | .fillTimerExpiry e => Sys2Proof.Machine.execFillTimerExpiry e s
  | .pressIdleExpiry e => Sys2Proof.Machine.execPressIdleExpiry e s
  | .sampleDeadlineExpiry e => Sys2Proof.Machine.execSampleDeadlineExpiry e s
  | .deliveredPulseEnd e => Sys2Proof.Machine.execDeliveredPulseEnd e s
  | .canvassDeadlineExpiry e => Sys2Proof.Machine.execCanvassDeadlineExpiry e s
  | .backoffExpiry e => Sys2Proof.Machine.execBackoffExpiry e s
  | .recanvassExpiry e => Sys2Proof.Machine.execRecanvassExpiry e s
  | .refreshTimerExpiry e => Sys2Proof.Machine.execRefreshTimerExpiry e s
  | .holdExpiry e cause origin => Sys2Proof.Machine.execHoldExpiry e cause origin s
  | .settleExpiry e => Sys2Proof.Machine.execSettleExpiry e s
  | .helloTimerExpiry e => Sys2Proof.Machine.execHelloTimerExpiry e s
  | .posTimerExpiry e => Sys2Proof.Machine.execPosTimerExpiry e s
  | .helloCheckRepeat e p => Sys2Proof.Machine.execHelloCheckRepeat e p s
  | .linkUp e p => Sys2Proof.Machine.execLinkUp e p s
  | .linkDownErrors e p => Sys2Proof.Machine.execLinkDownErrors e p s
  | .linkDownSilence e p => Sys2Proof.Machine.execLinkDownSilence e p s
  | .breakPeriodEnd e p => Sys2Proof.Machine.execBreakPeriodEnd e p s
  | .transmitterFree e p => Sys2Proof.Machine.execTransmitterFree e p s
  | .frameDropped e p c => Sys2Proof.Machine.execFrameDropped e p c s
  | .hold e a cause origin => Sys2Proof.Machine.execHold e a cause origin s
  | .clear e a cause origin => Sys2Proof.Machine.execClear e a cause origin s
  | .stroke e a number synth content => Sys2Proof.Machine.execStroke e a number synth content s
  | .call e a kind number => Sys2Proof.Machine.execCall e a kind number s
  | .pos e a position recipe version agrees => Sys2Proof.Machine.execPos e a position recipe version agrees s
  | .count e a n agrees => Sys2Proof.Machine.execCount e a n agrees s
  | .hello e a h => Sys2Proof.Machine.execHello e a h s
  | .canvass e a origin number want => Sys2Proof.Machine.execCanvass e a origin number want s
  | .reply e a number kind amount => Sys2Proof.Machine.execReply e a number kind amount s
  | .ret e a number amount => Sys2Proof.Machine.execRet e a number amount s
  | .trim e a step number => Sys2Proof.Machine.execTrim e a step number s
  | .characterReceived e p c => Sys2Proof.Machine.execCharacterReceived e p c s
  | .serviceByteReceived e b => Sys2Proof.Machine.execServiceByteReceived e b s
  | .unknownCommand e code r => Sys2Proof.Machine.execUnknownCommand e code r s

end Sys2Proof.Machine
end

