-- ==== Sys2Proof/Safety.lean ====
section
/-!
DEFINITION. What a good state of the part is: the invariants of the chapters, in the terms the statements use.
-/

namespace Sys2Proof.Machine

/-! ### Link ports (R157, R158, R160) -/

/-- The queues of a port hold at most 4 and 8 frames, the local queue is ordered by class, and the starvation count lies in 0
to 8. -/
def LinkPort.QueuesOk (x : LinkPort) : Prop :=
  x.forward.length ≤ 4 ∧ x.localQ.length ≤ 8 ∧ x.localQ.Pairwise (fun f g => frameClass f ≤ frameClass g) ∧
  x.starvation ≤ 8

/-- Both ports. -/
def State.QueuesOk (s : State) : Prop := s.upPort.QueuesOk ∧ s.downPort.QueuesOk

/-! ### Hold Unit (R128, R129) -/

/-- R128: at most 16 entries, no two with the same cause and origin, an own entry exactly where the origin is the station's
own position, and no entry at a station that is not on line. -/
def State.HoldListOk (s : State) : Prop :=
  s.hlu.entries.length ≤ 16 ∧
  s.hlu.entries.Pairwise (fun a b => a.cause ≠ b.cause ∨ a.origin ≠ b.origin) ∧
  (∀ e ∈ s.hlu.entries, e.own = true ↔ e.origin = s.originByte) ∧
  (s.onLine = false → s.hlu.entries = [])

/-- R129: the station state of an on-line station is the mode its hold cause list gives. -/
def State.ModeOk (s : State) : Prop := s.onLine = true → s.ldu.state = modeOf s.hlu.entries

/-! ### Inverter Interface (R57 to R63) -/

/-- R63: at an on-line station with FAULT high the own INVERTER_FAULT cause stands. -/
def State.FaultHeld (s : State) : Prop := s.onLine = true → s.pins.fault = true → s.hlu.hasOwn .inverterFault = true

/-- R58, R59: enable is high only in RUN or HOLD with READY high and the latched setpoint in force; with enable low the setpoint
in force is 0. -/
def State.EnableOk (s : State) : Prop :=
  (s.ivi.enable = true →
    (s.ldu.state = .run ∨ s.ldu.state = .hold) ∧ s.pins.ready = true ∧ s.ivi.inForce = s.ivi.latched) ∧
  (s.ivi.enable = false → s.ivi.inForce = 0)

/-- R58: the setpoint in force is at most the rating of the station's position. -/
def State.RatingOk (s : State) : Prop := s.onLine = true → s.ivi.inForce ≤ s.img.pMax.get s.pos

/-- R58: at an on-line station the credits held, and the credits the last demand needs, cover the setpoint in force. -/
def State.CreditsCover (s : State) : Prop :=
  s.onLine = true →
    s.ivi.inForce ≤ (s.cru.base + s.cru.loans) * (s.img.creditKw * 10) ∧
    s.ivi.inForce ≤ s.cru.need.getD 0 * (s.img.creditKw * 10)

/-- What keeps the inverter safe from one step to the next. -/
def State.PowerSafe (s : State) : Prop := s.ModeOk ∧ s.FaultHeld ∧ s.EnableOk ∧ s.RatingOk

/-! ### Link Trace (R179) -/

/-- R179: the entries held are as many as the write index before the first wrap, and 512 after it. -/
def Ltr.RingOk (x : Ltr) : Prop :=
  x.writeIndex < 512 ∧ x.ring.length = (if x.rollover = 0 then x.writeIndex else 512)

/-! ### Coil queue (R1, R3, R9) -/

/-- The serials of the records in the queue. -/
def CoilQueue.serials (q : CoilQueue) : List Nat := q.slots.filterMap (fun x => x.bind Record.serial)

/-- R9: no two records carry the same serial. -/
def State.SerialsOk (s : State) : Prop := s.cq.serials.Nodup

/-- R184: an image that is stored has passed every check. -/
def State.ImageOk (s : State) : Prop := ∀ img, s.svi.image = some img → img.firstFailure = none

/-- R1, R166: a station in DISCOVER or on line holds an image; an on-line station has a position and K_p slots, any other
station no slot. -/
def State.ShapeOk (s : State) : Prop :=
  (s.onLine = true ∨ s.ldu.state = .discover → s.svi.image.isSome = true) ∧
  (s.onLine = true → s.ldu.position.isSome = true ∧ s.cq.slots.length = s.slotCount) ∧
  (s.onLine = false → s.cq.slots = [])

/-- R3, R5: the ranges of a record that stands in the queue of position `p`: every position of its list is less than `p`, and
they strictly increase. -/
def Record.RangesOk (p : Nat) (r : Record) : Prop :=
  (∀ n, r.serial = some n → 1 ≤ n ∧ n ≤ 65535) ∧ 500 ≤ r.mass ∧ r.mass ≤ 200000 ∧ r.h ≤ 40000000 ∧ r.d ≤ 400 ∧
  r.soak ≤ 65535 ∧ r.stations.Pairwise (fun a b => a.1 < b.1) ∧ (∀ e ∈ r.stations, e.1 < p ∧ e.2 ≤ 1600)

/-- R170: an on-line station has a position and an N, and the role they give. Its position lies below N, or is 0, which a HELLO
answer with an N of 0 gives too (log 18). -/
def State.RoleOk (s : State) : Prop :=
  s.onLine = true →
    s.ldu.position.isSome = true ∧ s.ldu.n.isSome = true ∧ s.ldu.role = s.ldu.n.map (roleOf s.pos.val) ∧
    (s.pos.val < s.ldu.n.getD 0 ∨ s.pos.val = 0)

/-- R42: at an on-line station the target table is the image's. -/
def State.TargetsOk (s : State) : Prop := s.onLine = true → s.tau.targets = some s.img.targetTable

/-- R3: every record in the queue keeps its ranges, and the head's next serial its own. -/
def State.RecordsOk (s : State) : Prop :=
  (∀ r, some r ∈ s.cq.slots → r.RangesOk s.pos.val) ∧ 1 ≤ s.head.nextSerial ∧ s.head.nextSerial ≤ 65535

/-- What keeps the coil queue sound from one step to the next. -/
def State.QueueSound (s : State) : Prop := s.ImageOk ∧ s.ShapeOk ∧ s.TargetsOk ∧ s.RecordsOk

/-! ### Strokes and calls (R88, R97) -/

/-- R97: at most 2 pending calls, all different, none equal to the last executed call number. -/
def Head.CallsOk (h : Head) : Prop := h.calls.length ≤ 2 ∧ h.calls.Nodup ∧ ∀ n ∈ h.calls, h.lastExecuted ≠ some n

/-- R88: both counts lie in 0 to 2, and each deadline runs exactly while its count is above 0. -/
def Tracker.CountsOk (x : Tracker) : Prop :=
  x.unmatched ≤ 2 ∧ x.unconfirmed ≤ 2 ∧ (x.motionDeadline.isSome = true ↔ 0 < x.unmatched) ∧
  (x.confirmDeadline.isSome = true ↔ 0 < x.unconfirmed)

/-- R97, R98: what the head does with a call: one it already holds is only counted, one that its full list has no room for is
dropped, and any other joins the list, whose oldest call starts at once where the pusher is IDLE and nothing holds the line. -/
def State.HeadTakesCall (u t : State) (k : CallKind) (n : Half) : Prop :=
  (u.head.lastExecuted = some n ∨ n ∈ u.head.calls →
    t.head = u.head ∧ t.counter .callsRepeated = satAdd (u.counter .callsRepeated) 1) ∧
  (u.head.lastExecuted ≠ some n → n ∉ u.head.calls → 2 ≤ u.head.calls.length →
    t.head = u.head ∧ t.counter .callsDropped = satAdd (u.counter .callsDropped) 1) ∧
  (u.head.lastExecuted ≠ some n → n ∉ u.head.calls → u.head.calls.length < 2 →
    (u.head.pusher ≠ .idle ∨ u.hlu.entries ≠ [] → t.head = { u.head with calls := u.head.calls ++ [n] }) ∧
    (u.head.pusher = .idle → u.hlu.entries = [] → ∀ m rest, u.head.calls ++ [n] = m :: rest →
      t.head = { u.head with
        calls := rest, lastExecuted := some m, pusher := .pushing, pulse := some (after u.now u.img.pusherPulse)
        timer := some (after u.now u.img.pusherTimeout) } ∧
      t.counter .pushesStarted = satAdd (u.counter .pushesStarted) 1) ∧
    t.counter .pressCallsTaken = satAdd (u.counter .pressCallsTaken) (if k = .press then 1 else 0) ∧
    t.counter .selfCallsTaken = satAdd (u.counter .selfCallsTaken) (if k = .self then 1 else 0))

/-- R98, R139: what the head does at the end of an event that leaves it `h`: with a pending call, the pusher IDLE and the hold list
empty it starts the stroke of its oldest call in that event; otherwise it stays. -/
def State.HeadStarts (u t : State) (h : Head) : Prop :=
  (t.hlu.entries ≠ [] ∨ u.isHead = false ∨ h.calls = [] ∨ h.pusher ≠ .idle → t.head = h) ∧
  (t.hlu.entries = [] → u.isHead = true → h.pusher = .idle → ∀ n rest, h.calls = n :: rest →
    t.head = { h with
      calls := rest, lastExecuted := some n, pusher := .pushing, pulse := some (after u.now u.img.pusherPulse)
      timer := some (after u.now u.img.pusherTimeout) } ∧
    t.counter .pushesStarted = satAdd (u.counter .pushesStarted) 1)

/-- R98: the head after an event that leaves it `h` with the hold list `es`, its oldest call started where R98 starts it. -/
def State.startedHead (u : State) (es : List HoldEntry) (h : Head) : Head :=
  match h.calls with
  | n :: rest =>
    if es = [] ∧ u.isHead = true ∧ h.pusher = .idle then
      { h with
        calls := rest, lastExecuted := some n, pusher := .pushing, pulse := some (after u.now u.img.pusherPulse)
        timer := some (after u.now u.img.pusherTimeout) }
    else h
  | [] => h

/-- R97: the head after a call that can start no stroke: the call joins the list unless the head holds it or the list is full. -/
def Head.withCall (h : Head) (n : Half) : Head :=
  if h.lastExecuted = some n ∨ n ∈ h.calls ∨ 2 ≤ h.calls.length then h else { h with calls := h.calls ++ [n] }

/-! ### The tail's checks (R105, R106, R113) -/

/-- R105: the call that the call check sends, for the tail's items and a preview: in RUN with no call outstanding, a SELF call for a
lead that previews REJECT, else the press call that waits. -/
def State.checkSends (u : State) (x : Tail) (preview : Option Reasons) : Option CallKind :=
  if u.ldu.state = .run ∧ x.outstanding = none then
    if preview.any (fun r => !r.pass) then some .self else if x.pressWaiting then some .press else none
  else none

/-- R103, R105: the preview is the judgement of the lead as it then stands, and the call check acts on it and on the tail's items
`x`. -/
def State.TailChecked (u t : State) (x : Tail) : Prop :=
  t.exu.preview = t.cq.lead.map (Record.judge u.img) ∧
  t.tail = (match u.checkSends x t.exu.preview with
    | some k => { x with
        counter := x.counter + 1, outstanding := some (x.counter + 1, k)
        callTimer := some (after u.now u.img.callTimeout), pressWaiting := x.pressWaiting && k != .press }
    | none => x) ∧
  t.counter .selfCalls =
    satAdd (u.counter .selfCalls) (if u.checkSends x t.exu.preview = some .self then 1 else 0)

/-- R103: the CALL of a call check on a line of two or more, offered to the UP port with nothing else offered there. -/
def State.CallOffered (u t : State) (x : Tail) : Prop :=
  (u.checkSends x t.exu.preview = none → t.upPort.localQ = u.upPort.localQ ∧
    t.counter .callsSent = u.counter .callsSent ∧ t.counter .callsRefused = u.counter .callsRefused) ∧
  (∀ k, u.checkSends x t.exu.preview = some k →
    (u.linkIsUp .up = true → u.upPort.check ≠ .miswired → u.upPort.localQ.length < 8 →
      t.upPort.localQ = insertByClass (u.frame 0 (.call k (x.counter + 1))) u.upPort.localQ ∧
      t.counter .callsSent = satAdd (u.counter .callsSent) 1) ∧
    (u.linkIsUp .up = false → t.upPort.localQ = u.upPort.localQ ∧
      t.counter .callsRefused = satAdd (u.counter .callsRefused) 1))

/-- R106, R108: the tail's items after its lead has left, before the call check: no call is outstanding and the call timer is
stopped; FILL ends with a record that is decided PASS at once, the pyrometer disabled (R115, R117). -/
def State.tailLeft (u : State) : Tail :=
  let x : Tail := { u.tail with outstanding := none, callTimer := none }
  if u.tail.fill && u.img.pyroEnable != 1 && u.leaving.any (fun r => (r.judge u.img).pass) then
    { x with fill := false, fillTimer := none, pressIdle := some (after u.now u.img.pressIdleTimeout) }
  else x

/-- R105, R106, R113: a tail after one shift or more: the preview is that of the lead; outside RUN no call is outstanding; in RUN a
lead that previews REJECT has its SELF call, and no press call waits otherwise. -/
def State.TailShifted (u t : State) : Prop :=
  t.exu.preview = t.cq.lead.map (Record.judge u.img) ∧
  (u.ldu.state ≠ .run → t.tail.outstanding = none ∧ t.tail.callTimer = none ∧ t.tail.counter = u.tail.counter ∧
    t.tail.pressWaiting = u.tail.pressWaiting) ∧
  (u.ldu.state = .run → t.exu.preview.any (fun r => !r.pass) = true →
    t.tail.outstanding = some (t.tail.counter, .self) ∧ t.tail.callTimer = some (after u.now u.img.callTimeout)) ∧
  (u.ldu.state = .run → t.exu.preview.any (fun r => !r.pass) = false → t.tail.pressWaiting = false ∧
    (t.tail.outstanding = none ∧ t.tail.callTimer = none ∨
      t.tail.outstanding = some (t.tail.counter, .press) ∧ t.tail.callTimer = some (after u.now u.img.callTimeout)))

/-- R13, R114, R115, R117, R120: what becomes of the content that leaves the tail's lead by the shift numbered `n`. A GAP decides
nothing. A record is finished and judged; with the pyrometer disabled it is decided at once, with it enabled it becomes the awaiting
billet, and one that awaited till then is decided first. -/
def State.LeadDecided (u t : State) (n : Half) : Prop :=
  t.tau = u.tau ∧
  (u.cq.lead = none → t.exu = { u.exu with preview := t.exu.preview }) ∧
  (∀ r left : Record, u.cq.lead = some r →
    left = { r with
      flags := { r.flags with
        modelLimit := r.flags.modelLimit || decide (u.img.last.h ≤ r.specific)
        excursion := r.flags.excursion || decide (r.mean u.img + u.img.bandLo < u.img.target.get u.pos ∨
          u.img.target.get u.pos + u.img.bandHi < r.mean u.img) }
      stations := r.stations ++ [(u.pos.val, r.mean u.img)], self := none } →
    (u.img.pyroEnable ≠ 1 →
      t.exu.gate = (left.judge u.img).pass ∧ t.exu.awaiting = u.exu.awaiting ∧
      t.exu.log = (if u.exu.log.length < 64 then u.exu.log else u.exu.log.drop 1) ++
        [{ time := u.now, stroke := n, serial := r.serial, pass := (left.judge u.img).pass
           reasons := left.judge u.img, mass := r.mass, mean := r.mean u.img, surface := r.surface u.img
           core := r.core u.img, soak := r.soak, reading := none, flags := left.flags, stations := left.stations }] ∧
      (r.flags.lostTrack = true → t.exu.gate = false) ∧
      t.counter .exitLogEntries = satAdd (u.counter .exitLogEntries) 1 ∧
      t.exu.window = u.exu.window) ∧
    (u.img.pyroEnable = 1 →
      t.exu.awaiting = some
        { billet := { record := left, stroke := n, reasons := left.judge u.img, mean := r.mean u.img
                      surface := r.surface u.img, core := r.core u.img }
          deadline := after u.now u.img.sampleDelay } ∧
      (u.exu.awaiting = none → t.exu = { u.exu with awaiting := t.exu.awaiting, preview := t.exu.preview } ∧
        t.counter .pyroForced = u.counter .pyroForced) ∧
      (∀ w, u.exu.awaiting = some w →
        t.exu.gate = false ∧
        t.exu.log = (if u.exu.log.length < 64 then u.exu.log else u.exu.log.drop 1) ++
          [{ time := u.now, stroke := w.billet.stroke, serial := w.billet.record.serial, pass := false
             reasons := { w.billet.reasons with pyroOut := true }, mass := w.billet.record.mass, mean := w.billet.mean
             surface := w.billet.surface, core := w.billet.core, soak := w.billet.record.soak, reading := none
             flags := w.billet.record.flags, stations := w.billet.record.stations }] ∧
        t.exu.pulse = u.exu.pulse ∧ t.exu.owed = u.exu.owed ∧ t.exu.window = u.exu.window ∧
        t.counter .gateReject = satAdd (u.counter .gateReject) 1 ∧
        t.counter .pyroForced = satAdd (u.counter .pyroForced) 1)))

/-! ### Own causes (R130, R133) -/

/-- R130: the list and the refresh timer after an own cause was raised. A cause that stands leaves both. A new one joins the end of
the list, in the place of the heard entry with the oldest refresh time if the list is full (the first of them, log 32), and starts
a stopped timer. -/
def State.OwnRaised (u t : State) (c : Cause) : Prop :=
  (u.hlu.hasOwn c = true → t.hlu = u.hlu ∧ t.counter .ownCausesRaised = u.counter .ownCausesRaised) ∧
  (u.hlu.hasOwn c = false →
    t.hlu.refresh = some (u.hlu.refresh.getD (after u.now 500)) ∧
    t.counter .ownCausesRaised = satAdd (u.counter .ownCausesRaised) 1 ∧
    (u.hlu.entries.length < 16 → t.hlu.entries =
      u.hlu.entries ++ [{ cause := c, origin := u.originByte, own := true, refreshed := u.now }]) ∧
    (16 ≤ u.hlu.entries.length → ∀ front x back, u.hlu.entries = front ++ x :: back → x.own = false →
      (∀ y ∈ front, y.own = false → (u.now - y.refreshed).toNat < (u.now - x.refreshed).toNat) →
      (∀ y ∈ back, y.own = false → (u.now - y.refreshed).toNat ≤ (u.now - x.refreshed).toNat) →
      t.hlu.entries =
        front ++ back ++ [{ cause := c, origin := u.originByte, own := true, refreshed := u.now }] ∧
      t.counter .holdEvictions = satAdd (u.counter .holdEvictions) 1))

/-- R133: the list and the refresh timer after the own causes `gone` were removed: the timer stops with the last own cause. Where
there is none of them both stay. -/
def State.OwnRemoved (u t : State) (gone : HoldEntry → Bool) : Prop :=
  t.hlu =
    if u.hlu.entries.any gone then
      { entries := u.hlu.entries.filter (fun x => !gone x)
        refresh := if u.hlu.entries.any (fun x => !gone x && x.own) then u.hlu.refresh else none }
    else u.hlu

/-! ### Exit Unit (R111) -/

/-- R111: at most 64 log entries, 7 errors in the trim window and 3 pulses owed. -/
def Exu.BoundsOk (x : Exu) : Prop := x.log.length ≤ 64 ∧ x.window.length ≤ 7 ∧ x.owed ≤ 3

/-- R25, R30: the trim lies in −32 to +31. -/
def Tau.TrimOk (x : Tau) : Prop := -32 ≤ x.trim ∧ x.trim ≤ 31

/-! ### Service requests (R183, R190) -/

/-- A request of the service port: its command byte, the command it stands for, and what it does. -/
structure RequestRow where
  code : Byte
  make : Env → Request → Instr
  svc : Service

/-- The thirteen commands of R183. -/
def requestRows : List RequestRow :=
  [⟨1, .identify, identifyService⟩, ⟨2, .loadImage, loadImageService⟩, ⟨3, .start, startService⟩,
   ⟨16, .readStatus, readStatusService⟩, ⟨17, .readQueue, readQueueService⟩, ⟨18, .readExitLog, readExitLogService⟩,
   ⟨19, .readCounters, readCountersService⟩, ⟨20, .clearCounters, clearCountersService⟩,
   ⟨21, .clearResetCause, clearResetCauseService⟩, ⟨32, .traceSetup, traceSetupService⟩,
   ⟨33, .traceArm, traceArmService⟩, ⟨34, .traceStop, traceStopService⟩, ⟨35, .readTrace, readTraceService⟩]

/-- The receiver of the service line takes a request (R182). -/
def State.serviceFree (s : State) : Bool :=
  match s.svi.receiver with
  | .responding _ => false
  | .hunting | .inRequest _ _ => true

/-- The state after a request that is refused with a code: counted, and the refusal in transmission (R183). -/
def State.refusedWith (s : State) (code : Byte) : State :=
  ((s.count .serviceRequests).count .serviceRefused).setSvcReceiver (.responding (responseBytes code []))

/-- The state after a request that is answered OK and changes nothing else: counted, and the response in transmission
(R183). -/
def State.answeredWith (s : State) (data : List Byte) : State :=
  (s.count .serviceRequests).setSvcReceiver (.responding (responseBytes 0 data))

/-! ### Frames that reach a unit (R154) -/

/-- A complete frame of a station on line is routed and not dropped: its link is UP, its port is not MISWIRED, and it passes the
header checks (R152, R155). -/
def State.admits (s : State) (a : Arrival) (x : Payload) : Bool :=
  s.linkIsUp a.port && s.onLine && (s.port a.port).check != .miswired &&
  headerOk a.port { src := a.src, dst := a.dst, payload := x }

/-- The port of arrival after a complete frame: its last character was valid (R148), and the receiver hunts (R150). -/
def LinkPort.received (x : LinkPort) (micros : Nat) (now : Time) : LinkPort :=
  { x with errorRun := 0, silence := some (after now 2), receiver := .hunting, recvEnd := some micros }

/-- The command that stands for a complete frame with a payload. -/
def frameCommand (e : Env) (a : Arrival) : Payload → Instr
  | .hold cause origin => .hold e a cause origin
  | .clear cause origin => .clear e a cause origin
  | .stroke n synth content => .stroke e a n synth content
  | .call k n => .call e a k n
  | .pos q recipe version agrees => .pos e a q recipe version agrees
  | .count n agrees => .count e a n agrees
  | .hello h => .hello e a h
  | .canvass origin n want => .canvass e a origin n want
  | .reply n k amount => .reply e a n k amount
  | .ret n amount => .ret e a n amount
  | .trim step n => .trim e a step n

/-- R162: what the router offers the Link Trace of a frame that must go on, `copied` where the station takes a copy: placed in the
forward queue of the onward port, dropped at its full queue, or at the end of the line. -/
def State.tracesOnward (u : State) (p : Port) (f : Frame) (copied : Bool) : State :=
  if u.canCarry p.other then
    if (u.port p.other).forward.length < 4 then
      u.traceAction p (if copied then .copiedForwarded else .receivedForwarded) (viewOfFrame f)
    else u.traceDrop p.other .forwardOverrun (viewOfFrame f)
  else if copied then u.traceAction p .consumed (viewOfFrame f)
  else if kindPath (frameKind f) = .addressed then u.traceDrop p.other .misrouted (viewOfFrame f)
  else u.traceDrop p .endOfLine (viewOfFrame f)

/-- R149, R151, R162: what the router offers the Link Trace when a link is lost: where the eighth error character closes a frame under
reception, that frame first; then each frame the port holds, the one in transmission first, then the forward queue, then the local
queue. -/
def State.tracesLoss (u : State) (p : Port) (byErrors : Bool) : State :=
  (u.port p).heldFrames.foldl (fun w f => w.traceDrop p .linkLoss (viewOfFrame f.1))
    (match (u.port p).receiver with
     | .inFrame got => if byErrors then u.traceDrop p .charError (viewOfBytes got) else u
     | .hunting => u)

/-- R151, R152, R162: a valid character drops the frame its port assembles, counted by its fault and offered to the Link Trace with
its error kind and what had arrived; nothing else changes. -/
def State.DropsFrame (u t : State) (p : Port) (c : PortCounter) (k : ErrorKind) (v : FrameView) : Prop :=
  t.port p = { (u.port p).countBy c 1 with
    receiver := .hunting, errorRun := 0, silence := some (after u.now 2), recvEnd := some u.micros } ∧
  t.port p.other = u.port p.other ∧ t.ltr = (u.traceDrop p k v).ltr ∧
  t = { u with upPort := t.upPort, downPort := t.downPort, ltr := t.ltr }

/-- The number of ports whose link is UP. -/
def State.linksUp (s : State) : Nat := (if s.linkIsUp .up then 1 else 0) + (if s.linkIsUp .down then 1 else 0)

/-- A port but for its local queue and its counters, which offers change. -/
def LinkPort.offered (x y : LinkPort) : LinkPort := { x with localQ := y.localQ, counters := y.counters }

/-- What a complete frame may change at the two ports: the port of arrival has received it, the other port may have been given
it to carry on, and the station's own units may have offered frames to both. -/
def State.PortsReceived (u t : State) (p : Port) : Prop :=
  t.port p = ((u.port p).received u.micros u.now).offered (t.port p) ∧
  t.port p.other = { (u.port p.other).offered (t.port p.other) with forward := (t.port p.other).forward }

/-- A port takes an offer without displacing a frame: its link is UP, it is not MISWIRED, and its local queue has room
(R158). -/
def State.hasRoom (s : State) (p : Port) : Bool :=
  s.linkIsUp p && (s.port p).check != .miswired && decide ((s.port p).localQ.length < 8)

/-- R158, R159: a frame offered to an UP port whose local queue is full. It displaces the youngest frame of the lowest class there, the
last of the queue (log 35), if that class is lower than its own, and is refused otherwise. -/
def State.FullQueueOffered (u t : State) (p : Port) (f : Frame) : Prop :=
  ∀ rest g, u.linkIsUp p = true → (u.port p).check ≠ .miswired → (u.port p).localQ = rest ++ [g] → 7 ≤ rest.length →
    (frameClass f < frameClass g → (t.port p).localQ = insertByClass f rest ∧
      t.portCounter p .localDisplaced = satAdd (u.portCounter p .localDisplaced) 1 ∧
      t.portCounter p .localTaken = satAdd (u.portCounter p .localTaken) 1) ∧
    (frameClass g ≤ frameClass f → (t.port p).localQ = (u.port p).localQ ∧
      t.portCounter p .localRefused = satAdd (u.portCounter p .localRefused) 1)

/-- The local queue of a port after a frame of this station has joined it (R158). -/
def State.joined (s : State) (p : Port) (dst : Byte) (x : Payload) : List Frame :=
  insertByClass (s.frame dst x) (s.port p).localQ

/-- R160: the egress choice at a port that stands as `x`: the local head goes when the forward queue is empty, when its class has
priority, or when eight forward frames have passed it, which alone is counted as an override (log 54); else the forward head. -/
def LinkPort.Sends (x y : LinkPort) (micros : Nat) : Prop :=
  (x.localQ = [] → x.forward = [] → y = { x with transmitter := .idling }) ∧
  (∀ l ls, x.localQ = l :: ls → x.forward = [] →
    y = { x with localQ := ls, starvation := 0, transmitter := .sending l true micros }) ∧
  (∀ f fs, x.localQ = [] → x.forward = f :: fs → y = { x with forward := fs, transmitter := .sending f false micros }) ∧
  (∀ l ls f fs, x.localQ = l :: ls → x.forward = f :: fs →
    (frameClass l < frameClass f →
      y = { x with localQ := ls, starvation := 0, transmitter := .sending l true micros }) ∧
    (frameClass f ≤ frameClass l → 8 ≤ x.starvation →
      y = { x.countBy .starvationOverrides 1 with
        localQ := ls, starvation := 0, transmitter := .sending l true micros }) ∧
    (frameClass f ≤ frameClass l → x.starvation < 8 →
      y = { x with forward := fs, starvation := x.starvation + 1, transmitter := .sending f false micros }))

/-! ### Going on line (R170) -/

/-- R170, R21, R24, R42, R57, R67, R83, R102: a station goes on line by discovery at a position of a line of `n`. -/
def State.Discovered (u t : State) (q : Fin 16) (n : Nat) : Prop :=
  t.ldu.n = some n ∧ t.ldu.position = some q ∧
  t.ldu.headClaim = false ∧ t.ldu.seen = false ∧ t.ldu.settle = none ∧ t.ldu.posTimer = none ∧ t.ldu.helloTimer = none ∧
  t.ldu.role = some (if n = 1 then .headTail else if q.val = 0 then .head else if q.val + 1 = n then .tail else .middle) ∧
  t.ldu.state = modeOf t.hlu.entries ∧
  t.cq = { slots := List.replicate (u.img.slotCount.get q) none, lastStroke := 0, lastShift := u.now
           intervalOpen := false, iAvg := u.img.cadence, newestSerial := none } ∧
  t.tau = { u.tau with
    periodStart := some u.now, residue := 0, targets := some (u.img.target.map u.img.targetOf), lastTrim := none } ∧
  t.cru.base = u.img.baseCredits.get q ∧ t.cru.pool = (u.img.loanPool n).toNat ∧
  t.cru.need = none ∧ t.cru.tracker = none ∧
  (u.upPort.localQ.length ≤ 4 → u.downPort.localQ.length ≤ 4 →
    t.cru.loans = if q.val = 0 then (u.img.loanPool n).toNat else 0) ∧
  t.tail.fill = (n = 1 || (decide (q.val ≠ 0) && q.val + 1 == n)) ∧
  t.ivi.latched = 0 ∧ t.ivi.inForce = 0 ∧
  t.ivi.enable = decide (t.ldu.state ≠ .tripped ∧ u.pins.ready = true) ∧
  (u.pins.estop = true → t.hlu.hasOwn .estop = true ∧ t.ldu.state = .tripped) ∧
  (u.pins.fault = true → t.hlu.hasOwn .inverterFault = true ∧ t.ldu.state = .tripped) ∧
  (∀ p : Port, t.hlu.hasOwn (lossCause p) =
      ((match p with | .up => decide (0 < q.val) | .down => decide (q.val + 1 < n)) && !u.linkIsUp p) ∧
    (t.port p).check =
      (if (match p with | .up => decide (0 < q.val) | .down => decide (q.val + 1 < n)) && u.linkIsUp p then .passed
       else (u.port p).check)) ∧
  t.counter .discoveries = satAdd (u.counter .discoveries) 1

/-! ### Characters of a frame (R144, R150) -/

/-- A character with its parity right and its stop bit found. -/
def goodChar (mark : Bool) (data : Byte) : RawChar :=
  { data := data, mark := mark, parity := decide ((onesOf data + mark.toNat) % 2 = 0), stop := true }

/-- The characters of a frame on the line: its frame start, then its data characters. -/
def frameRaw (arrives : Port) (f : Frame) : List RawChar :=
  match frameChars arrives f with
  | start :: rest => goodChar true start :: rest.map (goodChar false)
  | [] => []

end Sys2Proof.Machine
end

