-- ==== Sys2Proof/Certificates/Slice0/Obligations.lean ====
section
/-!
DEFINITION. The statements for the provers. `u` is everywhere the state at the command: the state before it, with the time passed
and the lines as presented (log 1). How a command stands for an event of the spec is the model's choice: an expiry command acts
when its timer runs and is due (log 3), an edge command is an edge (log 4), a frame command stands for the last character of a
complete frame (log 5), and a request command for the last byte of a complete request (log 6).
-/

open Sys2Proof Sys2Proof.Machine

/-! ### The part as a whole -/

/-- A step runs the command at the front of the queue with the queue's rest; on an empty queue the part idles, which is the
model's choice (log 2). -/
def Obligations.StepTakesFrontCommand : Prop :=
  ∀ (c : Instr) (rest : List Instr) (s : State),
    step { s with pending := c :: rest } = exec c { s with pending := rest } ∧
    (s.pending = [] → step s = .next s)

/-- Every command answers a next state, leaves the commands that wait as they are, and, unless it is a reset, does not turn
time back. That the waiting commands stay over POWER_ON and RESET_PIN is the model's choice (log 8). -/
def Obligations.EveryCommandAnswersAndKeepsTheQueue : Prop :=
  ∀ (c : Instr) (s : State), ∃ t, exec c s = .next t ∧ t.pending = s.pending ∧
    ((∀ e, c ≠ .powerOn e ∧ c ≠ .resetPin e) → s.micros ≤ t.micros)

/-- R164: a station on line stays on line until a reset, with its position, line length and role (R170), its image (R184), its
base credits (R66), its target table (R42), and its number of slots (R1). Every step keeps its role (log 40) the one that its
position and N give, with a position that lies below N, or is 0, which a HELLO answer with an N of 0 gives too (log 18). -/
def Obligations.OnLineStationKeepsItsPlace : Prop :=
  (∀ (c : Instr) (s t : State), s.onLine = true → s.cq.slots ≠ [] → (∀ e, c ≠ .powerOn e ∧ c ≠ .resetPin e) →
    exec c s = .next t →
    t.onLine = true ∧ t.ldu.position = s.ldu.position ∧ t.ldu.n = s.ldu.n ∧ t.ldu.role = s.ldu.role ∧
    t.svi.image = s.svi.image ∧ t.cru.base = s.cru.base ∧ t.tau.targets = s.tau.targets ∧
    t.cq.slots.length = s.cq.slots.length) ∧
  (∀ s t : State, step s = .next t → s.RoleOk → t.RoleOk)

/-- R57, R59: at a station on line no event but a period end or a reset raises enable, changes the latched setpoint and its
mark, or brings a setpoint other than 0 in force. -/
def Obligations.PowerRisesOnlyAtBoundaries : Prop :=
  ∀ (c : Instr) (s t : State), s.onLine = true → (∀ e, c ≠ .powerOn e ∧ c ≠ .resetPin e ∧ c ≠ .periodEnd e) →
    exec c s = .next t →
    t.ivi.latched = s.ivi.latched ∧ t.ivi.latchedMark = s.ivi.latchedMark ∧
    (t.ivi.enable = s.ivi.enable ∧ t.ivi.inForce = s.ivi.inForce ∨ t.ivi.enable = false ∧ t.ivi.inForce = 0)

/-! ### Resets (R186) -/

/-- R186: power-on makes the reset cause set POWER_ON alone, the reset pin adds RESET_PIN to the set as it stood, and
CLEAR_RESET_CAUSE empties it, is answered OK, and changes nothing else. Either reset loses the queue, the loans and the hold
list, and leaves the station in CONFIG, to be started again. -/
def Obligations.ResetCauseSet : Prop :=
  ∀ (e : Env) (s : State),
    (∃ t, exec (.powerOn e) s = .next t ∧ t.svi.causePowerOn = true ∧ t.svi.causeResetPin = false ∧
      t.cq.slots = [] ∧ t.cru.loans = 0 ∧ t.hlu.entries = [] ∧ t.ldu.state = .config) ∧
    (∃ t, exec (.resetPin e) s = .next t ∧ t.svi.causePowerOn = s.svi.causePowerOn ∧ t.svi.causeResetPin = true ∧
      t.cq.slots = [] ∧ t.cru.loans = 0 ∧ t.hlu.entries = [] ∧ t.ldu.state = .config) ∧
    (s.serviceFree = true → ∃ t, exec (.clearResetCause e ⟨[], requestCrc 21 []⟩) s = .next t ∧
      t = { (s.observe e).count .serviceRequests with
        svi := { s.svi with
          causePowerOn := false, causeResetPin := false, receiver := .responding (responseBytes 0 []) } })

/-- What every block holds after either reset (R20, R25, R47, R56, R68, R88, R96, R102, R111, R128, R146, R164, R176 to R179,
R182, R184). The levels of the plant's lines are as presented, and the commands that wait stay, which is the model's choice
(log 7, log 8). -/
def Obligations.ResetsGiveResetValues : Prop :=
  ∀ (e : Env) (s : State), ∀ c ∈ [Instr.powerOn e, Instr.resetPin e], ∃ t, exec c s = .next t ∧
    t.micros = 0 ∧ t.pins = (s.observe e).pins ∧ t.pending = s.pending ∧
    t.ldu = { state := .config, reason := none, position := none, n := none, role := none, headClaim := false,
              seen := false, settle := none, helloTimer := none, posTimer := none } ∧
    t.cq = { slots := [], lastStroke := 0, lastShift := 0, intervalOpen := false, iAvg := 0, newestSerial := none } ∧
    t.tau = { periodStart := none, residue := 0, trim := 0, targets := none,
              sample := { pFb := 0, substituted := false, useful := 0 }, lastTrim := none } ∧
    t.pdu = { ePlan := 0, pDem := 0, guardActive := false, pAvail := 0, creditClamped := false, pPrev := 0, pNext := 0 } ∧
    t.ivi = { buffer := 0, bufferMark := false, latched := 0, latchedMark := false, inForce := 0, enable := false,
              notReady := false } ∧
    t.cru = { base := 0, loans := 0, pool := 0, need := none, tracker := none, counter := 0, backoff := none,
              recanvass := none } ∧
    t.tracker = { unmatched := 0, motionDeadline := none, unconfirmed := 0, confirmDeadline := none } ∧
    t.head = { calls := [], lastExecuted := none, pusher := .idle, pulse := none, timer := none, owed := false,
               nextSerial := 1 } ∧
    t.tail = { counter := 0, outstanding := none, callTimer := none, pressWaiting := false, fill := false,
               fillTimer := none, pressIdle := none } ∧
    t.exu = { preview := none, awaiting := none, gate := false, pulse := .off, owed := 0, log := [], window := [],
              counter := 0 } ∧
    t.hlu = { entries := [], refresh := none } ∧
    (∀ p, t.port p =
      { link := .down, validRun := 0, errorRun := 0, silence := none, receiver := .hunting, transmitter := .brk 4,
        forward := [], localQ := [], starvation := 0, check := .pending, checkTimer := none, recvEnd := none,
        sendEnd := none, counters := Vector.replicate 22 0 }) ∧
    t.ltr = { state := .idle, mode := .free,
              pattern := { kind := none, src := none, dst := none, action := none, error := none, key := none },
              filter := Vector.replicate 16 0xFFFF, traceErrors := true, ring := [], writeIndex := 0, rollover := 0 } ∧
    t.svi.image = none ∧ t.svi.receiver = .hunting ∧ t.counters = Vector.replicate 134 0

/-- Every invariant below holds right after a power-on reset. -/
def Obligations.ResetMeetsInvariants : Prop :=
  State.reset.QueuesOk ∧ State.reset.HoldListOk ∧ State.reset.PowerSafe ∧ State.reset.ltr.RingOk ∧
  State.reset.SerialsOk ∧ State.reset.QueueSound ∧ State.reset.head.CallsOk ∧ State.reset.tracker.CountsOk ∧
  State.reset.exu.BoundsOk ∧ State.reset.tau.TrimOk ∧ State.reset.CreditsCover ∧ State.reset.RoleOk

/-! ### Invariants that every step keeps -/

/-- R157, R158, R160: the queues of both ports keep their capacities and the local queues their order by class; the starvation
counts lie in 0 to 8. -/
def Obligations.StepKeepsPortQueues : Prop :=
  ∀ s t : State, s.QueuesOk → step s = .next t → t.QueuesOk

/-- R128: a hold cause list holds at most 16 entries, never two with the same cause and origin, own entries exactly under the
station's own position, and none off line. -/
def Obligations.StepKeepsHoldList : Prop :=
  ∀ s t : State, s.HoldListOk → step s = .next t → t.HoldListOk

/-- R58, R59, R129: the line mode is the one the list gives, a FAULT that stands holds its cause, enable is high only in RUN or
HOLD with READY high and the latched setpoint in force, and the setpoint in force stays within the rating. It stays within what
the credits held allow, and within what the last demand needs, in every step; that it is withdrawn where a RETURN leaves it
without its credits is the model's choice (log 49). -/
def Obligations.StepKeepsPowerSafe : Prop :=
  ∀ s t : State, step s = .next t → (s.PowerSafe → t.PowerSafe) ∧ (s.QueueSound → s.CreditsCover → t.CreditsCover)

/-- R9: no two records in the queue carry the same serial. R1, R3, R5, R42, R184: an image that is stored is valid, an on-line
station holds K_p slots and its target table, every record lies in its ranges, and every station list is in order below the
station's position. -/
def Obligations.StepKeepsQueueSound : Prop :=
  ∀ s t : State, step s = .next t → (s.SerialsOk → t.SerialsOk) ∧ (s.QueueSound → t.QueueSound)

/-- R97, R88: at most 2 pending calls, all different, none equal to the last executed call number; both counts of the tracker lie
in 0 to 2, and each of its deadlines runs exactly while its count is above 0. -/
def Obligations.StepKeepsCallsAndTracker : Prop :=
  ∀ s t : State, step s = .next t →
    (s.head.CallsOk → t.head.CallsOk) ∧ (s.tracker.CountsOk → t.tracker.CountsOk)

/-- R179, R121, R111, R30: the entries the trace ring holds agree with its write index and rollover count; the exit log holds at
most 64 entries, the trim window 7 errors, and 3 pulses are owed at most; the trim lies in −32 to +31. -/
def Obligations.StepKeepsLogsAndTrimInBounds : Prop :=
  ∀ s t : State, step s = .next t →
    (s.ltr.RingOk → t.ltr.RingOk) ∧ (s.exu.BoundsOk → t.exu.BoundsOk) ∧ (s.tau.TrimOk → t.tau.TrimOk)

/-! ### The service port -/

/-- R183, R190: the thirteen commands with their codes and payload lengths. A request is refused with CRC, then LENGTH, then
STATE, the first that applies; the states that take a command are those of R183 and R180. A request whose command byte names no
command is refused with COMMAND, after CRC. A refused request has no other effect than its two counts. -/
def Obligations.RequestsRefusedInOrder : Prop :=
  requestRows.map (fun row => (row.code.toNat, row.svc.length)) =
    [(1, 0), (2, 286), (3, 0), (16, 0), (17, 0), (18, 2), (19, 1), (20, 0), (21, 0), (32, 42), (33, 0), (34, 0), (35, 3)] ∧
  (∀ row ∈ requestRows, ∀ (e : Env) (r : Request) (s u : State), u = s.observe e → s.serviceFree = true →
    r.payload.length ≤ 1024 →
    (r.crc ≠ requestCrc row.code r.payload → exec (row.make e r) s = .next (u.refusedWith 1)) ∧
    (r.crc = requestCrc row.code r.payload → r.payload.length ≠ row.svc.length →
      exec (row.make e r) s = .next (u.refusedWith 3)) ∧
    (r.crc = requestCrc row.code r.payload → r.payload.length = row.svc.length →
      (row.code = 2 ∧ s.ldu.state ≠ .config ∧ s.ldu.state ≠ .fault) ∨
      (row.code = 3 ∧ (s.ldu.state ≠ .config ∨ s.svi.image = none)) ∨
      ((row.code = 32 ∨ row.code = 33) ∧ (s.ltr.state = .armed ∨ s.ltr.state = .recording)) ∨
      (row.code = 34 ∧ s.ltr.state = .idle) →
      exec (row.make e r) s = .next (u.refusedWith 4))) ∧
  (∀ (e : Env) (code : Byte) (r : Request) (s u : State), u = s.observe e → s.serviceFree = true →
    r.payload.length ≤ 1024 → code ∉ requestRows.map RequestRow.code →
    exec (.unknownCommand e code r) s = .next (u.refusedWith (if r.crc = requestCrc code r.payload then 2 else 1))) ∧
  (∀ (e : Env) (s u : State), u = s.observe e → s.serviceFree = true →
    (∀ start count : Byte, s.exu.log.length ≤ start.toNat ∨ count.toNat = 0 ∨ 4 < count.toNat →
      exec (.readExitLog e ⟨[start, count], requestCrc 18 [start, count]⟩) s = .next (u.refusedWith 5)) ∧
    (∀ sel : Byte, sel.toNat = 0 ∨ 9 < sel.toNat →
      exec (.readCounters e ⟨[sel], requestCrc 19 [sel]⟩) s = .next (u.refusedWith 5)) ∧
    (∀ hi lo count : Byte, s.ltr.ring.length ≤ 256 * hi.toNat + lo.toNat ∨ count.toNat = 0 ∨ 16 < count.toNat →
      exec (.readTrace e ⟨[hi, lo, count], requestCrc 35 [hi, lo, count]⟩) s = .next (u.refusedWith 5)))

/-- R183, R185, R187, R181: a read is answered OK with the state as it stands and changes nothing but SERVICE_REQUESTS and the
receiver. IDENTIFY's data are those of R190, and an exit log entry with c list entries is 25 + 3c bytes (R191). That READ_COUNTERS
sees its own request counted is the model's choice (log 36), and so are the encodings that R190 leaves open in the data of
READ_STATUS and READ_QUEUE (logs 25, 26, 56) and of READ_TRACE (log 27). -/
def Obligations.ReadsAnswerAndChangeNothing : Prop :=
  (∀ (e : Env) (s u : State), u = s.observe e → s.serviceFree = true →
    exec (.identify e ⟨[], requestCrc 1 []⟩) s = .next (u.answeredWith
      ([0, 7, 4, 16] ++
        (match s.svi.image with
         | some img => 1 :: (toBytes 2 img.recipeId ++ [BitVec.ofNat 8 img.version])
         | none => [0, 0, 0, 0]) ++ [BitVec.ofNat 8 (stationIndex s.ldu.state)])) ∧
    exec (.readStatus e ⟨[], requestCrc 16 []⟩) s = .next (u.answeredWith u.statusData) ∧
    exec (.readQueue e ⟨[], requestCrc 17 []⟩) s = .next (u.answeredWith u.queueData) ∧
    (∀ start count : Byte, start.toNat < s.exu.log.length → 1 ≤ count.toNat → count.toNat ≤ 4 →
      exec (.readExitLog e ⟨[start, count], requestCrc 18 [start, count]⟩) s = .next (u.answeredWith
        (toBytes 1 s.exu.log.length ++ toBytes 4 (s.counter .exitLogEntries).toNat ++
          ((s.exu.log.drop start.toNat).take count.toNat).flatMap logItem))) ∧
    (∀ sel : Byte, 1 ≤ sel.toNat → sel.toNat ≤ 9 → ∃ data, (u.count .serviceRequests).counterData sel.toNat = some data ∧
      exec (.readCounters e ⟨[sel], requestCrc 19 [sel]⟩) s = .next (u.answeredWith data)) ∧
    (∀ hi lo count : Byte, 256 * hi.toNat + lo.toNat < s.ltr.ring.length → 1 ≤ count.toNat → count.toNat ≤ 16 →
      exec (.readTrace e ⟨[hi, lo, count], requestCrc 35 [hi, lo, count]⟩) s =
        .next (u.answeredWith (u.traceData (256 * hi.toNat + lo.toNat) count.toNat)))) ∧
  (∀ x : LogEntry, (logItem x).length = 25 + 3 * x.stations.length)

/-- R184, R165, R190: LOAD_IMAGE in CONFIG or FAULT. An image that passes every check is stored, τ becomes 0 and the target table
none; one that fails is discarded with the image held before, and refused with the row and element of the first failing check.
Either way the station is in CONFIG with its discovery items reset and its timers stopped, and nothing else changes. -/
def Obligations.LoadImageStoresOrDiscards : Prop :=
  ∀ (e : Env) (r : Request) (s u : State), u = s.observe e → s.serviceFree = true →
    s.ldu.state = .config ∨ s.ldu.state = .fault → r.payload.length = 286 → r.crc = requestCrc 2 r.payload →
    ((parseImage r.payload).firstFailure = none → exec (.loadImage e r) s = .next
      { (u.count .serviceRequests).count .imagesLoaded with
        svi := { s.svi with image := some (parseImage r.payload), receiver := .responding (responseBytes 0 []) }
        tau := { s.tau with trim := 0, targets := none }
        ldu := { state := .config, reason := none, position := none, n := none, role := none, headClaim := false,
                 seen := false, settle := none, helloTimer := none, posTimer := none }
        upPort := { s.upPort with checkTimer := none }, downPort := { s.downPort with checkTimer := none } }) ∧
    (∀ c, (parseImage r.payload).firstFailure = some c → exec (.loadImage e r) s = .next
      { ((u.count .serviceRequests).count .imagesRefused).count .serviceRefused with
        svi := { s.svi with
          image := none
          receiver := .responding (responseBytes 6 [BitVec.ofNat 8 c.row, BitVec.ofNat 8 c.element]) }
        tau := { s.tau with targets := none }
        ldu := { state := .config, reason := none, position := none, n := none, role := none, headClaim := false,
                 seen := false, settle := none, helloTimer := none, posTimer := none }
        upPort := { s.upPort with checkTimer := none }, downPort := { s.downPort with checkTimer := none } })

/-- R165, R166: START in CONFIG with an image stored enters DISCOVER, starts the settle and HELLO timers, and offers a HELLO
with wanted set on each port whose link is UP; it leaves every block as it was but the ports' local queues, where a HELLO may
displace a frame whose credits come back (R81). The source and the absent stroke number of a HELLO are free values (log 9, log
10). The unused bits of a HELLO's marks are 0 (log 45). -/
def Obligations.StartEntersDiscover : Prop :=
  ∀ (e : Env) (s u : State), u = s.observe e → s.serviceFree = true → s.ldu.state = .config → s.svi.image.isSome = true →
    ∃ t, exec (.start e ⟨[], requestCrc 3 []⟩) s = .next t ∧
      t.ldu = { s.ldu with
        state := .discover, settle := some (after u.now 100), helloTimer := some (after u.now 500) } ∧
      t.svi = { s.svi with receiver := .responding (responseBytes 0 []) } ∧
      (∀ p, s.linkIsUp p = true → (s.port p).localQ.length < 8 → ∃ src stroke, (t.port p).localQ =
        insertByClass
          { src := src, dst := 255
            payload := .hello { position := s.positionByte, state := .discover, recipe := BitVec.ofNat 16 s.img.recipeId,
                                lastStroke := stroke, newestSerial := 0, n := 0, marks := 1 } }
          (s.port p).localQ) ∧
      (∀ p, s.linkIsUp p = false → t.port p = s.port p) ∧
      ((∀ p, s.linkIsUp p = true → (s.port p).localQ.length < 8) → t.cru = s.cru) ∧
      (∀ p, t.port p = (s.port p).offered (t.port p)) ∧
      t = { u with
        ldu := t.ldu, svi := t.svi, upPort := t.upPort, downPort := t.downPort, ltr := t.ltr, counters := t.counters
        cru := { s.cru with loans := t.cru.loans }, freeIndex := t.freeIndex }

/-- R187: CLEAR_COUNTERS sets every counter of every block to 0, counts itself, and changes nothing else. -/
def Obligations.ClearCountersZeroesAllButItsOwn : Prop :=
  ∀ (e : Env) (s u : State), u = s.observe e → s.serviceFree = true →
    ∃ t, exec (.clearCounters e ⟨[], requestCrc 20 []⟩) s = .next t ∧
      (∀ c, t.counter c = if c = .serviceRequests then 1 else 0) ∧
      (∀ p, t.port p = { s.port p with counters := Vector.replicate 22 0 }) ∧
      t = { u with
        counters := t.counters, upPort := t.upPort, downPort := t.downPort
        svi := { s.svi with receiver := .responding (responseBytes 0 []) } }

/-- R176 to R180: TRACE_SETUP in IDLE or STOPPED puts its four items in place of the trace's own and refuses a field out of its
range; TRACE_ARM empties the ring; TRACE_STOP stops. Then the table of R178: which offers a trace takes in each state and mode;
the filter of R176, by kind row and source, or trace-errors; the match of R177; the entry of R175 with its gap, from the receive
end or the send end, and what the trace sees of a whole frame. The ranges of the fields, the refusal of a trace-errors byte or a
key ANY byte above 1 among them, are the model's choice where R190 gives none (log 27). -/
def Obligations.TraceCommandsAndTaking : Prop :=
  (∀ (e : Env) (s u : State), u = s.observe e → s.serviceFree = true →
    (s.ltr.state = .idle ∨ s.ltr.state = .stopped →
      (∀ r : Request, r.payload.length = 42 → r.crc = requestCrc 32 r.payload →
        exec (.traceSetup e r) s = .next
          (match traceModeOf (fieldAt r.payload 33 1), parsePattern r.payload with
           | some mode, some pattern =>
             if 1 < fieldAt r.payload 32 1 then u.refusedWith 5
             else
               { u.answeredWith [] with
                 ltr := { s.ltr with
                   filter := parseFilter r.payload, traceErrors := decide (fieldAt r.payload 32 1 = 1), mode := mode
                   pattern := pattern } }
           | _, _ => u.refusedWith 5)) ∧
      exec (.traceArm e ⟨[], requestCrc 33 []⟩) s = .next { u.answeredWith [] with
        ltr := { s.ltr with
          ring := [], writeIndex := 0, rollover := 0
          state := if s.ltr.mode = .startOn then .armed else .recording } }) ∧
    (s.ltr.state ≠ .idle → exec (.traceStop e ⟨[], requestCrc 34 []⟩) s = .next { u.answeredWith [] with
      ltr := { s.ltr with state := .stopped } })) ∧
  (∀ (x : Ltr) (o : Offer) (y : TraceEntry),
    (x.state = .idle ∨ x.state = .stopped → x.take o y = x) ∧
    (x.state = .armed → x.mode = .startOn →
      x.take o y = if x.pattern.matches o then { x.append y with state := .recording } else x) ∧
    (x.state = .recording → x.take o y =
      (match x.mode with
       | .free | .startOn => x.append y
       | .stopOn => { x.append y with state := if x.pattern.matches o then .stopped else .recording }
       | .onlyMatch => if x.pattern.matches o then x.append y else x))) ∧
  (∀ (x : Ltr) (v : FrameView),
    (∀ (row : Fin 16) (src : Nat), v.kind = some (BitVec.ofNat 8 (row.val + 1)) → row.val < 11 → v.src = some src →
      x.passes v = (x.filter.get row).getLsbD src) ∧
    (v.kind = none ∨ v.src = none ∨ (∃ code : Byte, v.kind = some code ∧ kindOfCode code = none) →
      x.passes v = x.traceErrors)) ∧
  (∀ (q : Pattern) (o : Offer), q.matches o = true ↔
    (q.kind = none ∨ q.kind = o.view.kind) ∧ (q.src = none ∨ q.src = o.view.src) ∧
    (q.dst = none ∨ q.dst = o.view.dst) ∧ (q.action = none ∨ q.action = some o.action) ∧
    (q.error = none ∨ q.error = o.error) ∧ (q.key = none ∨ q.key = o.view.key)) ∧
  (∀ (s : State) (o : Offer),
    s.offerTrace o = { s with ltr := if s.ltr.passes o.view then s.ltr.take o (s.traceEntry o) else s.ltr } ∧
    s.traceEntry o =
      { port := o.port, action := o.action, error := o.error, time := s.now, view := o.view
        gap := match (if o.action = .originated ∨ (o.action = .dropped ∧ o.error ∈ [some .localRefused,
              some .localDisplaced, some .forwardOverrun, some .misrouted, some .linkLoss]) then
            (s.port o.port).sentAt s.micros else (s.port o.port).recvEnd) with
          | some x => min ((s.micros - x) / 10) 255
          | none => 255 }) ∧
  (∀ f : Frame, f.src.toNat ≤ 15 → f.dst.toNat ≤ 15 ∨ f.dst = 255 → viewOfFrame f =
    { kind := some (kindCode (frameKind f)), src := some f.src.toNat
      dst := some (if f.dst = 255 then 16 else f.dst.toNat)
      key := match f.payload with
        | .stroke n _ _ => some n
        | .call _ n => some n
        | .canvass _ n _ => some n
        | .reply n _ _ => some n
        | .ret n _ => some n
        | .trim _ n => some n
        | .hold c _ => some (BitVec.ofNat 16 c.toNat)
        | .clear c _ => some (BitVec.ofNat 16 c.toNat)
        | .pos q _ _ _ => some (BitVec.ofNat 16 q.toNat)
        | .count n _ => some (BitVec.ofNat 16 n.toNat)
        | .hello _ => none })

/-- R182: a byte on the service line in each state of the receiver, the gap inside a request, and the end of a response. A byte of an
open request is collected; a length above 1024 abandons the request at its length bytes; the last byte of the CRC completes it,
and it is taken as the request command takes it (log 6). A byte after a gap of more than 10 ms finds the request abandoned
(log 37). -/
def Obligations.ServiceLineEvents : Prop :=
  ∀ (e : Env) (b : Byte) (s u : State), u = s.observe e →
    (s.svi.receiver = .hunting →
      exec (.serviceByteReceived e b) s = .next
        (if b = 90 then { u with svi := { s.svi with receiver := .inRequest [] u.now } } else u.count .serviceStray)) ∧
    (∀ got last, s.svi.receiver = .inRequest got last → (u.now - last).toNat ≤ 10 → got.length < 2 →
      exec (.serviceByteReceived e b) s =
        .next { u with svi := { s.svi with receiver := .inRequest (got ++ [b]) u.now } }) ∧
    (∀ code hi last, s.svi.receiver = .inRequest [code, hi] last → (u.now - last).toNat ≤ 10 →
      1024 < 256 * hi.toNat + b.toNat →
      exec (.serviceByteReceived e b) s =
        .next { u.count .serviceAbandoned with svi := { s.svi with receiver := .hunting } }) ∧
    (∀ code hi lo more last, (s.svi.receiver = .inRequest [code, hi] last ∧ lo = b ∧ more = []) ∨
        (∃ rest, s.svi.receiver = .inRequest (code :: hi :: lo :: rest) last ∧ more = rest ++ [b]) →
      (u.now - last).toNat ≤ 10 → 256 * hi.toNat + lo.toNat ≤ 1024 →
      (more.length < 256 * hi.toNat + lo.toNat + 2 → exec (.serviceByteReceived e b) s =
        .next { u with svi := { s.svi with receiver := .inRequest (code :: hi :: lo :: more) u.now } }) ∧
      (more.length = 256 * hi.toNat + lo.toNat + 2 → ∀ r : Request,
        r = ⟨more.take (256 * hi.toNat + lo.toNat),
          BitVec.ofNat 16 (ofBytes (more.drop (256 * hi.toNat + lo.toNat)))⟩ →
        (∀ row ∈ requestRows, row.code = code → exec (.serviceByteReceived e b) s = exec (row.make e r) s) ∧
        (code ∉ requestRows.map RequestRow.code →
          exec (.serviceByteReceived e b) s = exec (.unknownCommand e code r) s))) ∧
    (∀ got last, s.svi.receiver = .inRequest got last → 10 < (u.now - last).toNat →
      exec (.serviceByteReceived e b) s = .next (if b = 90 then
          { u.count .serviceAbandoned with svi := { s.svi with receiver := .inRequest [] u.now } }
        else { (u.count .serviceAbandoned).count .serviceStray with svi := { s.svi with receiver := .hunting } })) ∧
    (∀ resp, s.svi.receiver = .responding resp →
      exec (.serviceByteReceived e b) s = .next (u.count .serviceStray) ∧
      exec (.serviceResponseSent e) s = .next { u with svi := { s.svi with receiver := .hunting } }) ∧
    (∀ got last, s.svi.receiver = .inRequest got last → 10 < (u.now - last).toNat →
      exec (.serviceAbandoned e) s =
        .next { u.count .serviceAbandoned with svi := { s.svi with receiver := .hunting } })

/-- R182, R183: the bytes of a complete request, taken one after the other by a receiver that hunts, do what the request does in
one event, as the request commands take it (log 6). -/
def Obligations.RequestBytesAreTheRequest : Prop :=
  ∀ (code : Byte) (payload : List Byte) (s : State), s.svi.receiver = .hunting → payload.length ≤ 1024 →
    ([90, code] ++ toBytes 2 payload.length ++ payload ++ toBytes 2 (requestCrc code payload).toNat).foldl
        State.serviceByte s =
      s.takeRequest code (serviceOf code) ⟨payload, requestCrc code payload⟩

/-! ### The formats of the link -/

/-- R152, R189: the bytes of every payload that passes the header checks are read back as that payload. -/
def Obligations.PayloadBytesReadBack : Prop :=
  ∀ x : Payload, payloadOk x = true → parsePayload (payloadKind x) (encodePayload x) = some x

/-- R144, R150 to R152, R188: the characters of a frame, taken one after the other by a hunting receiver of an UP link, do what the
complete frame does in one event, as the frame commands take it (log 5). -/
def Obligations.FrameCharactersAreTheFrame : Prop :=
  ∀ (p : Port) (f : Frame) (s : State), s.linkIsUp p = true → (s.port p).receiver = .hunting → headerOk p f = true →
    (frameRaw p f).foldl (fun v c => v.receiveChar p c) s = s.frameArrives ⟨p, f.src, f.dst⟩ f.payload

/-! ### The lines of the plant -/

/-- R62, R63, R81, R129, R130, R159: an ESTOP or FAULT edge on line takes enable and the setpoint in force away, unless the
station is TRIPPED already, raises the station's own cause, enters TRIPPED, and is counted. The hold list gains the cause if it
is not there, at a full list in the place of the first of the oldest heard entries (log 32), and a stopped refresh timer starts;
a cause that is new offers its HOLD on each port whose link is UP, but no frame on a single-station line, and nothing else
changes. At a full local queue the HOLD displaces the youngest frame of the lowest class there, the last of the queue (log 35),
a LEND's or RETURN's credits coming back, and is refused where all are of class 0. -/
def Obligations.TripEdgesCutPower : Prop :=
  ∀ (e : Env) (s u : State), u = s.observe e → s.onLine = true →
    (∃ t, exec (.estopAsserted e) s = .next t ∧ t.pins = { u.pins with estop := true } ∧
      t.ivi = (if s.ldu.state = .tripped then s.ivi else { s.ivi with inForce := 0, enable := false }) ∧
      t.ldu = { s.ldu with state := .tripped } ∧ t.hlu.hasOwn .estop = true ∧
      u.OwnRaised t .estop ∧ (s.hlu.hasOwn .estop = true ∨ s.isSingle = true → ∀ p, t.port p = s.port p) ∧
      (s.hlu.hasOwn .estop = false → s.isSingle = false → ∀ p, u.FullQueueOffered t p (s.frame 255 (.hold 4 s.originByte)) ∧
        (∀ rest g, s.linkIsUp p = true → s.linkIsUp p.other = false → (s.port p).check ≠ .miswired →
          (s.port p).localQ = rest ++ [g] → 7 ≤ rest.length → 0 < frameClass g →
          t.cru.loans = s.cru.loans + carriedCredits g ∧
          t.counter .creditsRestored = satAdd (s.counter .creditsRestored) (carriedCredits g))) ∧
      (s.hlu.hasOwn .estop = false → s.isSingle = false → ∀ p,
        (s.hasRoom p = true → (t.port p).localQ = s.joined p 255 (.hold 4 s.originByte)) ∧
        (s.linkIsUp p = false → t.port p = s.port p)) ∧
      (s.hlu.hasOwn .estop = false → s.isSingle = false → (∀ p, s.linkIsUp p = true → s.hasRoom p = true) →
        t.counter .holdsSent = satAdd (s.counter .holdsSent) (s.linksUp)) ∧
      (s.isSingle = true → t.counter .holdsSent = s.counter .holdsSent ∧ t.cru = s.cru) ∧
      t.counter .estopTrips = satAdd (s.counter .estopTrips) 1 ∧
      (∀ p, t.port p = (s.port p).offered (t.port p)) ∧
      t = { u with
        pins := t.pins, ivi := t.ivi, ldu := t.ldu, hlu := t.hlu, upPort := t.upPort, downPort := t.downPort
        ltr := t.ltr, counters := t.counters, cru := { s.cru with loans := t.cru.loans } }) ∧
    (∃ t, exec (.faultHigh e) s = .next t ∧ t.pins = { u.pins with fault := true } ∧
      t.ivi = (if s.ldu.state = .tripped then s.ivi else { s.ivi with inForce := 0, enable := false }) ∧
      t.ldu = { s.ldu with state := .tripped } ∧ t.hlu.hasOwn .inverterFault = true ∧
      u.OwnRaised t .inverterFault ∧ (s.hlu.hasOwn .inverterFault = true ∨ s.isSingle = true → ∀ p, t.port p = s.port p) ∧
      (s.hlu.hasOwn .inverterFault = false → s.isSingle = false → ∀ p, u.FullQueueOffered t p (s.frame 255 (.hold 5 s.originByte)) ∧
        (∀ rest g, s.linkIsUp p = true → s.linkIsUp p.other = false → (s.port p).check ≠ .miswired →
          (s.port p).localQ = rest ++ [g] → 7 ≤ rest.length → 0 < frameClass g →
          t.cru.loans = s.cru.loans + carriedCredits g ∧
          t.counter .creditsRestored = satAdd (s.counter .creditsRestored) (carriedCredits g))) ∧
      (s.hlu.hasOwn .inverterFault = false → s.isSingle = false → ∀ p,
        (s.hasRoom p = true → (t.port p).localQ = s.joined p 255 (.hold 5 s.originByte)) ∧
        (s.linkIsUp p = false → t.port p = s.port p)) ∧
      (s.hlu.hasOwn .inverterFault = false → s.isSingle = false → (∀ p, s.linkIsUp p = true → s.hasRoom p = true) →
        t.counter .holdsSent = satAdd (s.counter .holdsSent) (s.linksUp)) ∧
      (s.isSingle = true → t.counter .holdsSent = s.counter .holdsSent ∧ t.cru = s.cru) ∧
      t.counter .inverterFaultTrips = satAdd (s.counter .inverterFaultTrips) 1 ∧
      (∀ p, t.port p = (s.port p).offered (t.port p)) ∧
      t = { u with
        pins := t.pins, ivi := t.ivi, ldu := t.ldu, hlu := t.hlu, upPort := t.upPort, downPort := t.downPort
        ltr := t.ltr, counters := t.counters, cru := { s.cru with loans := t.cru.loans } })

/-- R61 to R63: READY low on line with FAULT low takes power away and sets not-ready, without a hold cause or a change of state;
with FAULT high or off line it changes the line alone. READY high, FAULT low and ESTOP released change the line alone: no cause
is removed and no power given back. Off line the trip edges change the line alone. -/
def Obligations.LevelsOfThePlantLines : Prop :=
  ∀ (e : Env) (s u : State), u = s.observe e →
    exec (.readyLow e) s = .next
      (if s.onLine = true ∧ s.pins.fault = false then
        { u with
          pins := { u.pins with ready := false }
          ivi := { s.ivi with inForce := 0, enable := false, notReady := true } }
      else { u with pins := { u.pins with ready := false } }) ∧
    exec (.readyHigh e) s = .next { u with pins := { u.pins with ready := true } } ∧
    exec (.faultLow e) s = .next { u with pins := { u.pins with fault := false } } ∧
    exec (.estopReleased e) s = .next { u with pins := { u.pins with estop := false } } ∧
    (s.onLine = false →
      exec (.estopAsserted e) s = .next { u with pins := { u.pins with estop := true } } ∧
      exec (.faultHigh e) s = .next { u with pins := { u.pins with fault := true } } ∧
      exec (.tripReset e) s = .next { u with pins := { u.pins with tripReset := true } })

/-- R64, R101, R140: a trip reset edge on line removes the station's own ESTOP and INVERTER_FAULT causes if ESTOP is released
and FAULT low, and its PUSHER_FAULT cause if it is the head with the pusher in FAULT; every other entry stays in its place. The
mode follows, the inverter keeps what it has, and the edge is counted. R133: each cause removed offers its CLEAR, in the order
of the list, on each port whose link is UP, on a single-station line too (log 52), and the refresh timer stops with the last own
cause. R98: a head whose list is empty, with a pending call and the pusher IDLE, starts its oldest call in the same event. -/
def Obligations.TripResetRemovesOwnCauses : Prop :=
  ∀ (e : Env) (s u : State) (gone : HoldEntry → Bool), u = s.observe e → s.onLine = true →
    gone = (fun x => x.own &&
      (((x.cause == .estop || x.cause == .inverterFault) && !s.pins.estop && !s.pins.fault) ||
        (x.cause == .pusherFault && s.isHead && s.head.pusher == .fault))) →
    ∃ t, exec (.tripReset e) s = .next t ∧
      t.hlu.entries = s.hlu.entries.filter (fun x => !gone x) ∧ u.OwnRemoved t gone ∧
      (((s.hlu.entries.filter gone).map HoldEntry.cause).Nodup → ∀ p, s.linkIsUp p = true →
        (s.port p).check ≠ .miswired → (s.port p).localQ.length + (s.hlu.entries.filter gone).length ≤ 8 →
        (t.port p).localQ = (s.hlu.entries.filter gone).foldl
          (fun q x => insertByClass (s.frame 255 (.clear (causeCode x.cause) s.originByte)) q) (s.port p).localQ) ∧
      (∀ p, s.linkIsUp p = false → t.port p = s.port p) ∧
      t.ldu = { s.ldu with state := modeOf t.hlu.entries } ∧ t.ivi = s.ivi ∧
      (s.pins.estop = true ∨ s.pins.fault = true →
        t.counter .tripResetRefused = satAdd (s.counter .tripResetRefused) 1 ∧
        t.counter .tripResets = s.counter .tripResets) ∧
      (s.pins.estop = false → s.pins.fault = false →
        t.counter .tripResetRefused = s.counter .tripResetRefused ∧
        t.counter .tripResets = satAdd (s.counter .tripResets)
          (if s.hlu.hasOwn .estop || s.hlu.hasOwn .inverterFault then 1 else 0)) ∧
      (s.isHead = true → s.head.pusher = .fault →
        t.counter .pusherResets = satAdd (s.counter .pusherResets) 1 ∧ t.head.owed = false) ∧
      (∀ h : Head, h = (if s.isHead = true ∧ s.head.pusher = .fault then { s.head with
          pusher := .idle, owed := false, lastExecuted := if s.head.owed then none else s.head.lastExecuted }
        else s.head) → u.HeadStarts t h) ∧
      (∀ p, t.port p = (s.port p).offered (t.port p)) ∧
      t = { u with
        pins := { u.pins with tripReset := true }, ldu := t.ldu, hlu := t.hlu, head := t.head, upPort := t.upPort
        downPort := t.downPort, ltr := t.ltr, counters := t.counters, cru := { s.cru with loans := t.cru.loans } }

/-- R88, R89: what a motion edge does at a station that uses its tracker, and where it is ignored and counted. No shift is
taken. -/
def Obligations.MotionEdgeMovesTheTracker : Prop :=
  ∀ (e : Env) (s u : State), u = s.observe e →
    (s.tracks = true → 0 < s.tracker.unconfirmed → exec (.motionEdge e) s = .next
      { u.count .motionConfirmed with
        tracker := { s.tracker with
          unconfirmed := s.tracker.unconfirmed - 1
          confirmDeadline :=
            if 1 < s.tracker.unconfirmed then some (after u.now s.img.confirmWindow) else none } }) ∧
    (s.tracks = true → s.tracker.unconfirmed = 0 → s.tracker.unmatched < 2 → exec (.motionEdge e) s = .next
      { u with
        tracker := { s.tracker with
          unmatched := s.tracker.unmatched + 1
          motionDeadline :=
            if s.tracker.unmatched = 0 then some (after u.now s.img.motionDeadline)
            else s.tracker.motionDeadline } }) ∧
    (s.tracks = true → s.tracker.unconfirmed = 0 → 2 ≤ s.tracker.unmatched →
      exec (.motionEdge e) s = .next (u.count .motionExcess)) ∧
    (s.onLine = false ∨ (s.isHead = false ∧ s.img.motionSense ≠ 1) →
      exec (.motionEdge e) s = .next (u.count .motionIgnored))

/-- R16 to R18, R86, R99: a PUSHED edge at the on-line head. In PUSHING the stroke is taken: the queue shifts with a new record,
or with a GAP if the loader is empty, the pulse and the timer end, and R98 may start the next stroke. In FAULT with a completion
owed the stroke is taken late, with the same new record or GAP. A stroke at a head that is not the tail originates its STROKE
frame downstream, synthesised by none, with what left the lead. On a line of one station (R109) the lead goes to the Exit
Unit, no frame is offered, and the preview and the call check follow, whose call joins the head's list before R98 is applied
(R97, R105, R106, R113). Any other edge, and any at a station off line or not the head, is ignored and counted spurious (R110). -/
def Obligations.PushedEdgeTakesTheStroke : Prop :=
  ∀ (e : Env) (s u : State), u = s.observe e →
    (s.onLine = true → s.isHead = true → s.head.pusher = .pushing ∨ s.head.pusher = .fault ∧ s.head.owed = true →
      ∃ t, exec (.pushed e) s = .next t ∧
      t.cq = s.cq.shifted s.img.cadence u.now
        (if e.loaderPresent then
          some { serial := some s.head.nextSerial
                 mass := if s.img.weigh = 1 then clampNat e.weigh s.img.massLow s.img.massHigh else s.img.nominalMass
                 h := 0, d := 0, soak := 0
                 flags := { Flags.empty with
                   massClamped := decide (s.img.weigh = 1 ∧ (e.weigh < s.img.massLow ∨ s.img.massHigh < e.weigh)) }
                 stations := [], self := none }
        else none) ∧
      t.head.nextSerial =
        (if e.loaderPresent then (if s.head.nextSerial < 65535 then s.head.nextSerial + 1 else 1)
         else s.head.nextSerial) ∧
      (s.isTail = false →
        (s.hasRoom .down = true →
          t.downPort.localQ = s.joined .down (BitVec.ofNat 8 (s.pos.val + 1))
            (.stroke (s.cq.lastStroke + 1) 255 ((s.cq.lead.map (Record.finish s.img s.pos)).map Record.wire)) ∧
          t.counter .strokesSent = satAdd (s.counter .strokesSent) 1) ∧
        (s.linkIsUp .down = false → t.downPort.localQ = s.downPort.localQ ∧
          t.counter .strokesRefused = satAdd (s.counter .strokesRefused) 1)) ∧
      (s.head.pusher = .fault → t.counter .latePushed = satAdd (s.counter .latePushed) 1 ∧
        (s.isTail = false → t.head = { s.head with owed := false, nextSerial := t.head.nextSerial })) ∧
      (s.head.pusher = .pushing → s.isTail = false → s.head.calls = [] ∨ s.hlu.entries ≠ [] →
        t.head = { s.head with pusher := .idle, pulse := none, timer := none, nextSerial := t.head.nextSerial }) ∧
      (s.head.pusher = .pushing → s.isTail = false → ∀ n rest, s.head.calls = n :: rest → s.hlu.entries = [] →
        t.head = { s.head with
          calls := rest, lastExecuted := some n, pusher := .pushing, pulse := some (after u.now s.img.pusherPulse)
          timer := some (after u.now s.img.pusherTimeout), nextSerial := t.head.nextSerial }) ∧
      t.counter .shifts = satAdd (s.counter .shifts) 1 ∧ (s.isTail = false → t.tail = s.tail ∧ t.exu = s.exu) ∧
      (s.isTail = true →
        u.LeadDecided t (s.cq.lastStroke + 1) ∧ u.TailChecked t u.tailLeft ∧
        t.counter .callsSent = satAdd (s.counter .callsSent)
          (if (u.checkSends u.tailLeft t.exu.preview).isSome then 1 else 0) ∧
        (∀ p, t.port p = s.port p) ∧
        (∀ h : Head, h = (if (u.checkSends u.tailLeft t.exu.preview).isSome then
            Head.withCall { s.head with nextSerial := t.head.nextSerial } (s.tail.counter + 1)
          else { s.head with nextSerial := t.head.nextSerial }) →
          (s.head.pusher = .pushing →
            t.head = u.startedHead s.hlu.entries { h with pusher := .idle, pulse := none, timer := none }) ∧
          (s.head.pusher = .fault → t.head = { h with owed := false }))) ∧
      t.ldu = s.ldu ∧ t.hlu = s.hlu ∧ t.ivi = s.ivi ∧ t.pdu = s.pdu ∧ t.tracker = s.tracker ∧ t.svi = s.svi ∧
      t.pins = u.pins ∧ t.tau = { s.tau with trim := t.tau.trim } ∧ t.cru = { s.cru with loans := t.cru.loans } ∧
      (∀ p, t.port p = (s.port p).offered (t.port p))) ∧
    (s.onLine = true → s.isHead = true → s.head.pusher = .fault → s.head.owed = true → ∃ t, exec (.pushed e) s = .next t ∧
      t.cq.lastStroke = s.cq.lastStroke + 1 ∧ t.head.pusher = .fault ∧ t.head.owed = false ∧
      t.counter .latePushed = satAdd (s.counter .latePushed) 1 ∧ t.hlu = s.hlu ∧ t.ldu = s.ldu ∧ t.ivi = s.ivi) ∧
    (s.onLine = false ∨ s.isHead = false ∨ s.head.pusher = .idle ∨ (s.head.pusher = .fault ∧ s.head.owed = false) →
      exec (.pushed e) s = .next (u.count .pushedSpurious))

/-- R103, R104, R107: a press call at the on-line tail. It is counted, and restarts the press-idle timer while FILL is clear. A
PRESS call goes at once in RUN with no call outstanding and the preview not REJECT; otherwise press-waiting is set. Where a
PRESS_IDLE cause stands it is removed first: its CLEAR is offered on each port whose link is UP, ahead of the CALL and on a
single-station line too (log 52), the refresh timer stops if it was the last own cause (R133), the mode follows, and the call
goes or waits by that mode. R109: on a line of one station the head takes the call in the same event, after it started its
oldest pending call where the list became empty (R98), and no CALL frame is offered. That the edge does nothing at an on-line
station that is not the tail is the model's reading (log 20); off line R104 ignores it. A call sent at once leaves press-waiting
as it is (log 24), and CALLS_SENT counts a call the queue took (log 39). -/
def Obligations.PressCallAtTheTail : Prop :=
  ∀ (e : Env) (s u : State), u = s.observe e →
    (s.onLine = true → s.isTail = true → s.isHead = false → s.hlu.hasOwn .pressIdle = false →
      ∃ t, exec (.pressCall e) s = .next t ∧
        (s.ldu.state = .run ∧ s.tail.outstanding = none ∧ s.previewRejects = false →
          t.tail = { s.tail with
            counter := s.tail.counter + 1, outstanding := some (s.tail.counter + 1, .press)
            callTimer := some (after u.now s.img.callTimeout)
            pressIdle := if s.tail.fill then s.tail.pressIdle else some (after u.now s.img.pressIdleTimeout) } ∧
          (s.hasRoom .up = true → t.upPort.localQ = s.joined .up 0 (.call .press (s.tail.counter + 1)) ∧
            t.counter .callsSent = satAdd (s.counter .callsSent) 1) ∧
          (s.linkIsUp .up = false → t.upPort.localQ = s.upPort.localQ ∧
            t.counter .callsRefused = satAdd (s.counter .callsRefused) 1)) ∧
        (¬(s.ldu.state = .run ∧ s.tail.outstanding = none ∧ s.previewRejects = false) →
          t.tail = { s.tail with
            pressWaiting := true
            pressIdle := if s.tail.fill then s.tail.pressIdle else some (after u.now s.img.pressIdleTimeout) }) ∧
        t.counter .pressCalls = satAdd (s.counter .pressCalls) 1 ∧
        (∀ p, t.port p = (s.port p).offered (t.port p)) ∧
        t = { u with
          tail := t.tail, upPort := t.upPort, downPort := t.downPort, ltr := t.ltr, counters := t.counters
          cru := { s.cru with loans := t.cru.loans } }) ∧
    (s.onLine = true → s.isTail = true → s.isHead = true → s.hlu.hasOwn .pressIdle = false →
      ∃ t, exec (.pressCall e) s = .next t ∧
        (s.ldu.state = .run ∧ s.tail.outstanding = none ∧ s.previewRejects = false →
          t.tail = { s.tail with
            counter := s.tail.counter + 1, outstanding := some (s.tail.counter + 1, .press)
            callTimer := some (after u.now s.img.callTimeout)
            pressIdle := if s.tail.fill then s.tail.pressIdle else some (after u.now s.img.pressIdleTimeout) } ∧
          t.counter .callsSent = satAdd (s.counter .callsSent) 1 ∧ u.HeadTakesCall t .press (s.tail.counter + 1)) ∧
        (¬(s.ldu.state = .run ∧ s.tail.outstanding = none ∧ s.previewRejects = false) →
          t.tail = { s.tail with
            pressWaiting := true
            pressIdle := if s.tail.fill then s.tail.pressIdle else some (after u.now s.img.pressIdleTimeout) } ∧
          t.head = s.head) ∧
        t.counter .pressCalls = satAdd (s.counter .pressCalls) 1 ∧
        t = { u with tail := t.tail, head := t.head, counters := t.counters }) ∧
    (s.onLine = true → s.isTail = true → s.isHead = false → s.hlu.hasOwn .pressIdle = true →
      ∃ t, exec (.pressCall e) s = .next t ∧ t.ldu = { s.ldu with state := modeOf t.hlu.entries } ∧
        u.OwnRemoved t (fun x => x.own && x.cause == .pressIdle) ∧
        (∀ waits : Bool,
          waits = !(decide (modeOf t.hlu.entries = .run) && s.tail.outstanding.isNone && !s.previewRejects) →
          t.tail = { s.tail with
            counter := if waits then s.tail.counter else s.tail.counter + 1
            outstanding := if waits then s.tail.outstanding else some (s.tail.counter + 1, .press)
            callTimer := if waits then s.tail.callTimer else some (after u.now s.img.callTimeout)
            pressWaiting := if waits then true else s.tail.pressWaiting
            pressIdle := if s.tail.fill then s.tail.pressIdle else some (after u.now s.img.pressIdleTimeout) } ∧
          (s.hasRoom .up = true → s.upPort.localQ.length < 7 →
            t.upPort.localQ =
              (if waits then s.joined .up 255 (.clear 1 s.originByte)
               else insertByClass (s.frame 0 (.call .press (s.tail.counter + 1)))
                 (s.joined .up 255 (.clear 1 s.originByte))) ∧
            t.counter .callsSent = satAdd (s.counter .callsSent) (if waits then 0 else 1)) ∧
          (s.linkIsUp .up = false → t.upPort.localQ = s.upPort.localQ ∧
            t.counter .callsRefused = satAdd (s.counter .callsRefused) (if waits then 0 else 1))) ∧
        (s.hasRoom .down = true → t.downPort.localQ = s.joined .down 255 (.clear 1 s.originByte)) ∧
        ((∀ p, s.linkIsUp p = true → s.hasRoom p = true) →
          t.counter .clearsSent = satAdd (s.counter .clearsSent) s.linksUp) ∧
        t.counter .pressCalls = satAdd (s.counter .pressCalls) 1 ∧
        (∀ p, t.port p = (s.port p).offered (t.port p)) ∧
        t = { u with
          tail := t.tail, hlu := t.hlu, ldu := t.ldu, upPort := t.upPort, downPort := t.downPort, ltr := t.ltr
          counters := t.counters, cru := { s.cru with loans := t.cru.loans } }) ∧
    (s.onLine = true → s.isTail = true → s.isHead = true → s.hlu.hasOwn .pressIdle = true →
      ∃ t, exec (.pressCall e) s = .next t ∧ t.ldu = { s.ldu with state := modeOf t.hlu.entries } ∧
        u.OwnRemoved t (fun x => x.own && x.cause == .pressIdle) ∧
        (modeOf t.hlu.entries = .run ∧ s.tail.outstanding = none ∧ s.previewRejects = false →
          t.tail = { s.tail with
            counter := s.tail.counter + 1, outstanding := some (s.tail.counter + 1, .press)
            callTimer := some (after u.now s.img.callTimeout)
            pressIdle := if s.tail.fill then s.tail.pressIdle else some (after u.now s.img.pressIdleTimeout) } ∧
          t.counter .callsSent = satAdd (s.counter .callsSent) 1 ∧
          { u with hlu := t.hlu, head := u.startedHead t.hlu.entries s.head }.HeadTakesCall t .press
            (s.tail.counter + 1)) ∧
        (¬(modeOf t.hlu.entries = .run ∧ s.tail.outstanding = none ∧ s.previewRejects = false) →
          t.tail = { s.tail with
            pressWaiting := true
            pressIdle := if s.tail.fill then s.tail.pressIdle else some (after u.now s.img.pressIdleTimeout) } ∧
          t.head = u.startedHead t.hlu.entries s.head) ∧
        (∀ p, s.hasRoom p = true → (t.port p).localQ = s.joined p 255 (.clear 1 s.originByte)) ∧
        ((∀ p, s.linkIsUp p = true → s.hasRoom p = true) →
          t.counter .clearsSent = satAdd (s.counter .clearsSent) s.linksUp) ∧
        t.counter .pressCalls = satAdd (s.counter .pressCalls) 1 ∧
        (∀ p, t.port p = (s.port p).offered (t.port p)) ∧
        t = { u with
          tail := t.tail, head := t.head, hlu := t.hlu, ldu := t.ldu, upPort := t.upPort, downPort := t.downPort
          ltr := t.ltr, counters := t.counters, cru := { s.cru with loans := t.cru.loans } }) ∧
    (s.onLine = true → s.isTail = true → ∃ t, exec (.pressCall e) s = .next t ∧ t.hlu.hasOwn .pressIdle = false ∧
      u.OwnRemoved t (fun x => x.own && x.cause == .pressIdle) ∧
      (s.hlu.hasOwn .pressIdle = true → t.ldu.state = modeOf t.hlu.entries ∧
        t.counter .ownCausesRemoved = satAdd (s.counter .ownCausesRemoved) 1)) ∧
    (s.onLine = false ∨ s.isTail = false → exec (.pressCall e) s = .next u)

/-! ### The period end -/

/-- R24, R31 to R40: the accounting of a period end. P_fb is the feedback, saturated, or the latched setpoint where it is
invalid; the pool of useful energy and residue is shared among the occupied slots, or, with an empty coil, it is unplaced. Every
record is brought up to date with its share: H, D, soak, flags and accrued from its own fields and the factors of its segment.
An H that reaches 40,000,000, exactly or clamped to it, carries MODEL_LIMIT (R4). R105, R113: at the tail the preview then
judges the lead as updated, and the call check in RUN with no call outstanding draws a lead that previews REJECT by a SELF call,
else sends the press call that waits; on a line of one station the head takes the call (R109). -/
def Obligations.PeriodEndAccountsTheEnergy : Prop :=
  ∀ (e : Env) (s u : State) (pFb useful pool : Nat), u = s.observe e → u.periodDue = true →
    pFb = (if e.feedbackValid then min e.feedback.toNat 6000 else s.ivi.latched) →
    useful = pFb * (clampInt ((s.img.eta.get s.pos : Int) + s.tau.trim) 64 255).toNat / 256 →
    pool = useful + s.tau.residue →
    ∃ t, exec (.periodEnd e) s = .next t ∧
      t.tau = { s.tau with
        periodStart := s.tau.periodStart.map (after · 100)
        residue := if occupied s.cq.slots then pool - (shares s.img pool s.cq.slots).sum else 0
        sample := { pFb := pFb, substituted := !e.feedbackValid, useful := useful } } ∧
      t.cq = { s.cq with slots := t.cq.slots } ∧ t.cq.slots.length = s.cq.slots.length ∧
      (∀ i : Nat, s.cq.slots[i]? = some none → t.cq.slots[i]? = some none) ∧
      (∀ (i share loss h d : Nat) (r x : Record) (f : Factors), s.cq.slots[i]? = some (some r) →
        (shares s.img pool s.cq.slots)[i]? = some share → f = s.img.factorsAt r.specific → loss = f.l * r.mass / 1000 →
        h = (clampInt ((r.h : Int) + share - loss) 0 40000000).toNat →
        d = (clampInt ((r.d : Int) - (r.d * f.d / 256 : Nat) + (share * 1000 / r.mass * f.g / 256 : Nat)) 0 400).toNat →
        x = { r with h := h, d := d } →
        t.cq.slots[i]? = some (some { x with
          soak := if s.img.soakThreshold ≤ x.mean s.img then min (r.soak + 1) 65535 else r.soak
          flags := { r.flags with
            modelLimit := r.flags.modelLimit || decide ((r.h : Int) + share - loss ≥ 40000000) ||
              decide (s.img.last.h ≤ x.specific)
            surfaceExcess := r.flags.surfaceExcess || decide (s.img.surfaceLimit < x.surface s.img)
            creditShort := r.flags.creditShort || s.ivi.latchedMark }
          self := if i = 0 then r.self.map (fun y => { y with
            accrued := clampInt (y.accrued + share - loss) (-40000000) 40000000 }) else r.self })) ∧
      t.counter .modelLimits = satAdd (s.counter .modelLimits)
        ((s.cq.slots.zip t.cq.slots).countP fun y =>
          y.1.any (fun r => !r.flags.modelLimit) && y.2.any (fun r => r.flags.modelLimit)) ∧
      t.counter .surfaceExcesses = satAdd (s.counter .surfaceExcesses)
        ((s.cq.slots.zip t.cq.slots).countP fun y =>
          y.1.any (fun r => !r.flags.surfaceExcess) && y.2.any (fun r => r.flags.surfaceExcess)) ∧
      t.counter .periods = satAdd (s.counter .periods) 1 ∧
      t.counter .energyUseful = satAdd (s.counter .energyUseful) useful ∧
      t.counter .energyUnplaced = satAdd (s.counter .energyUnplaced) (if occupied s.cq.slots then 0 else pool) ∧
      t.counter .feedbackInvalid = satAdd (s.counter .feedbackInvalid) (if e.feedbackValid then 0 else 1) ∧
      t.counter .feedbackSaturated = satAdd (s.counter .feedbackSaturated)
        (if e.feedbackValid ∧ 6000 < e.feedback.toNat then 1 else 0) ∧
      (s.isTail = false → t.tail = s.tail ∧ t.exu = s.exu ∧ t.head = s.head) ∧
      (s.isTail = true → u.TailChecked t s.tail ∧
        (u.checkSends s.tail t.exu.preview = none → t.head = s.head ∧ t.counter .callsSent = s.counter .callsSent ∧
          t.counter .callsRefused = s.counter .callsRefused) ∧
        (∀ k, u.checkSends s.tail t.exu.preview = some k →
          (s.isHead = true → u.HeadTakesCall t k (s.tail.counter + 1) ∧
            t.counter .callsSent = satAdd (s.counter .callsSent) 1) ∧
          (s.isHead = false → t.head = s.head ∧
            (s.hasRoom .up = true → s.upPort.localQ.length ≤ 6 →
              s.frame 0 (.call k (s.tail.counter + 1)) ∈ t.upPort.localQ ∧
              t.counter .callsSent = satAdd (s.counter .callsSent) 1) ∧
            (s.linkIsUp .up = false → t.upPort.localQ = s.upPort.localQ ∧
              t.counter .callsRefused = satAdd (s.counter .callsRefused) 1)))) ∧
      (∀ p, t.port p = (s.port p).offered (t.port p)) ∧
      t = { u with
        tau := t.tau, cq := t.cq, pdu := t.pdu, ivi := t.ivi, cru := t.cru, head := t.head, tail := t.tail
        exu := { s.exu with preview := t.exu.preview }, upPort := t.upPort, downPort := t.downPort, ltr := t.ltr
        counters := t.counters }

/-- R33: at a valid image the shares of a pool add up to at most the pool, what is left over is less than the number of occupied
slots, and every occupied slot takes the part of the pool that its weight has of all weights, rounded down. -/
def Obligations.SharesLeaveLessThanOnePerRecord : Prop :=
  ∀ (img : Image) (pool : Nat) (slots : List Slot), img.firstFailure = none → slots.length ≤ 8 → occupied slots = true →
    (shares img pool slots).length = slots.length ∧ (shares img pool slots).sum ≤ pool ∧
    pool - (shares img pool slots).sum < (slots.filter Option.isSome).length ∧
    (∀ i : Nat, i < slots.length → (shares img pool slots)[i]? =
      some (pool * (slotWeights img 0 slots).getD i 0 / (slotWeights img 0 slots).sum))

/-- R48 to R54, R57, R61: the demand of a period end and the latch that ends it. E_plan adds for each record, as updated, the
rate that meets its need in the periods it has left: in RUN by the stroke average, in HOLD and TRIPPED the hold horizon. That
sum is stored as it comes out, also above the range of R47's table (log 50). P_dem is the power that delivers it, under the
guard if a surface has reached T_guard and within the rating; c_need covers P_dem, and P_avail is what the credits allow. The
latch takes P_next and its mark, and puts it in force in RUN or HOLD with READY high; a period that was not ready is counted. -/
def Obligations.DemandIsLatchedAtTheBoundary : Prop :=
  ∀ (e : Env) (s u : State), u = s.observe e → u.periodDue = true →
    ∃ t, exec (.periodEnd e) s = .next t ∧
      (∀ targets : Vector Nat 16, s.tau.targets = some targets → t.pdu.ePlan =
        ((List.range s.cq.slots.length).map fun i => match t.cq.slots[i]? with
          | some (some r) =>
            ceilDiv (ceilDiv ((targets.get s.pos - r.specific) * r.mass) 100)
              (if s.ldu.state = .run then
                max 1 (ceilDiv (s.cq.iAvg - (u.now - s.cq.lastShift).toNat) 100) +
                  (s.cq.slots.length - 1 - i) * ceilDiv s.cq.iAvg 100
              else s.img.holdHorizon)
          | some none | none => 0).sum) ∧
      t.pdu.guardActive = t.cq.slots.any (fun x => x.any (fun r => decide (s.img.guardTemp ≤ r.surface s.img))) ∧
      t.pdu.pDem =
        min (if t.pdu.guardActive then min (ceilDiv (t.pdu.ePlan * 256) (s.img.etaEff s.pos s.tau.trim)) s.img.guardPower
             else ceilDiv (t.pdu.ePlan * 256) (s.img.etaEff s.pos s.tau.trim)) (s.img.pMax.get s.pos) ∧
      t.cru.need = some (ceilDiv t.pdu.pDem (s.img.creditKw * 10)) ∧
      t.pdu.pAvail = (s.cru.base + s.cru.loans) * (s.img.creditKw * 10) ∧
      t.pdu.creditClamped = decide (t.pdu.pAvail < t.pdu.pDem) ∧
      t.counter .creditClampedPeriods = satAdd (s.counter .creditClampedPeriods) (if t.pdu.creditClamped then 1 else 0) ∧
      t.ivi = { buffer := t.pdu.pNext, bufferMark := t.pdu.creditClamped
                latched := t.pdu.pNext, latchedMark := t.pdu.creditClamped
                inForce := if (s.ldu.state = .run ∨ s.ldu.state = .hold) ∧ s.pins.ready = true then t.pdu.pNext else 0
                enable := decide ((s.ldu.state = .run ∨ s.ldu.state = .hold) ∧ s.pins.ready = true)
                notReady := if s.pins.ready then false else if s.pins.fault then s.ivi.notReady else true } ∧
      t.counter .notReadyPeriods = satAdd (s.counter .notReadyPeriods) (if s.ivi.notReady then 1 else 0)

/-- R55: the ramp limits the rise of the setpoint from one period to the next. -/
def Obligations.RampLimitsTheRise : Prop :=
  ∀ (e : Env) (s u : State) , u = s.observe e → u.periodDue = true →
    ∃ t, exec (.periodEnd e) s = .next t ∧ t.pdu.pPrev = s.ivi.inForce ∧
      (s.ivi.inForce < min t.pdu.pDem t.pdu.pAvail →
        t.pdu.pNext = min (min t.pdu.pDem t.pdu.pAvail) (s.ivi.inForce + s.img.ramp) ∧
        t.counter .rampLimitedPeriods = satAdd (s.counter .rampLimitedPeriods)
          (if t.pdu.pNext < min t.pdu.pDem t.pdu.pAvail then 1 else 0)) ∧
      (min t.pdu.pDem t.pdu.pAvail ≤ s.ivi.inForce →
        t.pdu.pNext = min t.pdu.pDem t.pdu.pAvail ∧
        t.counter .rampLimitedPeriods = s.counter .rampLimitedPeriods) ∧
      t.pdu.pNext ≤ t.pdu.pDem ∧ t.pdu.pNext ≤ t.pdu.pAvail ∧ t.pdu.pNext ≤ s.img.pMax.get s.pos

/-- R69, R70: a period end at which a station of a line of two or more is short of credits, with no canvass open and no wait
running. With room on each port that is UP it opens a canvass. With no port UP, or with an offer refused, none opens and
CANVASS_NOT_OPENED is counted; after a refused offer the counter stays advanced. A tail's call check of the same period end may
send a CALL after it, and displace a frame (R105); that the CANVASS is offered first is the model's choice (log 43). -/
def Obligations.ShortStationOpensACanvass : Prop :=
  ∀ (e : Env) (s u : State) (mayCall : Bool), u = s.observe e → u.periodDue = true →
    mayCall = (s.isTail && decide (s.ldu.state = .run) && s.tail.outstanding.isNone) →
    ∃ t, exec (.periodEnd e) s = .next t ∧
      (mayCall = false ∨ s.upPort.localQ.length ≤ 6 → (∀ p, s.linkIsUp p = true → s.hasRoom p = true) →
        t.cru.loans = s.cru.loans) ∧
      (1 < s.ldu.n.getD 0 → s.cru.tracker = none → s.cru.backoff = none → s.cru.recanvass = none →
        s.cru.base + s.cru.loans < t.cru.need.getD 0 →
        (s.linkIsUp .up = true ∨ s.linkIsUp .down = true → (∀ p, s.linkIsUp p = true → s.hasRoom p = true) →
          t.cru = { s.cru with
            need := t.cru.need, counter := s.cru.counter + 1, loans := t.cru.loans
            tracker := some
              { number := s.cru.counter + 1, want := t.cru.need.getD 0 - (s.cru.base + s.cru.loans)
                expected := s.ldu.n.getD 0 - 1, received := 0, total := 0, conflict := false
                deadline := after u.now s.img.canvassTimeout } } ∧
          t.counter .canvassesOpened = satAdd (s.counter .canvassesOpened) 1 ∧
          (∀ p, s.linkIsUp p = true →
            (mayCall = false → (t.port p).localQ = s.joined p 255
              (.canvass s.originByte (s.cru.counter + 1)
                (BitVec.ofNat 16 (t.cru.need.getD 0 - (s.cru.base + s.cru.loans))))) ∧
            (s.upPort.localQ.length ≤ 6 →
              s.frame 255 (.canvass s.originByte (s.cru.counter + 1)
                (BitVec.ofNat 16 (t.cru.need.getD 0 - (s.cru.base + s.cru.loans)))) ∈ (t.port p).localQ))) ∧
        (s.linkIsUp .up = false → s.linkIsUp .down = false →
          t.cru = { s.cru with need := t.cru.need } ∧
          t.counter .canvassNotOpened = satAdd (s.counter .canvassNotOpened) 1) ∧
        (∀ p, s.linkIsUp p = true → (s.port p).check = .miswired ∨
            (∃ rest g, (s.port p).localQ = rest ++ [g] ∧ 7 ≤ rest.length ∧ frameClass g ≤ kindClass .canvass) →
          t.cru = { s.cru with need := t.cru.need, counter := s.cru.counter + 1, loans := t.cru.loans } ∧
          t.counter .canvassNotOpened = satAdd (s.counter .canvassNotOpened) 1)) ∧
      (t.cru.need.getD 0 ≤ s.cru.base + s.cru.loans ∨ s.ldu.n.getD 0 ≤ 1 ∨ s.cru.tracker ≠ none ∨ s.cru.backoff ≠ none ∨
          s.cru.recanvass ≠ none →
        t.cru = { s.cru with need := t.cru.need, loans := t.cru.loans } ∧
        t.counter .canvassesOpened = s.counter .canvassesOpened ∧
        t.counter .canvassNotOpened = s.counter .canvassNotOpened ∧
        (mayCall = false → ∀ p, (t.port p).localQ = (s.port p).localQ))

/-- R92: at the expiry of the motion deadline the station takes a self-stroke: the queue shifts with a self-stroke placeholder
of R7, the oldest unmatched edge is spent, and, at a station that is not the tail, a STROKE synthesised by this position is
offered downstream with what left the lead. At the tail what left the lead is decided or awaits its sample, and the preview and
the call check follow (R105, R106, R113, R114). -/
def Obligations.MotionDeadlineTakesASelfStroke : Prop :=
  ∀ (e : Env) (s u : State), u = s.observe e → s.tracks = true → due u.now s.tracker.motionDeadline = true →
    ∃ t, exec (.motionDeadlineExpiry e) s = .next t ∧
      t.cq = s.cq.shifted s.img.cadence u.now
        (some { serial := none, mass := s.img.nominalMass, h := s.upstreamTarget * s.img.nominalMass / 100, d := 0
                soak := 0, flags := { Flags.empty with lostTrack := true }, stations := []
                self := some { accrued := 0, createdAt := s.cq.lastStroke + 1 } }) ∧
      t.tracker = { s.tracker with
        unmatched := s.tracker.unmatched - 1
        motionDeadline := if 1 < s.tracker.unmatched then some (after u.now s.img.motionDeadline) else none } ∧
      t.counter .selfStrokes = satAdd (s.counter .selfStrokes) 1 ∧
      t.counter .placeholdersMade = satAdd (s.counter .placeholdersMade) 1 ∧
      t.counter .shifts = satAdd (s.counter .shifts) 1 ∧
      (s.isTail = false → t.tail = s.tail ∧ t.exu = s.exu ∧ t.tau = s.tau) ∧
      (s.isTail = true → u.LeadDecided t (s.cq.lastStroke + 1) ∧ u.TailChecked t u.tailLeft ∧ u.CallOffered t u.tailLeft) ∧
      (s.isTail = false → s.hasRoom .down = true →
        t.downPort.localQ = s.joined .down (BitVec.ofNat 8 (s.pos.val + 1))
          (.stroke (s.cq.lastStroke + 1) (BitVec.ofNat 8 s.pos.val)
            ((s.cq.lead.map (Record.finish s.img s.pos)).map Record.wire))) ∧
      (∀ p, t.port p = (s.port p).offered (t.port p)) ∧
      t = { u with
        cq := t.cq, tracker := t.tracker, tail := t.tail, exu := t.exu, tau := { s.tau with trim := t.tau.trim }
        upPort := t.upPort, downPort := t.downPort, ltr := t.ltr, counters := t.counters
        cru := { s.cru with loans := t.cru.loans } }

/-- R93: the expiry of the confirm deadline gives the oldest unconfirmed shift up: the count falls, the deadline restarts while
it is above 0, MOTION_MISSING is counted, and the records stay where they are. A motion edge after it is a new unmatched
edge once no shift waits for one, and leads to a self-stroke at the motion deadline if no frame follows it. -/
def Obligations.ConfirmDeadlineGivesUpAShift : Prop :=
  ∀ (e : Env) (s u : State), u = s.observe e → s.tracks = true → 0 < s.tracker.unconfirmed →
    due u.now s.tracker.confirmDeadline = true →
    ∃ t, exec (.confirmDeadlineExpiry e) s = .next t ∧
      t = { u.count .motionMissing with
        tracker := { s.tracker with
          unconfirmed := s.tracker.unconfirmed - 1
          confirmDeadline :=
            if 1 < s.tracker.unconfirmed then some (after u.now s.img.confirmWindow) else none } } ∧
      t.cq = s.cq ∧
      (s.tracker.unconfirmed = 1 → s.tracker.unmatched < 2 → ∀ e' : Env, ∃ v, exec (.motionEdge e') t = .next v ∧
        v.tracker.unmatched = s.tracker.unmatched + 1 ∧ v.tracker.unconfirmed = 0 ∧ v.cq = s.cq ∧
        (s.tracker.unmatched = 0 → v.tracker.motionDeadline = some (after (t.observe e').now s.img.motionDeadline)) ∧
        ∀ e'' : Env, due (v.observe e'').now v.tracker.motionDeadline = true → ∃ w,
          exec (.motionDeadlineExpiry e'') v = .next w ∧ w.cq.lastStroke = s.cq.lastStroke + 1 ∧
          w.tracker.unmatched = s.tracker.unmatched ∧
          w.counter .selfStrokes = satAdd (s.counter .selfStrokes) 1)

/-- R98, R100: the pusher timeout at the head: the stroke is not taken, the pusher enters FAULT with a completion owed, and the
PUSHER_FAULT cause is raised (R130); the mode follows. Its HOLD joins each port with room, but on a single-station line no frame
is offered; at a full list the first of the oldest heard entries goes (log 32). The end of the push pulse changes the pulse
alone. R118: the ends of the delivered pulse's high and low intervals; the next interval runs from the event that takes the
expiry (log 38). -/
def Obligations.PusherTimeoutAndPulseEnds : Prop :=
  ∀ (e : Env) (s u : State), u = s.observe e →
    (s.onLine = true → s.isHead = true → s.head.pusher = .pushing → due u.now s.head.timer = true →
      ∃ t, exec (.pusherTimeout e) s = .next t ∧
        t.head = { s.head with pusher := .fault, pulse := none, timer := none, owed := true } ∧
        t.hlu.hasOwn .pusherFault = true ∧ u.OwnRaised t .pusherFault ∧
        (s.hlu.hasOwn .pusherFault = false → s.isTail = false → ∀ p, s.hasRoom p = true →
          (t.port p).localQ = s.joined p 255 (.hold 6 s.originByte)) ∧
        (s.isTail = true → (∀ p, t.port p = s.port p) ∧ t.counter .holdsSent = s.counter .holdsSent) ∧
        t.ldu = { s.ldu with state := modeOf t.hlu.entries } ∧
        t.counter .pusherTimeouts = satAdd (s.counter .pusherTimeouts) 1 ∧
        (∀ p, t.port p = (s.port p).offered (t.port p)) ∧
        t = { u with
          head := t.head, hlu := t.hlu, ldu := t.ldu, upPort := t.upPort, downPort := t.downPort, ltr := t.ltr
          counters := t.counters, cru := { s.cru with loans := t.cru.loans } }) ∧
    (due u.now s.head.pulse = true →
      exec (.pushPulseEnd e) s = .next { u with head := { s.head with pulse := none } }) ∧
    (∀ x : Time, reached u.now x = true →
      (s.exu.pulse = .high x → exec (.deliveredPulseEnd e) s = .next
        { u with exu := { s.exu with pulse := .low (after u.now 100) } }) ∧
      (s.exu.pulse = .low x → 0 < s.exu.owed → exec (.deliveredPulseEnd e) s = .next
        { u with exu := { s.exu with pulse := .high (after u.now 100), owed := s.exu.owed - 1 } }) ∧
      (s.exu.pulse = .low x → s.exu.owed = 0 → exec (.deliveredPulseEnd e) s = .next
        { u with exu := { s.exu with pulse := .off } }))

/-- R106 to R108: the three timers of the tail. The call timer sends the outstanding call again and restarts; the fill timer
restarts and, with no call outstanding in RUN, sends a SELF call; the press-idle timer stops and raises PRESS_IDLE (R130), whose
HOLD joins each port with room, but on a line of one station no frame is offered; at a full list the first of the oldest heard
entries goes (log 32). R109: on a line of one station the head takes the call in the same event, and no frame is offered. A
timer restarts from the event that takes its expiry (log 38), and CALLS_SENT counts a call the queue took (log 39). -/
def Obligations.TailTimersAct : Prop :=
  ∀ (e : Env) (s u : State), u = s.observe e → s.onLine = true → s.isTail = true →
    (s.isHead = true →
      (∀ n k, s.tail.outstanding = some (n, k) → due u.now s.tail.callTimer = true →
        ∃ t, exec (.callTimerExpiry e) s = .next t ∧
          t.tail = { s.tail with callTimer := some (after u.now s.img.callTimeout) } ∧
          t.counter .callResends = satAdd (s.counter .callResends) 1 ∧ u.HeadTakesCall t k n ∧
          t = { u with tail := t.tail, head := t.head, counters := t.counters }) ∧
      (s.tail.fill = true → due u.now s.tail.fillTimer = true → s.tail.outstanding = none → s.ldu.state = .run →
        ∃ t, exec (.fillTimerExpiry e) s = .next t ∧
          t.tail = { s.tail with
            counter := s.tail.counter + 1, outstanding := some (s.tail.counter + 1, .self)
            callTimer := some (after u.now s.img.callTimeout), fillTimer := some (after u.now s.img.fillInterval) } ∧
          t.counter .callsSent = satAdd (s.counter .callsSent) 1 ∧
          t.counter .fillCalls = satAdd (s.counter .fillCalls) 1 ∧ u.HeadTakesCall t .self (s.tail.counter + 1) ∧
          t = { u with tail := t.tail, head := t.head, counters := t.counters })) ∧
    (s.isHead = false → ∀ n k, s.tail.outstanding = some (n, k) → due u.now s.tail.callTimer = true →
      ∃ t, exec (.callTimerExpiry e) s = .next t ∧
        t.tail = { s.tail with callTimer := some (after u.now s.img.callTimeout) } ∧
        (s.hasRoom .up = true → t.upPort.localQ = s.joined .up 0 (.call k n) ∧
          t.counter .callResends = satAdd (s.counter .callResends) 1) ∧
        (s.linkIsUp .up = false → t.upPort.localQ = s.upPort.localQ ∧
          t.counter .callsRefused = satAdd (s.counter .callsRefused) 1) ∧
        t = { u with
          tail := t.tail, upPort := s.upPort.offered t.upPort, ltr := t.ltr, counters := t.counters
          cru := { s.cru with loans := t.cru.loans } }) ∧
    (s.tail.fill = true → due u.now s.tail.fillTimer = true →
      (s.isHead = false → s.tail.outstanding = none → s.ldu.state = .run → ∃ t, exec (.fillTimerExpiry e) s = .next t ∧
        t.tail = { s.tail with
          counter := s.tail.counter + 1, outstanding := some (s.tail.counter + 1, .self)
          callTimer := some (after u.now s.img.callTimeout), fillTimer := some (after u.now s.img.fillInterval) } ∧
        (s.hasRoom .up = true → t.upPort.localQ = s.joined .up 0 (.call .self (s.tail.counter + 1)) ∧
          t.counter .callsSent = satAdd (s.counter .callsSent) 1) ∧
        t.counter .fillCalls = satAdd (s.counter .fillCalls) 1 ∧
        t = { u with
          tail := t.tail, upPort := s.upPort.offered t.upPort, ltr := t.ltr, counters := t.counters
          cru := { s.cru with loans := t.cru.loans } }) ∧
      (s.tail.outstanding ≠ none ∨ s.ldu.state ≠ .run → exec (.fillTimerExpiry e) s = .next
        { u with tail := { s.tail with fillTimer := some (after u.now s.img.fillInterval) } })) ∧
    (due u.now s.tail.pressIdle = true → ∃ t, exec (.pressIdleExpiry e) s = .next t ∧
      t.tail = { s.tail with pressIdle := none } ∧ t.hlu.hasOwn .pressIdle = true ∧
      u.OwnRaised t .pressIdle ∧
      (s.hlu.hasOwn .pressIdle = false → s.isHead = false → ∀ p, s.hasRoom p = true →
        (t.port p).localQ = s.joined p 255 (.hold 1 s.originByte)) ∧
      (s.isHead = true → (∀ p, t.port p = s.port p) ∧ t.counter .holdsSent = s.counter .holdsSent) ∧
      t.ldu = { s.ldu with state := modeOf t.hlu.entries } ∧
      t.counter .pressIdleHolds = satAdd (s.counter .pressIdleHolds) 1 ∧
      (∀ p, t.port p = (s.port p).offered (t.port p)) ∧
      t = { u with
        tail := t.tail, hlu := t.hlu, ldu := t.ldu, upPort := t.upPort, downPort := t.downPort, ltr := t.ltr
        counters := t.counters, cru := { s.cru with loans := t.cru.loans } })

/-- R116 to R124: at its sample deadline the awaiting billet takes the reading of the line, saturated, and is decided. PYRO_OUT
joins its reasons where there is no reading or the reading lies outside the window; the gate shows the verdict, and the exit
log gains the entry, losing its oldest if it is full. The error of a PASS joins the trim window; the eighth empties it, and an
average outside the deadband moves τ by a step if the TRIM is taken, or within the part on a line of one station. The tail's own
step compares no TRIM numbers (log 23). -/
def Obligations.SampleDecidesTheAwaitingBillet : Prop :=
  ∀ (e : Env) (s u : State) (a : Awaiting) (reading : Option Nat) (reasons : Reasons), u = s.observe e →
    s.exu.awaiting = some a → reached u.now a.deadline = true →
    reading = (if e.pyroValid then some (min e.pyro 1600) else none) →
    reasons = (if reading.any (fun v => decide (s.img.pyroLow ≤ v ∧ v ≤ s.img.pyroHigh)) then a.billet.reasons
      else { a.billet.reasons with pyroOut := true }) →
    ∃ t, exec (.sampleDeadlineExpiry e) s = .next t ∧ t.exu.awaiting = none ∧ t.exu.gate = reasons.pass ∧
      t.exu.log = (if s.exu.log.length < 64 then s.exu.log else s.exu.log.drop 1) ++
        [{ time := u.now, stroke := a.billet.stroke, serial := a.billet.record.serial, pass := reasons.pass
           reasons := reasons, mass := a.billet.record.mass, mean := a.billet.mean, surface := a.billet.surface
           core := a.billet.core, soak := a.billet.record.soak, reading := reading, flags := a.billet.record.flags
           stations := a.billet.record.stations }] ∧
      t.counter .exitLogEntries = satAdd (s.counter .exitLogEntries) 1 ∧
      t.counter .exitLogOverwrites = satAdd (s.counter .exitLogOverwrites) (if s.exu.log.length < 64 then 0 else 1) ∧
      t.counter .gatePass = satAdd (s.counter .gatePass) (if reasons.pass then 1 else 0) ∧
      t.counter .gateReject = satAdd (s.counter .gateReject) (if reasons.pass then 0 else 1) ∧
      t.counter .pyroInvalid = satAdd (s.counter .pyroInvalid) (if e.pyroValid then 0 else 1) ∧
      (reasons.pass = false → t.exu.pulse = s.exu.pulse ∧ t.exu.owed = s.exu.owed ∧ t.exu.window = s.exu.window ∧
        t.tail = s.tail ∧ t.tau = s.tau ∧ t.upPort = s.upPort) ∧
      (reasons.pass = true → s.exu.pulse = .off →
        t.exu.pulse = .high (after u.now 100) ∧ t.exu.owed = s.exu.owed) ∧
      (reasons.pass = true → s.exu.pulse ≠ .off →
        t.exu.pulse = s.exu.pulse ∧ t.exu.owed = (if s.exu.owed < 3 then s.exu.owed + 1 else s.exu.owed)) ∧
      (reasons.pass = true → t.tail = (if s.tail.fill then
          { s.tail with fill := false, fillTimer := none, pressIdle := some (after u.now s.img.pressIdleTimeout) }
        else s.tail)) ∧
      (reasons.pass = true → s.exu.window.length < 7 → ∀ v, reading = some v →
        t.exu.window = s.exu.window ++ [(v : Int) - a.billet.surface] ∧ t.tau = s.tau ∧ t.upPort = s.upPort) ∧
      (reasons.pass = true → 7 ≤ s.exu.window.length → ∀ (v : Nat) (avg : Int), reading = some v →
        avg = Int.tdiv (s.exu.window ++ [(v : Int) - a.billet.surface]).sum 8 →
        t.exu.window = [] ∧ t.counter .trimWindows = satAdd (s.counter .trimWindows) 1 ∧
        (-(s.img.trimDeadband : Int) ≤ avg → avg ≤ s.img.trimDeadband →
          t.tau = s.tau ∧ t.exu.counter = s.exu.counter ∧ t.upPort = s.upPort) ∧
        (∀ step : TrimStep, step = .raise ∧ avg > s.img.trimDeadband ∨ step = .lower ∧ avg < -(s.img.trimDeadband : Int) →
          t.exu.counter = s.exu.counter + 1 ∧
          (s.isSingle = true ∨ s.hasRoom .up = true →
            t.tau = { s.tau with
              trim := min (max (s.tau.trim + (match step with | .raise => 1 | .lower => -1)) (-32)) 31 } ∧
            t.counter .trimsApplied = satAdd (s.counter .trimsApplied) 1 ∧
            t.counter .trimsSentUp = satAdd (s.counter .trimsSentUp) (if step = .raise then 1 else 0) ∧
            t.counter .trimsSentDown = satAdd (s.counter .trimsSentDown) (if step = .lower then 1 else 0)) ∧
          (s.isSingle = true → t.upPort = s.upPort) ∧
          (s.isSingle = false → s.hasRoom .up = true →
            t.upPort.localQ = s.joined .up 255 (.trim step (s.exu.counter + 1))) ∧
          (s.isSingle = false → s.linkIsUp .up = false → t.tau = s.tau ∧ t.upPort.localQ = s.upPort.localQ ∧
            t.counter .trimsRefused = satAdd (s.counter .trimsRefused) 1))) ∧
      t = { u with
        exu := t.exu, tail := t.tail, tau := { s.tau with trim := t.tau.trim }, upPort := s.upPort.offered t.upPort
        ltr := t.ltr, counters := t.counters, cru := { s.cru with loans := t.cru.loans } }

/-- R75 to R77: the deadline of a canvass closes it; a station still short waits, after a conflict for its backoff, else for the
recanvass interval. The expiry of either wait stops its timer and does nothing else. -/
def Obligations.CanvassDeadlineAndWaits : Prop :=
  ∀ (e : Env) (s u : State), u = s.observe e →
    (∀ c, s.cru.tracker = some c → reached u.now c.deadline = true → exec (.canvassDeadlineExpiry e) s = .next
      (if s.cru.need.getD 0 ≤ s.cru.base + s.cru.loans then
        { u.count .canvassTimeouts with cru := { s.cru with tracker := none } }
      else if c.conflict then
        { (u.count .canvassTimeouts).count .backoffs with
          cru := { s.cru with
            tracker := none, backoff := some (after u.now ((s.pos.val + 1) * s.img.backoffUnit)) } }
      else
        { (u.count .canvassTimeouts).count .recanvassWaits with
          cru := { s.cru with tracker := none, recanvass := some (after u.now s.img.recanvassInterval) } })) ∧
    (due u.now s.cru.backoff = true →
      exec (.backoffExpiry e) s = .next { u with cru := { s.cru with backoff := none } }) ∧
    (due u.now s.cru.recanvass = true →
      exec (.recanvassExpiry e) s = .next { u with cru := { s.cru with recanvass := none } })

/-- R131, R137, R98, R139: the refresh timer repeats the own causes in the order of the list, on a single-station line too (log
52), and runs again from the event (log 38); the list stays as it is with the mode; a heard entry at its expiry leaves the list,
is counted, and the mode follows. A head whose list is empty then, with a pending call and the pusher IDLE, starts its oldest
call in the same event. -/
def Obligations.RefreshAndHoldExpiry : Prop :=
  ∀ (e : Env) (s u : State), u = s.observe e →
    (due u.now s.hlu.refresh = true → ∃ t, exec (.refreshTimerExpiry e) s = .next t ∧
      t.hlu = { s.hlu with
        refresh := if s.hlu.entries.any (·.own) then some (after u.now 500) else none } ∧
      (∀ p, s.linkIsUp p = true → (s.port p).check ≠ .miswired →
        (s.port p).localQ.length + (s.hlu.entries.filter (·.own)).length ≤ 8 →
        (t.port p).localQ = (s.hlu.entries.filter (·.own)).foldl
          (fun q x => insertByClass (s.frame 255 (.hold (causeCode x.cause) s.originByte)) q) (s.port p).localQ) ∧
      ((∀ p, s.linkIsUp p = true → (s.port p).check ≠ .miswired ∧
          (s.port p).localQ.length + (s.hlu.entries.filter (·.own)).length ≤ 8) →
        t.counter .holdsSent = satAdd (s.counter .holdsSent) ((s.hlu.entries.filter (·.own)).length * s.linksUp)) ∧
      (∀ p, s.linkIsUp p = false → t.port p = s.port p) ∧
      (∀ p, t.port p = (s.port p).offered (t.port p)) ∧
      t = { u with
        hlu := t.hlu, upPort := t.upPort, downPort := t.downPort, ltr := t.ltr, counters := t.counters
        cru := { s.cru with loans := t.cru.loans } }) ∧
    (∀ (c : Cause) (o : Byte), s.onLine = true → u.heardExpired c o = true →
      ∃ t, exec (.holdExpiry e c o) s = .next t ∧
        t.hlu = { s.hlu with
          entries := s.hlu.entries.filter (fun x => !(!x.own && x.cause == c && x.origin == o)) } ∧
        t.ldu = { s.ldu with state := modeOf t.hlu.entries } ∧
        t.counter .holdExpiries = satAdd (s.counter .holdExpiries) 1 ∧ u.HeadStarts t s.head ∧
        t = { u with hlu := t.hlu, ldu := t.ldu, head := t.head, counters := t.counters })

/-- R165, R167: the timers of DISCOVER. At the settle expiry a station whose UP link is DOWN and which has seen no on-line
neighbour finds itself head: with the DOWN link UP it takes position 0, offers its POS and starts the POS timer; with the DOWN
link DOWN it is a line of one station. Any other station waits. The HELLO and POS timers repeat their frames. A repeat runs from
the event that takes the expiry (log 38). The unused bits of a HELLO's marks are 0 (log 45). -/
def Obligations.DiscoverTimersAct : Prop :=
  ∀ (e : Env) (s u : State), u = s.observe e → s.ldu.state = .discover →
    (due u.now s.ldu.settle = true → s.linkIsUp .up = true ∨ s.ldu.seen = true →
      exec (.settleExpiry e) s = .next { u with ldu := { s.ldu with settle := none } }) ∧
    (due u.now s.ldu.settle = true → s.linkIsUp .up = false → s.ldu.seen = false → s.hasRoom .down = true →
      ∃ t, exec (.settleExpiry e) s = .next t ∧
        t.ldu = { s.ldu with
          settle := none, headClaim := true, position := some 0, posTimer := some (after u.now 500) } ∧
        t.downPort.localQ = insertByClass
          { src := 0, dst := 255
            payload := .pos 0 (BitVec.ofNat 16 s.img.recipeId) (BitVec.ofNat 8 s.img.version) true }
          s.downPort.localQ ∧
        t.counter .posSent = satAdd (s.counter .posSent) 1 ∧
        t = { u with
          ldu := t.ldu, downPort := s.downPort.offered t.downPort, ltr := t.ltr, counters := t.counters }) ∧
    (due u.now s.ldu.settle = true → s.linkIsUp .up = false → s.ldu.seen = false → s.linkIsUp .down = false →
      ∃ t, exec (.settleExpiry e) s = .next t ∧ t.ldu.n = some 1 ∧ t.ldu.position = some 0 ∧ t.ldu.headClaim = false ∧
        (s.img.loanPool 1 < 0 → t.ldu.state = .fault ∧ t.ldu.reason = some .budget) ∧
        (0 ≤ s.img.loanPool 1 → t.onLine = true ∧ t.ldu.role = some .headTail ∧
          t.cru.loans = (s.img.loanPool 1).toNat ∧ t.cq.slots = List.replicate (s.img.slotCount.get 0) none ∧
          t.tail.fill = true ∧ t.tau.periodStart = some u.now)) ∧
    (due u.now s.ldu.helloTimer = true → ∃ t, exec (.helloTimerExpiry e) s = .next t ∧
      t.ldu = { s.ldu with helloTimer := some (after u.now 500) } ∧
      (∀ p, s.hasRoom p = true → ∃ src stroke, (t.port p).localQ = insertByClass
        { src := src, dst := 255
          payload := .hello { position := s.positionByte, state := .discover, recipe := BitVec.ofNat 16 s.img.recipeId,
                              lastStroke := stroke, newestSerial := 0, n := 0, marks := 1 } }
        (s.port p).localQ) ∧
      (∀ p, t.port p = (s.port p).offered (t.port p)) ∧
      t = { u with
        ldu := t.ldu, upPort := t.upPort, downPort := t.downPort, ltr := t.ltr, counters := t.counters
        cru := { s.cru with loans := t.cru.loans }, freeIndex := t.freeIndex }) ∧
    (due u.now s.ldu.posTimer = true → s.ldu.headClaim = true → ∃ t, exec (.posTimerExpiry e) s = .next t ∧
      t.ldu = { s.ldu with posTimer := some (after u.now 500) } ∧
      (s.hasRoom .down = true → t.downPort.localQ = s.joined .down 255
        (.pos 0 (BitVec.ofNat 16 s.img.recipeId) (BitVec.ofNat 8 s.img.version) true)) ∧
      t = { u with
        ldu := t.ldu, downPort := s.downPort.offered t.downPort, ltr := t.ltr, counters := t.counters
        cru := { s.cru with loans := t.cru.loans } })

/-! ### The links -/

/-- R147, R173: a link comes UP outside its break period: the error run is 0, the silence timer runs, the receiver hunts, the
change is counted, and no hold cause goes. An on-line station whose check of that side is PENDING offers its HELLO and starts
the repeats; the repeats of a check go on at each expiry while it is not PASSED, at a MISWIRED port too. A repeat runs from the
event that takes the expiry (log 38). -/
def Obligations.LinkUpStartsTheCheck : Prop :=
  ∀ (e : Env) (p : Port) (s u : State), u = s.observe e →
    (s.linkIsUp p = false → (s.port p).inBreak = false → ∃ t, exec (.linkUp e p) s = .next t ∧
      (t.port p).link = .up ∧ (t.port p).errorRun = 0 ∧ (t.port p).silence = some (after u.now 2) ∧
      (t.port p).receiver = .hunting ∧ (t.port p).transmitter = (s.port p).transmitter ∧
      (t.port p).forward = (s.port p).forward ∧ (t.port p).check = (s.port p).check ∧
      t.portCounter p .linkUps = satAdd (s.portCounter p .linkUps) 1 ∧
      t.port p.other = s.port p.other ∧
      (s.onLine = true → s.hasNeighbour p = true → (s.port p).check = .pending → (s.port p).localQ.length < 8 →
        (t.port p).checkTimer = some (after u.now 500) ∧
        (t.port p).localQ = s.joined p 255 (s.helloPayload true) ∧
        t.counter .hellosSent = satAdd (s.counter .hellosSent) 1) ∧
      (s.onLine = false ∨ s.hasNeighbour p = false → (t.port p).localQ = (s.port p).localQ) ∧
      t = { u with
        upPort := t.upPort, downPort := t.downPort, ltr := t.ltr, counters := t.counters, freeIndex := t.freeIndex
        cru := { s.cru with loans := t.cru.loans } }) ∧
    (due u.now (s.port p).checkTimer = true → s.onLine = true → s.hasNeighbour p = true → (s.port p).check ≠ .passed →
      s.linkIsUp p = true → (s.port p).localQ.length < 8 → ∃ t, exec (.helloCheckRepeat e p) s = .next t ∧
        t.port p = { (s.port p).offered (t.port p) with checkTimer := some (after u.now 500) } ∧
        (t.port p).localQ = s.joined p 255 (s.helloPayload true) ∧ t.port p.other = s.port p.other ∧
        t.counter .hellosSent = satAdd (s.counter .hellosSent) 1 ∧
        t = { u with
          upPort := t.upPort, downPort := t.downPort, ltr := t.ltr, counters := t.counters, freeIndex := t.freeIndex })

/-- R132, R148, R149, R82: a link goes DOWN at its eighth error character in a row, or at the expiry of its silence timer. The
port begins a break period and holds no frame; every frame it held is counted, with the credits of the station's own. A PASSED
check becomes PENDING, and at an on-line station with a neighbour on that side the LINK_LOSS cause stands; if it is new, it
joins the list, at a full list in the place of the first of the oldest heard entries (log 32), a stopped refresh timer starts,
and its HOLD is offered on the other port (R130); and the mode follows. R162: the frames lost are offered to the Link Trace in
their order; that the frame which the eighth error character closes comes before them is the model's choice (log 22). R167: a
station that waits in DISCOVER for its POS makes the head decision when its UP link goes DOWN. That the error run becomes 0 is
the model's choice (log 46). -/
def Obligations.LinkDownEmptiesThePort : Prop :=
  ∀ (e : Env) (p : Port) (s u : State), u = s.observe e → s.linkIsUp p = true →
    ∀ c ∈ [Instr.linkDownErrors e p, Instr.linkDownSilence e p],
      (c = .linkDownSilence e p → due u.now (s.port p).silence = true) → ∃ t, exec c s = .next t ∧
        (t.port p).link = .down ∧ (t.port p).validRun = 0 ∧ (t.port p).errorRun = 0 ∧ (t.port p).silence = none ∧
        (t.port p).receiver = .hunting ∧ (t.port p).transmitter = .brk (after u.now 4) ∧ (t.port p).forward = [] ∧
        (t.port p).localQ = [] ∧ (t.port p).starvation = 0 ∧ (t.port p).checkTimer = none ∧
        (t.port p).check = (if (s.port p).check = .passed then .pending else (s.port p).check) ∧
        t.portCounter p .linkLossDiscards =
          satAdd (s.portCounter p .linkLossDiscards) (s.port p).heldFrames.length ∧
        t.counter .creditsDiscarded = satAdd (s.counter .creditsDiscarded)
          (((s.port p).heldFrames.filter Prod.snd).map (fun f => carriedCredits f.1)).sum ∧
        t.portCounter p .linkDownsErrors =
          satAdd (s.portCounter p .linkDownsErrors) (if c = .linkDownErrors e p then 1 else 0) ∧
        t.portCounter p .linkDownsSilence =
          satAdd (s.portCounter p .linkDownsSilence) (if c = .linkDownErrors e p then 0 else 1) ∧
        (t.port p.other).forward = (s.port p.other).forward ∧
        (t.port p.other).link = (s.port p.other).link ∧
        (s.onLine = true → s.hasNeighbour p = true → t.hlu.hasOwn (lossCause p) = true ∧
          t.ldu = { s.ldu with state := modeOf t.hlu.entries }) ∧
        (s.onLine = true → s.hasNeighbour p = true → s.hlu.hasOwn (lossCause p) = false →
          u.OwnRaised t (lossCause p) ∧
          (s.isSingle = false → s.hasRoom p.other = true → (t.port p.other).localQ =
            s.joined p.other 255 (.hold (causeCode (lossCause p)) s.originByte)) ∧
          (s.linkIsUp p.other = false ∨ s.isSingle = true → t.port p.other = s.port p.other)) ∧
        (s.onLine = true → s.hlu.hasOwn (lossCause p) = true → t.hlu = s.hlu ∧ t.port p.other = s.port p.other) ∧
        (p = .up → s.ldu.state = .discover → s.ldu.settle = none → s.ldu.position = none → s.ldu.seen = false →
          (s.hasRoom .down = true →
            t.ldu = { s.ldu with headClaim := true, position := some 0, posTimer := some (after u.now 500) } ∧
            t.downPort.localQ = insertByClass
              { src := 0, dst := 255
                payload := .pos 0 (BitVec.ofNat 16 s.img.recipeId) (BitVec.ofNat 8 s.img.version) true }
              s.downPort.localQ ∧
            t.counter .posSent = satAdd (s.counter .posSent) 1) ∧
          (s.linkIsUp .down = false → t.ldu.n = some 1 ∧ t.ldu.position = some 0 ∧
            (s.img.loanPool 1 < 0 → t.ldu.state = .fault ∧ t.ldu.reason = some .budget) ∧
            (0 ≤ s.img.loanPool 1 → t.onLine = true ∧ t.ldu.role = some .headTail ∧
              t.cq.slots = List.replicate (s.img.slotCount.get 0) none))) ∧
        (s.onLine = false → p = .down ∨ s.ldu.state ≠ .discover ∨ s.ldu.settle ≠ none ∨ s.ldu.position ≠ none ∨
          s.ldu.seen = true → t.ldu = s.ldu ∧ t.hlu = s.hlu ∧ t.port p.other = s.port p.other ∧
            t.ltr = (u.tracesLoss p (c = .linkDownErrors e p)).ltr) ∧
        (s.onLine = true →
          s.hasNeighbour p = false ∨ s.hlu.hasOwn (lossCause p) = true ∨ s.linkIsUp p.other = false ∨ s.isSingle = true →
          t.ltr = (u.tracesLoss p (c = .linkDownErrors e p)).ltr) ∧
        (s.onLine = true → t.cq = s.cq ∧ t.exu = s.exu ∧ t.tail = s.tail ∧ t.ivi = s.ivi ∧ t.tau = s.tau) ∧
        (s.onLine = true → s.hasNeighbour p = false → t.hlu = s.hlu ∧ t.ldu = s.ldu)

/-- R145, R160: the end of a break period, and the egress choice of a transmitter that comes free, from idles and at the end of
a frame and its idle, which is counted, at the time its characters give (log 34): the local head goes when the forward queue is
empty, when its class has priority, or when eight forward frames have passed it; else the forward head goes; with both queues
empty it idles. A local frame that its class sends is no override, at a count of 8 too (log 54). All this holds of a port marked
MISWIRED too, whose frames queued till then are sent, which is the model's choice (log 48). -/
def Obligations.TransmitterEvents : Prop :=
  ∀ (e : Env) (p : Port) (s u : State), u = s.observe e →
    (∀ x, (s.port p).transmitter = .brk x → reached u.now x = true →
      exec (.breakPeriodEnd e p) s = .next (u.setPort p { s.port p with transmitter := .idling })) ∧
    ((s.port p).transmitter = .idling → ∃ y, exec (.transmitterFree e p) s = .next (u.setPort p y) ∧
      (s.port p).Sends y u.micros) ∧
    (∀ f own began, (s.port p).transmitter = .sending f own began → began + 6 * (frameLength f + 1) ≤ u.micros →
      ∃ y, exec (.transmitterFree e p) s = .next (u.setPort p y) ∧
        LinkPort.Sends
          { (s.port p).countBy .framesSent 1 with transmitter := .idling, sendEnd := some (began + 6 * frameLength f) }
          y u.micros)

/-- R144, R147, R148, R150 to R152: what a character does. An error character on an UP link ends an open frame and adds to the
error run, and the eighth in a row takes the link DOWN; an idle or a frame start ends an open frame with LENGTH_ERROR, and the
frame start opens the next. A data character outside a frame is stray; inside one it is collected, and drops the frame with
LENGTH_ERROR where it gives a length above 96. The last one completes the frame: a wrong CRC, an unknown kind or a header error
drops it with its count, and any other frame is taken as the frame command takes it (log 5). R162: a frame dropped is offered to
the Link Trace with its error kind and what had arrived. On a DOWN link outside the break period the sixteenth valid character
in a row brings the link UP, and an error character starts the run again; a data character is stray there too, in the break
period and out of it. -/
def Obligations.CharactersActByTheirSort : Prop :=
  ∀ (e : Env) (p : Port) (ch : RawChar) (s u : State), u = s.observe e →
    ∀ c ∈ [Instr.characterReceived e p ch, Instr.frameDropped e p ch],
      (s.linkIsUp p = true →
        (∀ got, (s.port p).receiver = .inFrame got → sortChar ch = .error → (s.port p).errorRun < 7 →
          ∃ t, exec c s = .next t ∧ t.ltr = (u.traceDrop p .charError (viewOfBytes got)).ltr ∧
            t.port p = { ((s.port p).countBy .charErrors 1).countBy .frameCharErrors 1 with
              receiver := .hunting, errorRun := (s.port p).errorRun + 1, recvEnd := some u.micros } ∧
            t = { u with upPort := t.upPort, downPort := t.downPort, ltr := t.ltr } ∧
            t.port p.other = s.port p.other) ∧
        (∀ got, (s.port p).receiver = .inFrame got → sortChar ch = .idle → ∃ t, exec c s = .next t ∧
          t.ltr = (u.traceDrop p .lengthError (viewOfBytes got)).ltr ∧
          t.port p = { (s.port p).countBy .lengthErrors 1 with
            receiver := .hunting, errorRun := 0, silence := some (after u.now 2), recvEnd := some u.micros } ∧
          t = { u with upPort := t.upPort, downPort := t.downPort, ltr := t.ltr } ∧ t.port p.other = s.port p.other) ∧
        (∀ got k, (s.port p).receiver = .inFrame got → sortChar ch = .start k → ∃ t, exec c s = .next t ∧
          t.ltr = (u.traceDrop p .lengthError (viewOfBytes got)).ltr ∧
          t.port p = { (s.port p).countBy .lengthErrors 1 with
            receiver := .inFrame [k], errorRun := 0, silence := some (after u.now 2), recvEnd := some u.micros } ∧
          t = { u with upPort := t.upPort, downPort := t.downPort, ltr := t.ltr } ∧ t.port p.other = s.port p.other) ∧
        ((s.port p).receiver = .hunting →
          (∀ k, sortChar ch = .start k → exec c s = .next (u.setPort p { s.port p with
            receiver := .inFrame [k], errorRun := 0, silence := some (after u.now 2) })) ∧
          (sortChar ch = .idle → exec c s = .next (u.setPort p { s.port p with
            errorRun := 0, silence := some (after u.now 2) })) ∧
          (∀ b, sortChar ch = .data b → exec c s = .next (u.setPort p { (s.port p).countBy .strayData 1 with
            errorRun := 0, silence := some (after u.now 2) })) ∧
          (sortChar ch = .error → (s.port p).errorRun < 7 → exec c s = .next
            (u.setPort p { (s.port p).countBy .charErrors 1 with errorRun := (s.port p).errorRun + 1 }))) ∧
        (∀ got b, (s.port p).receiver = .inFrame got → sortChar ch = .data b →
          (got.length < 4 → exec c s = .next (u.setPort p { s.port p with
            receiver := .inFrame (got ++ [b]), errorRun := 0, silence := some (after u.now 2) })) ∧
          (∀ len : Byte, (got ++ [b])[4]? = some len →
            (96 < len.toNat → ∃ t, exec c s = .next t ∧ u.DropsFrame t p .lengthErrors .lengthError (viewOfBytes (got ++ [b]))) ∧
            (len.toNat ≤ 96 → got.length + 1 < len.toNat + 7 → exec c s = .next (u.setPort p { s.port p with
              receiver := .inFrame (got ++ [b]), errorRun := 0, silence := some (after u.now 2) })) ∧
            (len.toNat ≤ 96 → len.toNat + 7 ≤ got.length + 1 → ∀ body : List Byte,
              body = (got ++ [b]).take (got.length - 1) →
              (crc body ≠ BitVec.ofNat 16 (ofBytes ((got ++ [b]).drop (got.length - 1))) →
                ∃ t, exec c s = .next t ∧ u.DropsFrame t p .crcErrors .crcError (viewOfBytes (got ++ [b]))) ∧
              (crc body = BitVec.ofNat 16 (ofBytes ((got ++ [b]).drop (got.length - 1))) →
                ((got[0]?).bind kindOfCode = none → ∃ t, exec c s = .next t ∧ u.DropsFrame t p .unknownKinds .unknownKind (viewOfBytes (got ++ [b]))) ∧
                (∀ k, (got[0]?).bind kindOfCode = some k →
                  (parsePayload k (body.drop 5) = none ∨ got[1]? ≠ some (header1 p k) →
                    ∃ t, exec c s = .next t ∧ u.DropsFrame t p .headerErrors .headerError (viewOfBytes (got ++ [b]))) ∧
                  (∀ (x : Payload) (src dst : Byte), parsePayload k (body.drop 5) = some x →
                    got[1]? = some (header1 p k) → got[2]? = some src → got[3]? = some dst →
                    (headerOk p ⟨src, dst, x⟩ = false → ∃ t, exec c s = .next t ∧
                      u.DropsFrame t p .headerErrors .headerError (viewOfFrame ⟨src, dst, x⟩)) ∧
                    exec c s = exec (frameCommand e ⟨p, src, dst⟩ x) s)))))) ∧
        (sortChar ch = .error → (s.port p).errorRun = 7 → exec c s = exec (.linkDownErrors e p) s ∧
          ∃ t, exec c s = .next t ∧ (t.port p).link = .down ∧
            t.portCounter p .charErrors = satAdd (s.portCounter p .charErrors) 1 ∧
            t.portCounter p .linkDownsErrors = satAdd (s.portCounter p .linkDownsErrors) 1 ∧
            (∀ got, (s.port p).receiver = .inFrame got →
              t.portCounter p .frameCharErrors = satAdd (s.portCounter p .frameCharErrors) 1))) ∧
      (s.linkIsUp p = false →
        (sortChar ch = .error → exec c s = .next
          (u.setPort p { (s.port p).countBy .charErrors 1 with validRun := 0 })) ∧
        (sortChar ch ≠ .error → ∀ x : LinkPort,
          x = (match sortChar ch with
            | .data _ => (s.port p).countBy .strayData 1
            | _ => s.port p) →
          ((s.port p).inBreak = true → exec c s = .next (u.setPort p x)) ∧
          ((s.port p).inBreak = false → (s.port p).validRun < 15 → exec c s = .next
            (u.setPort p { x with validRun := (s.port p).validRun + 1 })) ∧
          ((s.port p).inBreak = false → (s.port p).validRun = 15 →
            ∃ t, exec c s = .next t ∧ (t.port p).link = .up ∧ (t.port p).receiver = .hunting ∧
              t.portCounter p .strayData = satAdd (s.portCounter p .strayData)
                (match sortChar ch with
                 | .data _ => 1
                 | _ => 0))))

/-! ### Routing (R153 to R157) -/

/-- R154 to R157: at an on-line station an addressed frame for another position goes on: it joins the onward port's forward
queue where the port can carry it and has room, and is dropped and counted otherwise; no unit sees it. A broadcast goes on as it
came, whatever its copy does at this station. A MISWIRED port takes in nothing but HELLO; a station in CONFIG carries every
frame on but POS and HELLO; one in DISCOVER or FAULT carries COUNT on, by the ports as they stand once it has taken the COUNT, and
drops the frames of the running line. What is dropped for one of these is counted DROPPED_STATE and does nothing else. The ports at which FRAMES_CONSUMED, DROPPED_STATE and
FRAMES_FORWARDED are counted are the model's choice (log 51). R162: each is offered to the Link Trace as the table gives it. -/
def Obligations.RoutedFramesGoOn : Prop :=
  (∀ (e : Env) (a : Arrival) (f : Frame) (c : Instr) (s u : State), u = s.observe e →
    ((∃ n b x, c = .stroke e a n b x ∧ f.payload = .stroke n b x) ∨ (∃ k n, c = .call e a k n ∧ f.payload = .call k n) ∨
      (∃ n k m, c = .reply e a n k m ∧ f.payload = .reply n k m) ∨ (∃ n m, c = .ret e a n m ∧ f.payload = .ret n m)) →
    f.src = a.src → f.dst = a.dst → s.admits a f.payload = true → a.dst ≠ s.originByte →
    ∃ t, exec c s = .next t ∧
      t.port a.port = ((s.port a.port).countBy .framesGood 1).received u.micros u.now ∧
      t.port a.port.other =
        (if s.canCarry a.port.other then
          (if (s.port a.port.other).forward.length < 4 then
            { (s.port a.port.other).countBy .framesForwarded 1 with
              forward := (s.port a.port.other).forward ++ [f] }
          else (s.port a.port.other).countBy .forwardOverrun 1)
        else (s.port a.port.other).countBy .misrouted 1) ∧
      t.ltr = (u.tracesOnward a.port f false).ltr ∧
      t = { u with upPort := t.upPort, downPort := t.downPort, ltr := t.ltr }) ∧
  (∀ (e : Env) (a : Arrival) (f : Frame) (c : Instr) (s u : State), u = s.observe e →
    ((∃ x o, c = .hold e a x o ∧ f.payload = .hold x o) ∨ (∃ x o, c = .clear e a x o ∧ f.payload = .clear x o) ∨
      (∃ o n w, c = .canvass e a o n w ∧ f.payload = .canvass o n w) ∨
      (∃ st n, c = .trim e a st n ∧ f.payload = .trim st n) ∨
      (∃ n m, c = .count e a n m ∧ f.payload = .count n m)) →
    f.src = a.src → f.dst = a.dst → s.admits a f.payload = true →
    ∃ t, exec c s = .next t ∧
      t.portCounter a.port .framesGood = satAdd (s.portCounter a.port .framesGood) 1 ∧
      t.portCounter a.port .framesConsumed = satAdd (s.portCounter a.port .framesConsumed) 1 ∧
      (t.port a.port.other).forward =
        (if s.canCarry a.port.other = true ∧ (s.port a.port.other).forward.length < 4 then
          (s.port a.port.other).forward ++ [f] else (s.port a.port.other).forward) ∧
      t.portCounter a.port.other .framesForwarded = satAdd (s.portCounter a.port.other .framesForwarded)
        (if s.canCarry a.port.other = true ∧ (s.port a.port.other).forward.length < 4 then 1 else 0) ∧
      (frameKind f ≠ .canvass → t.ltr = (u.tracesOnward a.port f true).ltr) ∧
      (t.port a.port).forward = (s.port a.port).forward) ∧
  (∀ (e : Env) (a : Arrival) (x : Payload) (f : Frame) (k : Kind) (s u : State), u = s.observe e →
    s.linkIsUp a.port = true → f = ⟨a.src, a.dst, x⟩ → k = frameKind f → headerOk a.port f = true →
    ((s.port a.port).check = .miswired ∧ k ≠ .hello ∨ s.ldu.state = .config ∧ (k = .pos ∨ k = .hello) ∨
      (s.ldu.state = .discover ∨ s.ldu.state = .fault) ∧ k ≠ .pos ∧ k ≠ .hello ∧ k ≠ .count →
      ∃ t, exec (frameCommand e a x) s = .next t ∧
        t.port a.port = (((s.port a.port).countBy .framesGood 1).countBy .droppedState 1).received u.micros u.now ∧
        t.port a.port.other = s.port a.port.other ∧ t.ltr = (u.traceDrop a.port .state (viewOfFrame f)).ltr ∧
        t = { u with upPort := t.upPort, downPort := t.downPort, ltr := t.ltr }) ∧
    (s.ldu.state = .config → (s.port a.port).check ≠ .miswired → k ≠ .pos → k ≠ .hello →
      ∃ t, exec (frameCommand e a x) s = .next t ∧
        t.port a.port = ((s.port a.port).countBy .framesGood 1).received u.micros u.now ∧
        t.port a.port.other =
          (if s.canCarry a.port.other then
            (if (s.port a.port.other).forward.length < 4 then
              { (s.port a.port.other).countBy .framesForwarded 1 with
                forward := (s.port a.port.other).forward ++ [f] }
            else (s.port a.port.other).countBy .forwardOverrun 1)
          else if kindPath k = .addressed then (s.port a.port.other).countBy .misrouted 1 else s.port a.port.other) ∧
        t.ltr = (u.tracesOnward a.port f false).ltr ∧
        t = { u with upPort := t.upPort, downPort := t.downPort, ltr := t.ltr }) ∧
    (s.ldu.state = .discover ∨ s.ldu.state = .fault → (s.port a.port).check ≠ .miswired → k = .count →
      ∃ t, exec (frameCommand e a x) s = .next t ∧
        t.portCounter a.port .framesConsumed = satAdd (s.portCounter a.port .framesConsumed) 1 ∧
        (t.port a.port.other).forward =
          (if t.canCarry a.port.other = true ∧ (s.port a.port.other).forward.length < 4 then
            (s.port a.port.other).forward ++ [f] else (s.port a.port.other).forward) ∧
        t.portCounter a.port.other .framesForwarded = satAdd (s.portCounter a.port.other .framesForwarded)
          (if t.canCarry a.port.other = true ∧ (s.port a.port.other).forward.length < 4 then 1 else 0) ∧
        (t.onLine = false → t.canCarry a.port.other = s.canCarry a.port.other ∧
          t.ltr = (u.tracesOnward a.port f true).ltr) ∧
        (t.port a.port).forward = (s.port a.port).forward))

/-! ### Frames taken by their units -/

/-- R134, R136, R129: a HOLD of a known cause and another origin refreshes the entry it finds, joins the end of a list with
room, or is lost to a full list; a CLEAR deletes the heard entry it names. The mode follows, and nothing else changes but the
ports. R98, R139: a head whose list a CLEAR empties, with a pending call and the pusher IDLE, starts its oldest call in the same
event. A frame of no known cause or of this station's own origin changes the list in nothing. An origin above 15, which no
station sends, is taken as it stands, which is the model's choice (log 19). -/
def Obligations.HoldAndClearMoveTheList : Prop :=
  ∀ (e : Env) (a : Arrival) (code origin : Byte) (s u : State), u = s.observe e →
    (s.admits a (.hold code origin) = true → ∃ t, exec (.hold e a code origin) s = .next t ∧
      (∀ c, causeOfCode code = some c → origin ≠ s.originByte →
        t.hlu.entries =
          (if s.hlu.hears c origin then
            s.hlu.entries.map fun x => if x.cause = c ∧ x.origin = origin then { x with refreshed := u.now } else x
          else if s.hlu.entries.length < 16 then
            s.hlu.entries ++ [{ cause := c, origin := origin, own := false, refreshed := u.now }]
          else s.hlu.entries) ∧
        t.ldu = { s.ldu with state := modeOf t.hlu.entries } ∧
        t.counter .holdListFull = satAdd (s.counter .holdListFull)
          (if s.hlu.hears c origin = false ∧ 16 ≤ s.hlu.entries.length then 1 else 0)) ∧
      (causeOfCode code = none ∨ origin = s.originByte → t.hlu = s.hlu ∧ t.ldu = s.ldu) ∧
      t.hlu.refresh = s.hlu.refresh ∧ t.counter .holdsTaken = satAdd (s.counter .holdsTaken) 1 ∧
      u.PortsReceived t a.port ∧ (∀ p, (t.port p).localQ = (s.port p).localQ) ∧
      t = { u with
        hlu := t.hlu, ldu := t.ldu, upPort := t.upPort, downPort := t.downPort, ltr := t.ltr
        counters := t.counters }) ∧
    (s.admits a (.clear code origin) = true → ∃ t, exec (.clear e a code origin) s = .next t ∧
      (∀ c, causeOfCode code = some c → origin ≠ s.originByte → s.hlu.hearsOther c origin = true →
        t.hlu = { s.hlu with
          entries := s.hlu.entries.filter (fun x => !(!x.own && x.cause == c && x.origin == origin)) } ∧
        t.ldu = { s.ldu with state := modeOf t.hlu.entries } ∧ u.HeadStarts t s.head) ∧
      (∀ c, causeOfCode code = some c → origin ≠ s.originByte → s.hlu.hearsOther c origin = false →
        t.hlu = s.hlu ∧ t.ldu = s.ldu ∧ t.head = s.head ∧ t.counter .clearsUnmatched = satAdd (s.counter .clearsUnmatched) 1) ∧
      (causeOfCode code = none ∨ origin = s.originByte → t.hlu = s.hlu ∧ t.ldu = s.ldu ∧ t.head = s.head) ∧
      t.counter .clearsTaken = satAdd (s.counter .clearsTaken) 1 ∧
      u.PortsReceived t a.port ∧ (∀ p, (t.port p).localQ = (s.port p).localQ) ∧
      t = { u with
        hlu := t.hlu, ldu := t.ldu, head := t.head, upPort := t.upPort, downPort := t.downPort, ltr := t.ltr
        counters := t.counters })

/-- R87, R90, R91, R86: a STROKE frame ahead by k takes the queue to its number in k shifts; one ahead by 1 brings its record,
as R8 repairs it, into slot 0, is matched with motion, and, at a station that is not the tail, sends what left the lead
downstream. The synthesised-by field is counted where it names a position, which the model takes to be 0 to 15 (log 31). At the
tail every shift ends the outstanding call, and the preview and the call check follow it (R105, R106, R113). At the head the
frame changes no block: it is counted STROKES_UNEXPECTED, and its synthesised-by field as anywhere (R110). -/
def Obligations.StrokeFrameShiftsTheQueue : Prop :=
  ∀ (e : Env) (a : Arrival) (n : Half) (b : Byte) (x : Option WireRecord) (s u : State), u = s.observe e →
    s.admits a (.stroke n b x) = true → a.dst = s.originByte →
    (s.isHead = true → ∃ t, exec (.stroke e a n b x) s = .next t ∧
      t.counter .strokesUnexpected = satAdd (s.counter .strokesUnexpected) 1 ∧
      t.counter .synthStrokesTaken = satAdd (s.counter .synthStrokesTaken) (if b.toNat ≤ 15 then 1 else 0) ∧
      t.ltr = (u.traceAction a.port .consumed (viewOfFrame ⟨a.src, a.dst, .stroke n b x⟩)).ltr ∧
      u.PortsReceived t a.port ∧ (∀ p, (t.port p).localQ = (s.port p).localQ) ∧
      t = { u with upPort := t.upPort, downPort := t.downPort, ltr := t.ltr, counters := t.counters }) ∧
    (s.isHead = false → isAhead n s.cq.lastStroke = true → ∃ t, exec (.stroke e a n b x) s = .next t ∧
      t.cq.lastStroke = n ∧
      t.counter .shifts = satAdd (s.counter .shifts) (aheadBy n s.cq.lastStroke) ∧
      t.counter .catchupShifts = satAdd (s.counter .catchupShifts) (aheadBy n s.cq.lastStroke - 1) ∧
      t.counter .placeholdersMade = satAdd (s.counter .placeholdersMade) (aheadBy n s.cq.lastStroke - 1) ∧
      t.counter .synthStrokesTaken = satAdd (s.counter .synthStrokesTaken) (if b.toNat ≤ 15 then 1 else 0) ∧
      (aheadBy n s.cq.lastStroke = 1 →
        t.cq = s.cq.shifted s.img.cadence u.now (x.map (repairRecord s.pos.val)) ∧
        (s.img.motionSense = 1 → 0 < s.tracker.unmatched → t.tracker = { s.tracker with
          unmatched := s.tracker.unmatched - 1
          motionDeadline := if 1 < s.tracker.unmatched then some (after u.now s.img.motionDeadline) else none }) ∧
        (s.img.motionSense = 1 → s.tracker.unmatched = 0 → s.tracker.unconfirmed < 2 → t.tracker = { s.tracker with
          unconfirmed := s.tracker.unconfirmed + 1
          confirmDeadline :=
            if s.tracker.unconfirmed = 0 then some (after u.now s.img.confirmWindow)
            else s.tracker.confirmDeadline }) ∧
        (s.img.motionSense ≠ 1 ∨ (s.tracker.unmatched = 0 ∧ 2 ≤ s.tracker.unconfirmed) → t.tracker = s.tracker) ∧
        (s.isTail = false → s.hasRoom .down = true →
          t.downPort.localQ = s.joined .down (BitVec.ofNat 8 (s.pos.val + 1))
            (.stroke n 255 ((s.cq.lead.map (Record.finish s.img s.pos)).map Record.wire)))) ∧
      (s.isTail = false → t.tail = s.tail ∧ t.exu = s.exu ∧ t.tau = s.tau) ∧ (s.isTail = true → u.TailShifted t) ∧
      u.PortsReceived t a.port ∧
      t = { u with
        cq := t.cq, tracker := t.tracker, tail := t.tail, exu := t.exu, tau := { s.tau with trim := t.tau.trim }
        upPort := t.upPort, downPort := t.downPort, ltr := t.ltr, counters := t.counters
        cru := { s.cru with loans := t.cru.loans } })

/-- R94, R9, R113: a late STROKE frame shifts nothing. Its record merges into the self-stroke placeholder of its number in slot
0, with the fields of the table of R94; any other late frame is discarded. R162: the frame is offered to the Link Trace as
CONSUMED. -/
def Obligations.LateStrokeMergesOrIsDiscarded : Prop :=
  ∀ (e : Env) (a : Arrival) (n : Half) (b : Byte) (x : Option WireRecord) (s u : State), u = s.observe e →
    s.admits a (.stroke n b x) = true → a.dst = s.originByte → s.isHead = false → isAhead n s.cq.lastStroke = false →
    ∃ t, exec (.stroke e a n b x) s = .next t ∧
      (∀ (w : WireRecord) (held : Record) (ss : SelfStroke) (rest : List Slot) (late merged : Record),
        x = some w → s.cq.slots = some held :: rest → held.self = some ss → ss.createdAt = n →
        late = repairRecord s.pos.val w →
        merged = { serial := late.serial, mass := late.mass
                   h := (clampInt ((late.h : Int) + ss.accrued) 0 40000000).toNat
                   d := held.d, soak := min (late.soak + held.soak) 65535
                   flags :=
                     { late.flags.union { held.flags with lostTrack := false } with
                       lateRecord := true
                       modelLimit := late.flags.modelLimit || held.flags.modelLimit ||
                         decide ((late.h : Int) + ss.accrued > 40000000) }
                   stations := late.stations, self := none } →
        t.cq = { s.cq with slots := some (merged.dedupe rest) :: rest } ∧
        t.counter .lateMerged = satAdd (s.counter .lateMerged) 1 ∧
        t.exu.preview = (if s.isTail = true ∧ rest = [] then some ((merged.dedupe rest).judge s.img)
          else s.exu.preview)) ∧
      (x = none ∨ s.cq.mergeable n = none →
        t.cq = s.cq ∧ t.exu = s.exu ∧ t.counter .lateDiscarded = satAdd (s.counter .lateDiscarded) 1) ∧
      t.ltr = (u.traceAction a.port .consumed (viewOfFrame ⟨a.src, a.dst, .stroke n b x⟩)).ltr ∧
      u.PortsReceived t a.port ∧ (∀ p, (t.port p).localQ = (s.port p).localQ) ∧
      t = { u with
        cq := t.cq, exu := { s.exu with preview := t.exu.preview }, upPort := t.upPort, downPort := t.downPort
        ltr := t.ltr, counters := t.counters }

/-- R114, R115, R117, R120: a record that leaves the tail's coil by a STROKE frame is finished and judged in the event of its
shift. With the pyrometer disabled it is decided at once. With the pyrometer enabled it becomes the awaiting billet with its
sample deadline; a billet that awaited its sample till then is decided first, REJECT with PYRO_OUT and no reading. A GAP that
leaves decides nothing. R3, R6: the record that leaves carries no accrued and no created-at. R105, R106, R113: the shift ends
the outstanding call and stops the call timer; the preview is that of the new lead; and in RUN a lead that previews REJECT is
drawn by a SELF call, else a waiting press call goes. -/
def Obligations.LeavingRecordIsDecidedAtTheTail : Prop :=
  ∀ (e : Env) (a : Arrival) (n : Half) (b : Byte) (x : Option WireRecord) (s u : State), u = s.observe e →
    s.admits a (.stroke n b x) = true → a.dst = s.originByte → s.isHead = false → s.isTail = true →
    aheadBy n s.cq.lastStroke = 1 → ∃ t, exec (.stroke e a n b x) s = .next t ∧
      u.LeadDecided t n ∧ u.TailChecked t u.tailLeft ∧ u.CallOffered t u.tailLeft

/-- R97, R98: a CALL at the on-line head. A repeat is counted alone; a call the list has room for joins its end, or starts its
stroke at once when the list was empty, the pusher is IDLE and nothing holds the line; a call for a full list is dropped. R162:
the frame is offered to the Link Trace as CONSUMED. -/
def Obligations.CallAtTheHead : Prop :=
  ∀ (e : Env) (a : Arrival) (k : CallKind) (n : Half) (s u : State), u = s.observe e →
    s.admits a (.call k n) = true → a.dst = s.originByte → s.isHead = true →
    ∃ t, exec (.call e a k n) s = .next t ∧
      u.HeadTakesCall t k n ∧
      t.ltr = (u.traceAction a.port .consumed (viewOfFrame ⟨a.src, a.dst, .call k n⟩)).ltr ∧
      u.PortsReceived t a.port ∧ (∀ p, (t.port p).localQ = (s.port p).localQ) ∧
      t = { u with
        head := t.head, upPort := t.upPort, downPort := t.downPort, ltr := t.ltr, counters := t.counters }

/-- R168: a POS. In DISCOVER the station takes the position one on, gives up a head claim, and hands the POS on with its match;
a position above 15 is FAULT LINE_TOO_LONG. With its DOWN link DOWN it is the tail: N is its position plus 1, and its COUNT goes
upstream. It then takes that COUNT itself (R169, R170): with match no it is in FAULT CONFIG_MISMATCH, with match yes and a
negative loan pool in FAULT BUDGET, and else it goes on line as the tail. On line a POS that does not fit is only counted, and
one that fits is answered with COUNT; that COUNT_RESENT counts a COUNT offered, taken or not, is the model's choice (log 47). In
FAULT CONFIG_MISMATCH with an N it is answered with COUNT, match no, in any other FAULT it is counted, and in CONFIG it is
dropped (R156), counted on the port of arrival, which is the model's choice (log 51). FAULT LINE_TOO_LONG leaves no position
(log 17), and no head claim or POS timer (log 29). -/
def Obligations.PosNumbersTheLine : Prop :=
  ∀ (e : Env) (a : Arrival) (q : Byte) (recipe : Half) (version : Byte) (agrees : Bool) (s u : State), u = s.observe e →
    s.linkIsUp a.port = true → (s.port a.port).check ≠ .miswired →
    headerOk a.port { src := a.src, dst := a.dst, payload := .pos q recipe version agrees } = true →
    (s.ldu.state = .discover → q.toNat + 1 < 16 → s.hasRoom .down = true →
      ∃ t, exec (.pos e a q recipe version agrees) s = .next t ∧
        t.ldu.position.map Fin.val = some (q.toNat + 1) ∧
        t.ldu = { s.ldu with position := t.ldu.position, headClaim := false, posTimer := none } ∧
        t.downPort.localQ = insertByClass
          { src := BitVec.ofNat 8 (q.toNat + 1), dst := 255
            payload := .pos (BitVec.ofNat 8 (q.toNat + 1)) recipe version
              (agrees && decide (recipe.toNat = s.img.recipeId) && decide (version.toNat = s.img.version)) }
          s.downPort.localQ ∧
        t.counter .posSent = satAdd (s.counter .posSent) 1 ∧
        u.PortsReceived t a.port ∧
        t = { u with ldu := t.ldu, upPort := t.upPort, downPort := t.downPort, ltr := t.ltr, counters := t.counters }) ∧
    (s.ldu.state = .discover → q.toNat + 1 < 16 → s.linkIsUp .down = false →
      s.hasRoom .up = true → s.upPort.localQ.length ≤ 4 → ∃ t, exec (.pos e a q recipe version agrees) s = .next t ∧
        t.ldu.n = some (q.toNat + 2) ∧ t.ldu.position.map Fin.val = some (q.toNat + 1) ∧
        (∃ f ∈ t.upPort.localQ, f.payload = .count (BitVec.ofNat 8 (q.toNat + 2))
          (agrees && decide (recipe.toNat = s.img.recipeId) && decide (version.toNat = s.img.version))) ∧
        ((agrees && decide (recipe.toNat = s.img.recipeId) && decide (version.toNat = s.img.version)) = false →
          t.ldu.state = .fault ∧ t.ldu.reason = some .configMismatch ∧ t.cq = s.cq) ∧
        ((agrees && decide (recipe.toNat = s.img.recipeId) && decide (version.toNat = s.img.version)) = true →
          (s.img.loanPool (q.toNat + 2) < 0 → t.ldu.state = .fault ∧ t.ldu.reason = some .budget ∧ t.cq = s.cq) ∧
          (0 ≤ s.img.loanPool (q.toNat + 2) → ∀ k : Fin 16, k.val = q.toNat + 1 →
            t.onLine = true ∧ t.ldu.role = some .tail ∧ u.Discovered t k (q.toNat + 2)))) ∧
    (s.ldu.state = .discover → 16 ≤ q.toNat + 1 → ∃ t, exec (.pos e a q recipe version agrees) s = .next t ∧
      t.ldu.state = .fault ∧ t.ldu.reason = some .lineTooLong ∧ t.ldu.position = none ∧ t.ldu.headClaim = false ∧ t.ldu.posTimer = none ∧
      (∀ p, (t.port p).localQ = (s.port p).localQ)) ∧
    (s.onLine = true → q.toNat + 1 ≠ s.pos.val ∨ s.upPort.check ≠ .passed →
      ∃ t, exec (.pos e a q recipe version agrees) s = .next t ∧
        t.counter .posIgnored = satAdd (s.counter .posIgnored) 1 ∧ t.ldu = s.ldu ∧
        (∀ p, (t.port p).localQ = (s.port p).localQ)) ∧
    (s.onLine = true → q.toNat + 1 = s.pos.val → s.upPort.check = .passed →
      ∃ t, exec (.pos e a q recipe version agrees) s = .next t ∧
        t.counter .countResent = satAdd (s.counter .countResent) 1 ∧ t.ldu = s.ldu ∧
        (s.hasRoom .up = true →
          t.upPort.localQ = s.joined .up 255 (.count (BitVec.ofNat 8 (s.ldu.n.getD 0)) true))) ∧
    (s.ldu.state = .fault →
      (∀ m, s.ldu.reason = some .configMismatch → s.ldu.n = some m → s.hasRoom .up = true →
        ∃ t, exec (.pos e a q recipe version agrees) s = .next t ∧
          t.upPort.localQ = s.joined .up 255 (.count (BitVec.ofNat 8 m) false) ∧ u.PortsReceived t a.port ∧
          t = { u with upPort := t.upPort, downPort := t.downPort, ltr := t.ltr }) ∧
      (s.ldu.reason ≠ some .configMismatch ∨ s.ldu.n = none →
        ∃ t, exec (.pos e a q recipe version agrees) s = .next t ∧
          t.counter .posIgnored = satAdd (s.counter .posIgnored) 1 ∧ u.PortsReceived t a.port ∧
          (∀ p, (t.port p).localQ = (s.port p).localQ) ∧
          t = { u with upPort := t.upPort, downPort := t.downPort, ltr := t.ltr, counters := t.counters })) ∧
    (s.ldu.state = .config → ∃ t, exec (.pos e a q recipe version agrees) s = .next t ∧
      t.portCounter a.port .droppedState = satAdd (s.portCounter a.port .droppedState) 1 ∧
      (∀ p, (t.port p).localQ = (s.port p).localQ ∧ (t.port p).forward = (s.port p).forward) ∧
      t = { u with upPort := t.upPort, downPort := t.downPort, ltr := t.ltr })

/-- R169, R170, R21, R67, R83: a COUNT above the position of a station in DISCOVER. With match no, or with a negative loan pool,
the station enters FAULT with its reason; else it goes on line: its role, its queue of K_p GAPs at stroke 0, its target table,
its base credits, at the head the whole loan pool, FILL at the tail, and the mode its list gives; each UP port with a neighbour
in the line becomes PASSED, each DOWN one raises its LINK_LOSS cause. R155, R162: a COUNT that puts the head on line ends there,
also with its UP link UP: it is offered to the Link Trace as CONSUMED. Any other COUNT is only counted. FAULT ends the timers and
the head claim (log 29), and an N above 16, which no station sends, is taken as it stands (log 18). -/
def Obligations.CountPutsTheLineOnLine : Prop :=
  ∀ (e : Env) (a : Arrival) (n : Byte) (agrees : Bool) (s u : State), u = s.observe e →
    s.linkIsUp a.port = true → (s.port a.port).check ≠ .miswired →
    headerOk a.port { src := a.src, dst := a.dst, payload := .count n agrees } = true →
    (∀ q : Fin 16, s.ldu.state = .discover → s.ldu.position = some q → q.val < n.toNat →
      ∃ t, exec (.count e a n agrees) s = .next t ∧ t.ldu.n = some n.toNat ∧ t.ldu.position = some q ∧
        t.ldu.headClaim = false ∧ t.ldu.settle = none ∧ t.ldu.posTimer = none ∧ t.ldu.helloTimer = none ∧
        (agrees = false → t.ldu.state = .fault ∧ t.ldu.reason = some .configMismatch ∧ t.cq = s.cq) ∧
        (agrees = true → s.img.loanPool n.toNat < 0 →
          t.ldu.state = .fault ∧ t.ldu.reason = some .budget ∧ t.cq = s.cq) ∧
        (agrees = true → 0 ≤ s.img.loanPool n.toNat →
          t.onLine = true ∧ u.Discovered t q n.toNat ∧
          (q.val = 0 →
            (t.port a.port.other).forward = (s.port a.port.other).forward ∧
            t.portCounter a.port.other .framesForwarded = s.portCounter a.port.other .framesForwarded ∧
            (u.pins.estop = false → u.pins.fault = false →
              t.ltr = (u.traceAction a.port .consumed (viewOfFrame ⟨a.src, a.dst, .count n agrees⟩)).ltr)))) ∧
    (s.onLine = true ∨ s.ldu.state = .fault ∨
        (s.ldu.state = .discover ∧ s.ldu.position.all (fun q => decide (n.toNat ≤ q.val)) = true) →
      ∃ t, exec (.count e a n agrees) s = .next t ∧ t.ldu = s.ldu ∧
        t.counter .countIgnored = satAdd (s.counter .countIgnored) 1)

/-- R166, R173, R95: a HELLO. One with wanted set is answered on its port in DISCOVER, in FAULT and on line. In FAULT an answer
is ignored and counted, and so is, in DISCOVER, an answer of a neighbour that is not on line; in CONFIG every HELLO is dropped
(R156), counted on the port of arrival (log 51). On line an answer on a PENDING side is judged. At a station whose role is the
one its place gives (R170), a neighbour on line with the recipe and the position that belong there passes the check, stops its
timer (log 55), lifts the LINK_LOSS cause, the refresh timer stopping with the last own cause (R133) and a head whose list is
empty starting its oldest call (R98), and, on the UP side, brings the queue to its stroke number. One that is on line but does
not belong there marks the port MISWIRED, whose frames queued till then stay, which is the model's choice (log 48). An answer
without effect is counted (R174): one of a neighbour not on line, one on a PASSED or MISWIRED port, and one on a port with no
neighbour in the line (log 15). An answer that marks its stroke number not present leaves the queue as it is, which is the
model's choice (log 16). The marks of a HELLO are its bits 0 and 1 alone (log 45), and the source and the absent stroke number
of an answer in DISCOVER or FAULT are free values (logs 9, 10). -/
def Obligations.HelloAnswersAndChecks : Prop :=
  ∀ (e : Env) (a : Arrival) (h : Hello) (s u : State), u = s.observe e → s.linkIsUp a.port = true →
    headerOk a.port { src := a.src, dst := a.dst, payload := .hello h } = true →
    (s.onLine = true ∨ s.ldu.state = .discover ∨ s.ldu.state = .fault → helloWanted h = true →
      (s.port a.port).localQ.length < 8 → ∃ t, exec (.hello e a h) s = .next t ∧
      (t.port a.port).localQ = s.joined a.port 255 (s.helloPayload false) ∧
      t.counter .hellosAnswered = satAdd (s.counter .hellosAnswered) 1 ∧
      u.PortsReceived t a.port ∧
      t = { u with
        upPort := t.upPort, downPort := t.downPort, ltr := t.ltr, counters := t.counters
        freeIndex := t.freeIndex }) ∧
    (s.ldu.state = .fault ∨ s.ldu.state = .discover ∧ helloOnLine h = false → helloWanted h = false →
      ∃ t, exec (.hello e a h) s = .next t ∧ t.counter .hellosIgnored = satAdd (s.counter .hellosIgnored) 1 ∧
        u.PortsReceived t a.port ∧ (∀ p, (t.port p).localQ = (s.port p).localQ) ∧
        t = { u with upPort := t.upPort, downPort := t.downPort, ltr := t.ltr, counters := t.counters }) ∧
    (s.ldu.state = .config → ∃ t, exec (.hello e a h) s = .next t ∧
      t.portCounter a.port .droppedState = satAdd (s.portCounter a.port .droppedState) 1 ∧
      (∀ p, (t.port p).localQ = (s.port p).localQ ∧ (t.port p).forward = (s.port p).forward) ∧
      t = { u with upPort := t.upPort, downPort := t.downPort, ltr := t.ltr }) ∧
    (s.onLine = true → s.RoleOk → helloWanted h = false → s.hasNeighbour a.port = true → (s.port a.port).check = .pending →
      helloOnLine h = true → h.recipe.toNat = s.img.recipeId →
      (a.port = .up → h.position.toNat + 1 = s.pos.val) → (a.port = .down → h.position.toNat = s.pos.val + 1) →
      ∃ t, exec (.hello e a h) s = .next t ∧ (t.port a.port).check = .passed ∧ (t.port a.port).checkTimer = none ∧
        t.hlu.hasOwn (lossCause a.port) = false ∧
        t.hlu.entries = s.hlu.entries.filter (fun x => !(x.own && x.cause == lossCause a.port)) ∧
        u.OwnRemoved t (fun x => x.own && x.cause == lossCause a.port) ∧ u.HeadStarts t s.head ∧
        t.counter .helloChecksPassed = satAdd (s.counter .helloChecksPassed) 1 ∧
        (a.port = .up → helloStrokePresent h = true → isAhead h.lastStroke s.cq.lastStroke = true →
          t.cq.lastStroke = h.lastStroke ∧
          t.counter .catchupShifts = satAdd (s.counter .catchupShifts) (aheadBy h.lastStroke s.cq.lastStroke) ∧
          (s.isTail = true → u.TailShifted t)) ∧
        (a.port = .down ∨ helloStrokePresent h = false ∨ isAhead h.lastStroke s.cq.lastStroke = false → t.cq = s.cq) ∧
        t.tracker = s.tracker ∧ t.ivi = s.ivi) ∧
    (s.onLine = true → helloWanted h = false → s.hasNeighbour a.port = true → (s.port a.port).check = .pending →
      helloOnLine h = true → h.recipe.toNat ≠ s.img.recipeId ∨ (a.port = .up ∧ h.position.toNat + 1 ≠ s.pos.val) ∨
        (a.port = .down ∧ h.position.toNat ≠ s.pos.val + 1) →
      ∃ t, exec (.hello e a h) s = .next t ∧ (t.port a.port).check = .miswired ∧
        (t.port a.port).checkTimer = (s.port a.port).checkTimer ∧
        t.counter .miswiredMarks = satAdd (s.counter .miswiredMarks) 1 ∧ t.hlu = s.hlu ∧ t.cq = s.cq ∧
        (∀ p, (t.port p).localQ = (s.port p).localQ ∧ (t.port p).forward = (s.port p).forward)) ∧
    (s.onLine = true → helloWanted h = false → helloOnLine h = false ∨ (s.port a.port).check ≠ .pending ∨
        s.hasNeighbour a.port = false →
      ∃ t, exec (.hello e a h) s = .next t ∧ t.counter .hellosIgnored = satAdd (s.counter .hellosIgnored) 1 ∧
        (t.port a.port).checkTimer = (s.port a.port).checkTimer ∧ (t.port a.port).check = (s.port a.port).check ∧ t.hlu = s.hlu ∧
        t.cq = s.cq ∧ (∀ p, (t.port p).localQ = (s.port p).localQ))

/-- R171, R172, R22, R84: a HELLO answer in DISCOVER. A usable answer of a running neighbour rejoins the station: its position
and N, a queue of placeholders at the neighbour's stroke number, no loans, the port of the answer PASSED; a negative loan pool
is FAULT BUDGET. The HELLO and POS timers stop (R165, R171); head claim, on-line neighbour seen and the settle timer end too,
which is the model's choice (log 53). The other port, where it has a neighbour in the line, is PENDING with its LINK_LOSS cause
standing, and where its link is UP its HELLO check starts. An on-line answer that is not usable is refused. The stroke number of
an answer that marks it not present is a free value (log 16). That the HELLO of that check names the mode already derived is the
model's choice (log 13), and an N above 16, which no station sends, is taken as it stands (log 18). -/
def Obligations.HelloAnswerRejoinsTheLine : Prop :=
  ∀ (e : Env) (a : Arrival) (h : Hello) (s u : State), u = s.observe e → s.ldu.state = .discover →
    s.linkIsUp a.port = true → headerOk a.port { src := a.src, dst := a.dst, payload := .hello h } = true →
    helloWanted h = false → helloOnLine h = true →
    (∀ q : Fin 16, h.recipe.toNat = s.img.recipeId →
      (a.port = .up ∧ h.position.toNat + 1 < h.n.toNat ∧ q.val = h.position.toNat + 1) ∨
        (a.port = .down ∧ h.position = 1 ∧ s.linkIsUp .up = false ∧ q.val = 0) →
      s.img.loanPool h.n.toNat < 0 →
      ∃ t, exec (.hello e a h) s = .next t ∧ t.ldu.state = .fault ∧ t.ldu.reason = some .budget) ∧
    (∀ q : Fin 16, h.recipe.toNat = s.img.recipeId →
      (a.port = .up ∧ h.position.toNat + 1 < h.n.toNat ∧ q.val = h.position.toNat + 1) ∨
        (a.port = .down ∧ h.position = 1 ∧ s.linkIsUp .up = false ∧ q.val = 0) →
      0 ≤ s.img.loanPool h.n.toNat →
      ∃ t, exec (.hello e a h) s = .next t ∧ t.ldu.position = some q ∧ t.ldu.n = some h.n.toNat ∧
        t.ldu.role = some (roleOf q.val h.n.toNat) ∧ t.ldu.headClaim = false ∧ t.ldu.seen = false ∧
        t.ldu.settle = none ∧ t.ldu.helloTimer = none ∧ t.ldu.posTimer = none ∧ t.ldu.state = modeOf t.hlu.entries ∧ t.onLine = true ∧
        t.cq = { slots := List.replicate (s.img.slotCount.get q)
                   (some { serial := none, mass := s.img.nominalMass
                           h := (if q.val = 0 then 0
                             else (s.img.targetOf ((s.img.target[q.val - 1]?).getD 0))) * s.img.nominalMass / 100
                           d := 0, soak := 0, flags := { Flags.empty with lostTrack := true }, stations := []
                           self := none })
                 lastStroke := if helloStrokePresent h then h.lastStroke else Config.unreportedStroke s.freeIndex
                 lastShift := u.now, intervalOpen := false, iAvg := s.img.cadence, newestSerial := none } ∧
        t.cru.base = s.img.baseCredits.get q ∧ t.cru.pool = (s.img.loanPool h.n.toNat).toNat ∧ t.cru.need = none ∧
        (s.upPort.localQ.length ≤ 4 → s.downPort.localQ.length ≤ 4 → t.cru.loans = 0) ∧
        (roleOf q.val h.n.toNat = .head ∨ roleOf q.val h.n.toNat = .headTail → t.head.nextSerial =
          if h.newestSerial = 0 then 1 else if h.newestSerial.toNat < 65535 then h.newestSerial.toNat + 1 else 1) ∧
        (roleOf q.val h.n.toNat = .tail → t.tail.counter = t.cq.lastStroke ∧
          t.tail.fill = false ∧ t.tail.pressIdle = some (after u.now s.img.pressIdleTimeout)) ∧
        (t.port a.port).check = .passed ∧
        t.hlu.hasOwn (lossCause a.port) = false ∧
        (∀ (other : Port) (neighbour : Bool), other = a.port.other →
          neighbour = (match other with | .up => decide (0 < q.val) | .down => decide (q.val + 1 < h.n.toNat)) →
          t.hlu.hasOwn (lossCause other) = neighbour ∧
          (neighbour = false → (t.port other).check = (s.port other).check) ∧
          (neighbour = true → (t.port other).check = .pending ∧
            (s.linkIsUp other = false → (t.port other).checkTimer = none) ∧
            (s.linkIsUp other = true → (t.port other).checkTimer = some (after u.now 500) ∧
              ((s.port other).localQ.length ≤ 4 →
                t.frame 255 (t.helloPayload true) ∈ (t.port other).localQ ∧
                t.counter .hellosSent = satAdd (s.counter .hellosSent) 1)))) ∧
        (s.pins.estop = true → t.hlu.hasOwn .estop = true) ∧ (s.pins.fault = true → t.hlu.hasOwn .inverterFault = true) ∧
        t.counter .rejoins = satAdd (s.counter .rejoins) 1 ∧
        t.counter .placeholdersMade = satAdd (s.counter .placeholdersMade) (s.img.slotCount.get q)) ∧
    (h.recipe.toNat ≠ s.img.recipeId ∨ (a.port = .up ∧ h.n.toNat ≤ h.position.toNat + 1) ∨
        (a.port = .down ∧ (h.position ≠ 1 ∨ s.linkIsUp .up = true)) → ∃ t, exec (.hello e a h) s = .next t ∧
      t.ldu = { s.ldu with seen := true } ∧ t.counter .rejoinRefused = satAdd (s.counter .rejoinRefused) 1 ∧
      t.cq = s.cq)

/-- R71, R72, R159, R81: an on-line station answers a CANVASS of another station with one REPLY toward its origin: CONFLICT with
a canvass of its own open, else LEND of what it can spare up to the want, else DECLINE. A LEND the queue takes leaves its loans.
At a full local queue it displaces the youngest frame of a lower class, the last of the queue (log 35), whose credits come back,
or is refused. A want or an origin outside its range, which no station sends, is taken as it stands (log 19). R162: the Link
Trace is offered the frame displaced, the REPLY and the CANVASS; that order is the model's choice (log 22). -/
def Obligations.CanvassIsAnswered : Prop :=
  ∀ (e : Env) (a : Arrival) (origin : Byte) (n want : Half) (s u : State) (kind : ReplyKind) (amount : Nat)
    (surplus : Int) (p : Port), u = s.observe e → s.admits a (.canvass origin n want) = true →
    surplus = (s.cru.loans : Int) - (s.cru.need.getD 0 - s.cru.base : Nat) - s.img.keep →
    kind = (if s.cru.tracker.isSome then .conflict else if 0 < surplus then .lend else .decline) →
    amount = (if kind = .lend then min surplus.toNat want.toNat else 0) →
    p = (if origin.toNat < s.pos.val then .up else .down) →
    (origin ≠ s.originByte → ∃ t, exec (.canvass e a origin n want) s = .next t ∧
      t.counter .lendsSent = satAdd (s.counter .lendsSent) (if kind = .lend then 1 else 0) ∧
      t.counter .declinesSent = satAdd (s.counter .declinesSent) (if kind = .decline then 1 else 0) ∧
      t.counter .conflictsSent = satAdd (s.counter .conflictsSent) (if kind = .conflict then 1 else 0) ∧
      (s.hasRoom p = true →
        (t.port p).localQ = s.joined p origin (.reply n kind (BitVec.ofNat 16 amount)) ∧
        t.cru = { s.cru with loans := s.cru.loans - amount } ∧
        t.counter .creditsLent = satAdd (s.counter .creditsLent) amount ∧
        t.ltr = ((u.traceAction p .originated
          (viewOfFrame (s.frame origin (.reply n kind (BitVec.ofNat 16 amount))))).tracesOnward
            a.port ⟨a.src, a.dst, .canvass origin n want⟩ true).ltr) ∧
      (s.linkIsUp p = false ∨ (s.port p).check = .miswired → t.cru = s.cru ∧ t.counter .repliesRefused = satAdd (s.counter .repliesRefused) 1 ∧
        (t.port p).localQ = (s.port p).localQ ∧
        t.ltr = ((u.traceDrop p .localRefused
          (viewOfFrame (s.frame origin (.reply n kind (BitVec.ofNat 16 amount))))).tracesOnward
            a.port ⟨a.src, a.dst, .canvass origin n want⟩ true).ltr) ∧
      u.FullQueueOffered t p (s.frame origin (.reply n kind (BitVec.ofNat 16 amount))) ∧
      (∀ rest g, s.linkIsUp p = true → (s.port p).check ≠ .miswired → (s.port p).localQ = rest ++ [g] → 7 ≤ rest.length →
        (kindClass .reply < frameClass g →
          t.cru = { s.cru with loans := s.cru.loans + carriedCredits g - amount } ∧
          t.counter .creditsRestored = satAdd (s.counter .creditsRestored) (carriedCredits g) ∧
          t.ltr = (((u.traceDrop p .localDisplaced (viewOfFrame g)).traceAction p .originated
            (viewOfFrame (s.frame origin (.reply n kind (BitVec.ofNat 16 amount))))).tracesOnward
              a.port ⟨a.src, a.dst, .canvass origin n want⟩ true).ltr) ∧
        (frameClass g ≤ kindClass .reply → t.cru = s.cru ∧
          t.counter .repliesRefused = satAdd (s.counter .repliesRefused) 1)) ∧
      u.PortsReceived t a.port ∧
      t = { u with
        cru := { s.cru with loans := t.cru.loans }, upPort := t.upPort, downPort := t.downPort, ltr := t.ltr
        counters := t.counters }) ∧
    (origin = s.originByte → ∃ t, exec (.canvass e a origin n want) s = .next t ∧ t.cru = s.cru ∧
      t.counter .canvassOwnOrigin = satAdd (s.counter .canvassOwnOrigin) 1 ∧
      (∀ p, (t.port p).localQ = (s.port p).localQ))

/-- R73 to R78: a REPLY that reached its destination. A reply to the open canvass is counted in the tracker, a CONFLICT is
marked and a LEND that does not pass the want raises the loans; one that does returns the excess to its lender, and keeps it
where the RETURN is refused (R80). The last reply expected closes the canvass, and a station still short then waits: the backoff
after a CONFLICT, else the recanvass interval. A late LEND leaves the credits the station needs with it and returns the rest; a
late DECLINE or CONFLICT is ignored. R58: a REPLY leaves the inverter as it is while the credits held cover the setpoint in
force; a RETURN of an earlier excess that leaves less withdraws it with enable, which is the model's choice (log 49). A RETURN
toward the station's own position or a source above 15, which no line calls for, goes to DOWN (log 44). -/
def Obligations.ReplyFillsTheCanvass : Prop :=
  ∀ (e : Env) (a : Arrival) (n : Half) (k : ReplyKind) (amount : Half) (s u : State), u = s.observe e →
    s.admits a (.reply n k amount) = true → a.dst = s.originByte →
    (∀ c, s.cru.tracker = some c → c.number = n → c.received + 1 < c.expected →
      (k = .lend → c.total + amount.toNat ≤ c.want) → ∃ t, exec (.reply e a n k amount) s = .next t ∧
        t.cru = { s.cru with
          loans := if k = .lend then s.cru.loans + amount.toNat else s.cru.loans
          tracker := some { c with
            received := c.received + 1, conflict := c.conflict || k == .conflict
            total := if k = .lend then c.total + amount.toNat else c.total } } ∧
        t.counter .creditsBorrowed =
          satAdd (s.counter .creditsBorrowed) (if k = .lend then amount.toNat else 0) ∧
        u.PortsReceived t a.port ∧ (∀ p, (t.port p).localQ = (s.port p).localQ)) ∧
    (∀ c, s.cru.tracker = some c → c.number = n → c.expected ≤ c.received + 1 → ∃ t,
      exec (.reply e a n k amount) s = .next t ∧
        t.counter .canvassesAnswered = satAdd (s.counter .canvassesAnswered) 1 ∧
        (k ≠ .lend → t.cru.loans = s.cru.loans) ∧
        (k = .lend → c.total + amount.toNat ≤ c.want → t.cru.loans = s.cru.loans + amount.toNat) ∧
        (k = .lend → c.want < c.total + amount.toNat →
          (s.hasRoom (if a.src.toNat < s.pos.val then .up else .down) = true →
            t.cru.loans = s.cru.loans + amount.toNat - (c.total + amount.toNat - c.want) ∧
            (t.port (if a.src.toNat < s.pos.val then .up else .down)).localQ =
              s.joined (if a.src.toNat < s.pos.val then .up else .down) a.src
                (.ret c.number (BitVec.ofNat 16 (c.total + amount.toNat - c.want)))) ∧
          (s.linkIsUp (if a.src.toNat < s.pos.val then .up else .down) = false →
            t.cru.loans = s.cru.loans + amount.toNat)) ∧
        (∀ short conflict : Bool, short = decide (s.cru.base + t.cru.loans < s.cru.need.getD 0) →
          conflict = (c.conflict || k == .conflict) →
          t.cru = { s.cru with
            loans := t.cru.loans, tracker := none
            backoff := if short && conflict then some (after u.now ((s.pos.val + 1) * s.img.backoffUnit))
              else s.cru.backoff
            recanvass := if short && !conflict then some (after u.now s.img.recanvassInterval) else s.cru.recanvass } ∧
          t.counter .backoffs = satAdd (s.counter .backoffs) (if short && conflict then 1 else 0) ∧
          t.counter .recanvassWaits = satAdd (s.counter .recanvassWaits) (if short && !conflict then 1 else 0))) ∧
    (∀ c, s.cru.tracker = some c → c.number = n → c.received + 1 < c.expected → k = .lend → c.total ≤ c.want →
      c.want < c.total + amount.toNat →
      s.hasRoom (if a.src.toNat < s.pos.val then .up else .down) = true → ∃ t,
        exec (.reply e a n k amount) s = .next t ∧
        t.cru.loans = s.cru.loans + (c.want - c.total) ∧
        t.cru.tracker = some { c with received := c.received + 1, total := c.want } ∧
        (t.port (if a.src.toNat < s.pos.val then .up else .down)).localQ =
          s.joined (if a.src.toNat < s.pos.val then .up else .down) a.src
            (.ret c.number (BitVec.ofNat 16 (c.total + amount.toNat - c.want))) ∧
        t.counter .returnsSent = satAdd (s.counter .returnsSent) 1 ∧
        t.counter .creditsReturned = satAdd (s.counter .creditsReturned) (c.total + amount.toNat - c.want)) ∧
    (∀ c, s.cru.tracker = some c → c.number = n → c.received + 1 < c.expected → k = .lend →
      c.want < c.total + amount.toNat → s.linkIsUp (if a.src.toNat < s.pos.val then .up else .down) = false → ∃ t,
        exec (.reply e a n k amount) s = .next t ∧ t.cru = { s.cru with
          loans := s.cru.loans + amount.toNat
          tracker := some { c with received := c.received + 1, total := c.total + amount.toNat } } ∧
        t.counter .returnsRefused = satAdd (s.counter .returnsRefused) 1 ∧
        t.counter .creditsUnreturned = satAdd (s.counter .creditsUnreturned) (c.total + amount.toNat - c.want)) ∧
    ((∀ c, s.cru.tracker = some c → c.number ≠ n) → k = .lend → ∃ t, exec (.reply e a n k amount) s = .next t ∧
      t.cru.tracker = s.cru.tracker ∧ t.counter .lateLends = satAdd (s.counter .lateLends) 1 ∧
      t.counter .lateCreditsReceived = satAdd (s.counter .lateCreditsReceived) amount.toNat ∧
      t.counter .lateCreditsKept = satAdd (s.counter .lateCreditsKept)
        (min amount.toNat (s.cru.need.getD 0 - (s.cru.base + s.cru.loans))) ∧
      (s.hasRoom (if a.src.toNat < s.pos.val then .up else .down) = true →
        t.cru.loans = s.cru.loans + min amount.toNat (s.cru.need.getD 0 - (s.cru.base + s.cru.loans)) ∧
        (∀ back : Nat, back = amount.toNat - (s.cru.need.getD 0 - (s.cru.base + s.cru.loans)) →
          (t.port (if a.src.toNat < s.pos.val then .up else .down)).localQ =
            (if 0 < back then s.joined (if a.src.toNat < s.pos.val then .up else .down) a.src
              (.ret n (BitVec.ofNat 16 back))
            else (s.port (if a.src.toNat < s.pos.val then .up else .down)).localQ) ∧
          t.counter .returnsSent = satAdd (s.counter .returnsSent) (if 0 < back then 1 else 0) ∧
          t.counter .creditsReturned = satAdd (s.counter .creditsReturned) back)) ∧
      (s.linkIsUp (if a.src.toNat < s.pos.val then .up else .down) = false →
        t.cru.loans = s.cru.loans + amount.toNat)) ∧
    ((∀ c, s.cru.tracker = some c → c.number ≠ n) → k ≠ .lend → ∃ t, exec (.reply e a n k amount) s = .next t ∧
      t.cru = s.cru ∧ t.counter .lateRepliesIgnored = satAdd (s.counter .lateRepliesIgnored) 1) ∧
    (s.CreditsCover → ∃ t, exec (.reply e a n k amount) s = .next t ∧
      t.ivi = if s.ivi.inForce ≤ (s.cru.base + t.cru.loans) * (s.img.creditKw * 10) then s.ivi
        else { s.ivi with inForce := 0, enable := false })

/-- R79: a RETURN that reaches its destination raises the loans there by its amount and is counted with it, with or without a
tracker. It raises what the station can lend at a CANVASS that follows and the P_avail of a period end that follows. At a
station that is not on line its credits do not arrive. R162: the frame is offered to the Link Trace as CONSUMED. An amount above
4095, which no station sends, is taken as it stands, which is the model's choice (log 19). -/
def Obligations.ReturnRaisesTheLoans : Prop :=
  ∀ (e : Env) (a : Arrival) (n amount : Half) (s u : State), u = s.observe e →
    (s.admits a (.ret n amount) = true → a.dst = s.originByte → ∃ t, exec (.ret e a n amount) s = .next t ∧
      t.cru = { s.cru with loans := s.cru.loans + amount.toNat } ∧
      t.ltr = (u.traceAction a.port .consumed (viewOfFrame ⟨a.src, a.dst, .ret n amount⟩)).ltr ∧
      t.counter .returnsReceived = satAdd (s.counter .returnsReceived) 1 ∧
      t.counter .creditsBack = satAdd (s.counter .creditsBack) amount.toNat ∧
      u.PortsReceived t a.port ∧ (∀ p, (t.port p).localQ = (s.port p).localQ) ∧
      t = { u with
        cru := t.cru, upPort := t.upPort, downPort := t.downPort, ltr := t.ltr, counters := t.counters } ∧
      (∀ e' : Env, (t.observe e').periodDue = true → ∃ v, exec (.periodEnd e') t = .next v ∧
        v.pdu.pAvail = (s.cru.base + (s.cru.loans + amount.toNat)) * (s.img.creditKw * 10)) ∧
      (∀ (e' : Env) (b : Arrival) (origin : Byte) (m want : Half), t.admits b (.canvass origin m want) = true →
        origin ≠ s.originByte → s.cru.tracker = none →
        t.hasRoom (if origin.toNat < s.pos.val then .up else .down) = true → ∃ v,
          exec (.canvass e' b origin m want) t = .next v ∧ v.cru.loans = s.cru.loans + amount.toNat -
            min ((s.cru.loans + amount.toNat : Nat) - (s.cru.need.getD 0 - s.cru.base : Nat) - s.img.keep : Int).toNat
              want.toNat)) ∧
    (s.onLine = false → ∃ t, exec (.ret e a n amount) s = .next t ∧ t.cru = s.cru)

/-- R125, R30: a TRIM taken on line moves τ by its step within −32 to +31 and is counted, with the TRIMs missed by number and the
step the clamp held. -/
def Obligations.TrimMovesTheEfficiency : Prop :=
  ∀ (e : Env) (a : Arrival) (step : TrimStep) (n : Half) (s u : State), u = s.observe e →
    s.admits a (.trim step n) = true → ∃ t, exec (.trim e a step n) s = .next t ∧
      t.tau = { s.tau with
        trim := min (max (s.tau.trim + (match step with | .raise => 1 | .lower => -1)) (-32)) 31
        lastTrim := some n } ∧
      t.counter .trimsApplied = satAdd (s.counter .trimsApplied) 1 ∧
      t.counter .trimsClamped = satAdd (s.counter .trimsClamped) (if t.tau.trim = s.tau.trim then 1 else 0) ∧
      t.counter .trimsMissed = satAdd (s.counter .trimsMissed)
        (match s.tau.lastTrim with
         | some last => if 2 ≤ (n - last).toNat ∧ (n - last).toNat ≤ 32767 then (n - last).toNat - 1 else 0
         | none => 0) ∧
      u.PortsReceived t a.port ∧ (∀ p, (t.port p).localQ = (s.port p).localQ) ∧
      t = { u with
        tau := t.tau, upPort := t.upPort, downPort := t.downPort, ltr := t.ltr, counters := t.counters }
end

