-- ==== Sys2Proof/Laws/State.lean ====
section
/-!
SUPPORT. One lemma per field for each plain update of State: what a count, a port's update, a trace offer and the passing of time
leave as it was.
-/

namespace Sys2Proof.Machine

/-! ### Time passes and the lines are presented -/

@[simp] theorem State.observe_freeIndex (s : State) (e : Env) : (s.observe e).freeIndex = s.freeIndex := rfl
@[simp] theorem State.observe_ldu (s : State) (e : Env) : (s.observe e).ldu = s.ldu := rfl
@[simp] theorem State.observe_cq (s : State) (e : Env) : (s.observe e).cq = s.cq := rfl
@[simp] theorem State.observe_tau (s : State) (e : Env) : (s.observe e).tau = s.tau := rfl
@[simp] theorem State.observe_pdu (s : State) (e : Env) : (s.observe e).pdu = s.pdu := rfl
@[simp] theorem State.observe_ivi (s : State) (e : Env) : (s.observe e).ivi = s.ivi := rfl
@[simp] theorem State.observe_cru (s : State) (e : Env) : (s.observe e).cru = s.cru := rfl
@[simp] theorem State.observe_tracker (s : State) (e : Env) : (s.observe e).tracker = s.tracker := rfl
@[simp] theorem State.observe_head (s : State) (e : Env) : (s.observe e).head = s.head := rfl
@[simp] theorem State.observe_tail (s : State) (e : Env) : (s.observe e).tail = s.tail := rfl
@[simp] theorem State.observe_exu (s : State) (e : Env) : (s.observe e).exu = s.exu := rfl
@[simp] theorem State.observe_hlu (s : State) (e : Env) : (s.observe e).hlu = s.hlu := rfl
@[simp] theorem State.observe_upPort (s : State) (e : Env) : (s.observe e).upPort = s.upPort := rfl
@[simp] theorem State.observe_downPort (s : State) (e : Env) : (s.observe e).downPort = s.downPort := rfl
@[simp] theorem State.observe_ltr (s : State) (e : Env) : (s.observe e).ltr = s.ltr := rfl
@[simp] theorem State.observe_svi (s : State) (e : Env) : (s.observe e).svi = s.svi := rfl
@[simp] theorem State.observe_counters (s : State) (e : Env) : (s.observe e).counters = s.counters := rfl
@[simp] theorem State.observe_pending (s : State) (e : Env) : (s.observe e).pending = s.pending := rfl

@[simp] theorem State.observe_micros (s : State) (e : Env) : (s.observe e).micros = s.micros + e.dt := rfl
@[simp] theorem State.observe_ready (s : State) (e : Env) : (s.observe e).pins.ready = s.pins.ready := rfl
@[simp] theorem State.observe_fault (s : State) (e : Env) : (s.observe e).pins.fault = s.pins.fault := rfl
@[simp] theorem State.observe_estop (s : State) (e : Env) : (s.observe e).pins.estop = s.pins.estop := rfl

/-! ### Counters -/

@[simp] theorem State.countBy_micros (s : State) (c : Counter) (n : Nat) : (s.countBy c n).micros = s.micros := rfl
@[simp] theorem State.countBy_freeIndex (s : State) (c : Counter) (n : Nat) : (s.countBy c n).freeIndex = s.freeIndex := rfl
@[simp] theorem State.countBy_pins (s : State) (c : Counter) (n : Nat) : (s.countBy c n).pins = s.pins := rfl
@[simp] theorem State.countBy_ldu (s : State) (c : Counter) (n : Nat) : (s.countBy c n).ldu = s.ldu := rfl
@[simp] theorem State.countBy_cq (s : State) (c : Counter) (n : Nat) : (s.countBy c n).cq = s.cq := rfl
@[simp] theorem State.countBy_tau (s : State) (c : Counter) (n : Nat) : (s.countBy c n).tau = s.tau := rfl
@[simp] theorem State.countBy_pdu (s : State) (c : Counter) (n : Nat) : (s.countBy c n).pdu = s.pdu := rfl
@[simp] theorem State.countBy_ivi (s : State) (c : Counter) (n : Nat) : (s.countBy c n).ivi = s.ivi := rfl
@[simp] theorem State.countBy_cru (s : State) (c : Counter) (n : Nat) : (s.countBy c n).cru = s.cru := rfl
@[simp] theorem State.countBy_tracker (s : State) (c : Counter) (n : Nat) : (s.countBy c n).tracker = s.tracker := rfl
@[simp] theorem State.countBy_head (s : State) (c : Counter) (n : Nat) : (s.countBy c n).head = s.head := rfl
@[simp] theorem State.countBy_tail (s : State) (c : Counter) (n : Nat) : (s.countBy c n).tail = s.tail := rfl
@[simp] theorem State.countBy_exu (s : State) (c : Counter) (n : Nat) : (s.countBy c n).exu = s.exu := rfl
@[simp] theorem State.countBy_hlu (s : State) (c : Counter) (n : Nat) : (s.countBy c n).hlu = s.hlu := rfl
@[simp] theorem State.countBy_upPort (s : State) (c : Counter) (n : Nat) : (s.countBy c n).upPort = s.upPort := rfl
@[simp] theorem State.countBy_downPort (s : State) (c : Counter) (n : Nat) : (s.countBy c n).downPort = s.downPort := rfl
@[simp] theorem State.countBy_ltr (s : State) (c : Counter) (n : Nat) : (s.countBy c n).ltr = s.ltr := rfl
@[simp] theorem State.countBy_svi (s : State) (c : Counter) (n : Nat) : (s.countBy c n).svi = s.svi := rfl
@[simp] theorem State.countBy_pending (s : State) (c : Counter) (n : Nat) : (s.countBy c n).pending = s.pending := rfl

@[simp] theorem State.count_micros (s : State) (c : Counter) : (s.count c).micros = s.micros := rfl
@[simp] theorem State.count_freeIndex (s : State) (c : Counter) : (s.count c).freeIndex = s.freeIndex := rfl
@[simp] theorem State.count_pins (s : State) (c : Counter) : (s.count c).pins = s.pins := rfl
@[simp] theorem State.count_ldu (s : State) (c : Counter) : (s.count c).ldu = s.ldu := rfl
@[simp] theorem State.count_cq (s : State) (c : Counter) : (s.count c).cq = s.cq := rfl
@[simp] theorem State.count_tau (s : State) (c : Counter) : (s.count c).tau = s.tau := rfl
@[simp] theorem State.count_pdu (s : State) (c : Counter) : (s.count c).pdu = s.pdu := rfl
@[simp] theorem State.count_ivi (s : State) (c : Counter) : (s.count c).ivi = s.ivi := rfl
@[simp] theorem State.count_cru (s : State) (c : Counter) : (s.count c).cru = s.cru := rfl
@[simp] theorem State.count_tracker (s : State) (c : Counter) : (s.count c).tracker = s.tracker := rfl
@[simp] theorem State.count_head (s : State) (c : Counter) : (s.count c).head = s.head := rfl
@[simp] theorem State.count_tail (s : State) (c : Counter) : (s.count c).tail = s.tail := rfl
@[simp] theorem State.count_exu (s : State) (c : Counter) : (s.count c).exu = s.exu := rfl
@[simp] theorem State.count_hlu (s : State) (c : Counter) : (s.count c).hlu = s.hlu := rfl
@[simp] theorem State.count_upPort (s : State) (c : Counter) : (s.count c).upPort = s.upPort := rfl
@[simp] theorem State.count_downPort (s : State) (c : Counter) : (s.count c).downPort = s.downPort := rfl
@[simp] theorem State.count_ltr (s : State) (c : Counter) : (s.count c).ltr = s.ltr := rfl
@[simp] theorem State.count_svi (s : State) (c : Counter) : (s.count c).svi = s.svi := rfl
@[simp] theorem State.count_pending (s : State) (c : Counter) : (s.count c).pending = s.pending := rfl

/-! ### Ports -/

@[simp] theorem State.setPort_micros (s : State) (p : Port) (x : LinkPort) : (s.setPort p x).micros = s.micros := by cases p <;> rfl
@[simp] theorem State.setPort_freeIndex (s : State) (p : Port) (x : LinkPort) : (s.setPort p x).freeIndex = s.freeIndex := by cases p <;> rfl
@[simp] theorem State.setPort_pins (s : State) (p : Port) (x : LinkPort) : (s.setPort p x).pins = s.pins := by cases p <;> rfl
@[simp] theorem State.setPort_ldu (s : State) (p : Port) (x : LinkPort) : (s.setPort p x).ldu = s.ldu := by cases p <;> rfl
@[simp] theorem State.setPort_cq (s : State) (p : Port) (x : LinkPort) : (s.setPort p x).cq = s.cq := by cases p <;> rfl
@[simp] theorem State.setPort_tau (s : State) (p : Port) (x : LinkPort) : (s.setPort p x).tau = s.tau := by cases p <;> rfl
@[simp] theorem State.setPort_pdu (s : State) (p : Port) (x : LinkPort) : (s.setPort p x).pdu = s.pdu := by cases p <;> rfl
@[simp] theorem State.setPort_ivi (s : State) (p : Port) (x : LinkPort) : (s.setPort p x).ivi = s.ivi := by cases p <;> rfl
@[simp] theorem State.setPort_cru (s : State) (p : Port) (x : LinkPort) : (s.setPort p x).cru = s.cru := by cases p <;> rfl
@[simp] theorem State.setPort_tracker (s : State) (p : Port) (x : LinkPort) : (s.setPort p x).tracker = s.tracker := by cases p <;> rfl
@[simp] theorem State.setPort_head (s : State) (p : Port) (x : LinkPort) : (s.setPort p x).head = s.head := by cases p <;> rfl
@[simp] theorem State.setPort_tail (s : State) (p : Port) (x : LinkPort) : (s.setPort p x).tail = s.tail := by cases p <;> rfl
@[simp] theorem State.setPort_exu (s : State) (p : Port) (x : LinkPort) : (s.setPort p x).exu = s.exu := by cases p <;> rfl
@[simp] theorem State.setPort_hlu (s : State) (p : Port) (x : LinkPort) : (s.setPort p x).hlu = s.hlu := by cases p <;> rfl
@[simp] theorem State.setPort_ltr (s : State) (p : Port) (x : LinkPort) : (s.setPort p x).ltr = s.ltr := by cases p <;> rfl
@[simp] theorem State.setPort_svi (s : State) (p : Port) (x : LinkPort) : (s.setPort p x).svi = s.svi := by cases p <;> rfl
@[simp] theorem State.setPort_counters (s : State) (p : Port) (x : LinkPort) : (s.setPort p x).counters = s.counters := by cases p <;> rfl
@[simp] theorem State.setPort_pending (s : State) (p : Port) (x : LinkPort) : (s.setPort p x).pending = s.pending := by cases p <;> rfl

@[simp] theorem State.setPort_port (s : State) (p : Port) (x : LinkPort) : (s.setPort p x).port p = x := by cases p <;> rfl

@[simp] theorem State.setPort_other (s : State) (p : Port) (x : LinkPort) : (s.setPort p x).port p.other = s.port p.other := by
  cases p <;> rfl

@[simp] theorem State.setPort_up_upPort (s : State) (x : LinkPort) : (s.setPort .up x).upPort = x := rfl
@[simp] theorem State.setPort_up_downPort (s : State) (x : LinkPort) : (s.setPort .up x).downPort = s.downPort := rfl
@[simp] theorem State.setPort_down_upPort (s : State) (x : LinkPort) : (s.setPort .down x).upPort = s.upPort := rfl
@[simp] theorem State.setPort_down_downPort (s : State) (x : LinkPort) : (s.setPort .down x).downPort = x := rfl
@[simp] theorem State.port_up (s : State) : s.port .up = s.upPort := rfl
@[simp] theorem State.port_down (s : State) : s.port .down = s.downPort := rfl

@[simp] theorem State.portCountBy_micros (s : State) (p : Port) (c : PortCounter) (n : Nat) : (s.portCountBy p c n).micros = s.micros := by cases p <;> rfl
@[simp] theorem State.portCountBy_freeIndex (s : State) (p : Port) (c : PortCounter) (n : Nat) : (s.portCountBy p c n).freeIndex = s.freeIndex := by cases p <;> rfl
@[simp] theorem State.portCountBy_pins (s : State) (p : Port) (c : PortCounter) (n : Nat) : (s.portCountBy p c n).pins = s.pins := by cases p <;> rfl
@[simp] theorem State.portCountBy_ldu (s : State) (p : Port) (c : PortCounter) (n : Nat) : (s.portCountBy p c n).ldu = s.ldu := by cases p <;> rfl
@[simp] theorem State.portCountBy_cq (s : State) (p : Port) (c : PortCounter) (n : Nat) : (s.portCountBy p c n).cq = s.cq := by cases p <;> rfl
@[simp] theorem State.portCountBy_tau (s : State) (p : Port) (c : PortCounter) (n : Nat) : (s.portCountBy p c n).tau = s.tau := by cases p <;> rfl
@[simp] theorem State.portCountBy_pdu (s : State) (p : Port) (c : PortCounter) (n : Nat) : (s.portCountBy p c n).pdu = s.pdu := by cases p <;> rfl
@[simp] theorem State.portCountBy_ivi (s : State) (p : Port) (c : PortCounter) (n : Nat) : (s.portCountBy p c n).ivi = s.ivi := by cases p <;> rfl
@[simp] theorem State.portCountBy_cru (s : State) (p : Port) (c : PortCounter) (n : Nat) : (s.portCountBy p c n).cru = s.cru := by cases p <;> rfl
@[simp] theorem State.portCountBy_tracker (s : State) (p : Port) (c : PortCounter) (n : Nat) : (s.portCountBy p c n).tracker = s.tracker := by cases p <;> rfl
@[simp] theorem State.portCountBy_head (s : State) (p : Port) (c : PortCounter) (n : Nat) : (s.portCountBy p c n).head = s.head := by cases p <;> rfl
@[simp] theorem State.portCountBy_tail (s : State) (p : Port) (c : PortCounter) (n : Nat) : (s.portCountBy p c n).tail = s.tail := by cases p <;> rfl
@[simp] theorem State.portCountBy_exu (s : State) (p : Port) (c : PortCounter) (n : Nat) : (s.portCountBy p c n).exu = s.exu := by cases p <;> rfl
@[simp] theorem State.portCountBy_hlu (s : State) (p : Port) (c : PortCounter) (n : Nat) : (s.portCountBy p c n).hlu = s.hlu := by cases p <;> rfl
@[simp] theorem State.portCountBy_ltr (s : State) (p : Port) (c : PortCounter) (n : Nat) : (s.portCountBy p c n).ltr = s.ltr := by cases p <;> rfl
@[simp] theorem State.portCountBy_svi (s : State) (p : Port) (c : PortCounter) (n : Nat) : (s.portCountBy p c n).svi = s.svi := by cases p <;> rfl
@[simp] theorem State.portCountBy_counters (s : State) (p : Port) (c : PortCounter) (n : Nat) : (s.portCountBy p c n).counters = s.counters := by cases p <;> rfl
@[simp] theorem State.portCountBy_pending (s : State) (p : Port) (c : PortCounter) (n : Nat) : (s.portCountBy p c n).pending = s.pending := by cases p <;> rfl

@[simp] theorem State.portCount_micros (s : State) (p : Port) (c : PortCounter) : (s.portCount p c).micros = s.micros := by cases p <;> rfl
@[simp] theorem State.portCount_freeIndex (s : State) (p : Port) (c : PortCounter) : (s.portCount p c).freeIndex = s.freeIndex := by cases p <;> rfl
@[simp] theorem State.portCount_pins (s : State) (p : Port) (c : PortCounter) : (s.portCount p c).pins = s.pins := by cases p <;> rfl
@[simp] theorem State.portCount_ldu (s : State) (p : Port) (c : PortCounter) : (s.portCount p c).ldu = s.ldu := by cases p <;> rfl
@[simp] theorem State.portCount_cq (s : State) (p : Port) (c : PortCounter) : (s.portCount p c).cq = s.cq := by cases p <;> rfl
@[simp] theorem State.portCount_tau (s : State) (p : Port) (c : PortCounter) : (s.portCount p c).tau = s.tau := by cases p <;> rfl
@[simp] theorem State.portCount_pdu (s : State) (p : Port) (c : PortCounter) : (s.portCount p c).pdu = s.pdu := by cases p <;> rfl
@[simp] theorem State.portCount_ivi (s : State) (p : Port) (c : PortCounter) : (s.portCount p c).ivi = s.ivi := by cases p <;> rfl
@[simp] theorem State.portCount_cru (s : State) (p : Port) (c : PortCounter) : (s.portCount p c).cru = s.cru := by cases p <;> rfl
@[simp] theorem State.portCount_tracker (s : State) (p : Port) (c : PortCounter) : (s.portCount p c).tracker = s.tracker := by cases p <;> rfl
@[simp] theorem State.portCount_head (s : State) (p : Port) (c : PortCounter) : (s.portCount p c).head = s.head := by cases p <;> rfl
@[simp] theorem State.portCount_tail (s : State) (p : Port) (c : PortCounter) : (s.portCount p c).tail = s.tail := by cases p <;> rfl
@[simp] theorem State.portCount_exu (s : State) (p : Port) (c : PortCounter) : (s.portCount p c).exu = s.exu := by cases p <;> rfl
@[simp] theorem State.portCount_hlu (s : State) (p : Port) (c : PortCounter) : (s.portCount p c).hlu = s.hlu := by cases p <;> rfl
@[simp] theorem State.portCount_ltr (s : State) (p : Port) (c : PortCounter) : (s.portCount p c).ltr = s.ltr := by cases p <;> rfl
@[simp] theorem State.portCount_svi (s : State) (p : Port) (c : PortCounter) : (s.portCount p c).svi = s.svi := by cases p <;> rfl
@[simp] theorem State.portCount_counters (s : State) (p : Port) (c : PortCounter) : (s.portCount p c).counters = s.counters := by cases p <;> rfl
@[simp] theorem State.portCount_pending (s : State) (p : Port) (c : PortCounter) : (s.portCount p c).pending = s.pending := by cases p <;> rfl

@[simp] theorem State.portCountBy_port (s : State) (p : Port) (c : PortCounter) (n : Nat) :
    (s.portCountBy p c n).port p = (s.port p).countBy c n := by cases p <;> rfl

@[simp] theorem State.portCountBy_other (s : State) (p : Port) (c : PortCounter) (n : Nat) :
    (s.portCountBy p c n).port p.other = s.port p.other := by cases p <;> rfl

@[simp] theorem LinkPort.countBy_link (x : LinkPort) (c : PortCounter) (n : Nat) : (x.countBy c n).link = x.link := rfl
@[simp] theorem LinkPort.countBy_validRun (x : LinkPort) (c : PortCounter) (n : Nat) : (x.countBy c n).validRun = x.validRun := rfl
@[simp] theorem LinkPort.countBy_errorRun (x : LinkPort) (c : PortCounter) (n : Nat) : (x.countBy c n).errorRun = x.errorRun := rfl
@[simp] theorem LinkPort.countBy_silence (x : LinkPort) (c : PortCounter) (n : Nat) : (x.countBy c n).silence = x.silence := rfl
@[simp] theorem LinkPort.countBy_receiver (x : LinkPort) (c : PortCounter) (n : Nat) : (x.countBy c n).receiver = x.receiver := rfl
@[simp] theorem LinkPort.countBy_transmitter (x : LinkPort) (c : PortCounter) (n : Nat) : (x.countBy c n).transmitter = x.transmitter := rfl
@[simp] theorem LinkPort.countBy_forward (x : LinkPort) (c : PortCounter) (n : Nat) : (x.countBy c n).forward = x.forward := rfl
@[simp] theorem LinkPort.countBy_localQ (x : LinkPort) (c : PortCounter) (n : Nat) : (x.countBy c n).localQ = x.localQ := rfl
@[simp] theorem LinkPort.countBy_starvation (x : LinkPort) (c : PortCounter) (n : Nat) : (x.countBy c n).starvation = x.starvation := rfl
@[simp] theorem LinkPort.countBy_check (x : LinkPort) (c : PortCounter) (n : Nat) : (x.countBy c n).check = x.check := rfl
@[simp] theorem LinkPort.countBy_checkTimer (x : LinkPort) (c : PortCounter) (n : Nat) : (x.countBy c n).checkTimer = x.checkTimer := rfl
@[simp] theorem LinkPort.countBy_recvEnd (x : LinkPort) (c : PortCounter) (n : Nat) : (x.countBy c n).recvEnd = x.recvEnd := rfl
@[simp] theorem LinkPort.countBy_sendEnd (x : LinkPort) (c : PortCounter) (n : Nat) : (x.countBy c n).sendEnd = x.sendEnd := rfl

/-! ### The trace -/

@[simp] theorem State.offerTrace_micros (s : State) (o : Offer) : (s.offerTrace o).micros = s.micros := rfl
@[simp] theorem State.offerTrace_freeIndex (s : State) (o : Offer) : (s.offerTrace o).freeIndex = s.freeIndex := rfl
@[simp] theorem State.offerTrace_pins (s : State) (o : Offer) : (s.offerTrace o).pins = s.pins := rfl
@[simp] theorem State.offerTrace_ldu (s : State) (o : Offer) : (s.offerTrace o).ldu = s.ldu := rfl
@[simp] theorem State.offerTrace_cq (s : State) (o : Offer) : (s.offerTrace o).cq = s.cq := rfl
@[simp] theorem State.offerTrace_tau (s : State) (o : Offer) : (s.offerTrace o).tau = s.tau := rfl
@[simp] theorem State.offerTrace_pdu (s : State) (o : Offer) : (s.offerTrace o).pdu = s.pdu := rfl
@[simp] theorem State.offerTrace_ivi (s : State) (o : Offer) : (s.offerTrace o).ivi = s.ivi := rfl
@[simp] theorem State.offerTrace_cru (s : State) (o : Offer) : (s.offerTrace o).cru = s.cru := rfl
@[simp] theorem State.offerTrace_tracker (s : State) (o : Offer) : (s.offerTrace o).tracker = s.tracker := rfl
@[simp] theorem State.offerTrace_head (s : State) (o : Offer) : (s.offerTrace o).head = s.head := rfl
@[simp] theorem State.offerTrace_tail (s : State) (o : Offer) : (s.offerTrace o).tail = s.tail := rfl
@[simp] theorem State.offerTrace_exu (s : State) (o : Offer) : (s.offerTrace o).exu = s.exu := rfl
@[simp] theorem State.offerTrace_hlu (s : State) (o : Offer) : (s.offerTrace o).hlu = s.hlu := rfl
@[simp] theorem State.offerTrace_upPort (s : State) (o : Offer) : (s.offerTrace o).upPort = s.upPort := rfl
@[simp] theorem State.offerTrace_downPort (s : State) (o : Offer) : (s.offerTrace o).downPort = s.downPort := rfl
@[simp] theorem State.offerTrace_svi (s : State) (o : Offer) : (s.offerTrace o).svi = s.svi := rfl
@[simp] theorem State.offerTrace_counters (s : State) (o : Offer) : (s.offerTrace o).counters = s.counters := rfl
@[simp] theorem State.offerTrace_pending (s : State) (o : Offer) : (s.offerTrace o).pending = s.pending := rfl

@[simp] theorem State.traceDrop_micros (s : State) (p : Port) (k : ErrorKind) (v : FrameView) : (s.traceDrop p k v).micros = s.micros := rfl
@[simp] theorem State.traceDrop_freeIndex (s : State) (p : Port) (k : ErrorKind) (v : FrameView) : (s.traceDrop p k v).freeIndex = s.freeIndex := rfl
@[simp] theorem State.traceDrop_pins (s : State) (p : Port) (k : ErrorKind) (v : FrameView) : (s.traceDrop p k v).pins = s.pins := rfl
@[simp] theorem State.traceDrop_ldu (s : State) (p : Port) (k : ErrorKind) (v : FrameView) : (s.traceDrop p k v).ldu = s.ldu := rfl
@[simp] theorem State.traceDrop_cq (s : State) (p : Port) (k : ErrorKind) (v : FrameView) : (s.traceDrop p k v).cq = s.cq := rfl
@[simp] theorem State.traceDrop_tau (s : State) (p : Port) (k : ErrorKind) (v : FrameView) : (s.traceDrop p k v).tau = s.tau := rfl
@[simp] theorem State.traceDrop_pdu (s : State) (p : Port) (k : ErrorKind) (v : FrameView) : (s.traceDrop p k v).pdu = s.pdu := rfl
@[simp] theorem State.traceDrop_ivi (s : State) (p : Port) (k : ErrorKind) (v : FrameView) : (s.traceDrop p k v).ivi = s.ivi := rfl
@[simp] theorem State.traceDrop_cru (s : State) (p : Port) (k : ErrorKind) (v : FrameView) : (s.traceDrop p k v).cru = s.cru := rfl
@[simp] theorem State.traceDrop_tracker (s : State) (p : Port) (k : ErrorKind) (v : FrameView) : (s.traceDrop p k v).tracker = s.tracker := rfl
@[simp] theorem State.traceDrop_head (s : State) (p : Port) (k : ErrorKind) (v : FrameView) : (s.traceDrop p k v).head = s.head := rfl
@[simp] theorem State.traceDrop_tail (s : State) (p : Port) (k : ErrorKind) (v : FrameView) : (s.traceDrop p k v).tail = s.tail := rfl
@[simp] theorem State.traceDrop_exu (s : State) (p : Port) (k : ErrorKind) (v : FrameView) : (s.traceDrop p k v).exu = s.exu := rfl
@[simp] theorem State.traceDrop_hlu (s : State) (p : Port) (k : ErrorKind) (v : FrameView) : (s.traceDrop p k v).hlu = s.hlu := rfl
@[simp] theorem State.traceDrop_upPort (s : State) (p : Port) (k : ErrorKind) (v : FrameView) : (s.traceDrop p k v).upPort = s.upPort := rfl
@[simp] theorem State.traceDrop_downPort (s : State) (p : Port) (k : ErrorKind) (v : FrameView) : (s.traceDrop p k v).downPort = s.downPort := rfl
@[simp] theorem State.traceDrop_svi (s : State) (p : Port) (k : ErrorKind) (v : FrameView) : (s.traceDrop p k v).svi = s.svi := rfl
@[simp] theorem State.traceDrop_counters (s : State) (p : Port) (k : ErrorKind) (v : FrameView) : (s.traceDrop p k v).counters = s.counters := rfl
@[simp] theorem State.traceDrop_pending (s : State) (p : Port) (k : ErrorKind) (v : FrameView) : (s.traceDrop p k v).pending = s.pending := rfl

@[simp] theorem State.traceAction_micros (s : State) (p : Port) (a : Action) (v : FrameView) : (s.traceAction p a v).micros = s.micros := rfl
@[simp] theorem State.traceAction_freeIndex (s : State) (p : Port) (a : Action) (v : FrameView) : (s.traceAction p a v).freeIndex = s.freeIndex := rfl
@[simp] theorem State.traceAction_pins (s : State) (p : Port) (a : Action) (v : FrameView) : (s.traceAction p a v).pins = s.pins := rfl
@[simp] theorem State.traceAction_ldu (s : State) (p : Port) (a : Action) (v : FrameView) : (s.traceAction p a v).ldu = s.ldu := rfl
@[simp] theorem State.traceAction_cq (s : State) (p : Port) (a : Action) (v : FrameView) : (s.traceAction p a v).cq = s.cq := rfl
@[simp] theorem State.traceAction_tau (s : State) (p : Port) (a : Action) (v : FrameView) : (s.traceAction p a v).tau = s.tau := rfl
@[simp] theorem State.traceAction_pdu (s : State) (p : Port) (a : Action) (v : FrameView) : (s.traceAction p a v).pdu = s.pdu := rfl
@[simp] theorem State.traceAction_ivi (s : State) (p : Port) (a : Action) (v : FrameView) : (s.traceAction p a v).ivi = s.ivi := rfl
@[simp] theorem State.traceAction_cru (s : State) (p : Port) (a : Action) (v : FrameView) : (s.traceAction p a v).cru = s.cru := rfl
@[simp] theorem State.traceAction_tracker (s : State) (p : Port) (a : Action) (v : FrameView) : (s.traceAction p a v).tracker = s.tracker := rfl
@[simp] theorem State.traceAction_head (s : State) (p : Port) (a : Action) (v : FrameView) : (s.traceAction p a v).head = s.head := rfl
@[simp] theorem State.traceAction_tail (s : State) (p : Port) (a : Action) (v : FrameView) : (s.traceAction p a v).tail = s.tail := rfl
@[simp] theorem State.traceAction_exu (s : State) (p : Port) (a : Action) (v : FrameView) : (s.traceAction p a v).exu = s.exu := rfl
@[simp] theorem State.traceAction_hlu (s : State) (p : Port) (a : Action) (v : FrameView) : (s.traceAction p a v).hlu = s.hlu := rfl
@[simp] theorem State.traceAction_upPort (s : State) (p : Port) (a : Action) (v : FrameView) : (s.traceAction p a v).upPort = s.upPort := rfl
@[simp] theorem State.traceAction_downPort (s : State) (p : Port) (a : Action) (v : FrameView) : (s.traceAction p a v).downPort = s.downPort := rfl
@[simp] theorem State.traceAction_svi (s : State) (p : Port) (a : Action) (v : FrameView) : (s.traceAction p a v).svi = s.svi := rfl
@[simp] theorem State.traceAction_counters (s : State) (p : Port) (a : Action) (v : FrameView) : (s.traceAction p a v).counters = s.counters := rfl
@[simp] theorem State.traceAction_pending (s : State) (p : Port) (a : Action) (v : FrameView) : (s.traceAction p a v).pending = s.pending := rfl

/-! ### The service receiver -/

@[simp] theorem State.setSvcReceiver_micros (s : State) (x : SvcReceiver) : (s.setSvcReceiver x).micros = s.micros := rfl
@[simp] theorem State.setSvcReceiver_freeIndex (s : State) (x : SvcReceiver) : (s.setSvcReceiver x).freeIndex = s.freeIndex := rfl
@[simp] theorem State.setSvcReceiver_pins (s : State) (x : SvcReceiver) : (s.setSvcReceiver x).pins = s.pins := rfl
@[simp] theorem State.setSvcReceiver_ldu (s : State) (x : SvcReceiver) : (s.setSvcReceiver x).ldu = s.ldu := rfl
@[simp] theorem State.setSvcReceiver_cq (s : State) (x : SvcReceiver) : (s.setSvcReceiver x).cq = s.cq := rfl
@[simp] theorem State.setSvcReceiver_tau (s : State) (x : SvcReceiver) : (s.setSvcReceiver x).tau = s.tau := rfl
@[simp] theorem State.setSvcReceiver_pdu (s : State) (x : SvcReceiver) : (s.setSvcReceiver x).pdu = s.pdu := rfl
@[simp] theorem State.setSvcReceiver_ivi (s : State) (x : SvcReceiver) : (s.setSvcReceiver x).ivi = s.ivi := rfl
@[simp] theorem State.setSvcReceiver_cru (s : State) (x : SvcReceiver) : (s.setSvcReceiver x).cru = s.cru := rfl
@[simp] theorem State.setSvcReceiver_tracker (s : State) (x : SvcReceiver) : (s.setSvcReceiver x).tracker = s.tracker := rfl
@[simp] theorem State.setSvcReceiver_head (s : State) (x : SvcReceiver) : (s.setSvcReceiver x).head = s.head := rfl
@[simp] theorem State.setSvcReceiver_tail (s : State) (x : SvcReceiver) : (s.setSvcReceiver x).tail = s.tail := rfl
@[simp] theorem State.setSvcReceiver_exu (s : State) (x : SvcReceiver) : (s.setSvcReceiver x).exu = s.exu := rfl
@[simp] theorem State.setSvcReceiver_hlu (s : State) (x : SvcReceiver) : (s.setSvcReceiver x).hlu = s.hlu := rfl
@[simp] theorem State.setSvcReceiver_upPort (s : State) (x : SvcReceiver) : (s.setSvcReceiver x).upPort = s.upPort := rfl
@[simp] theorem State.setSvcReceiver_downPort (s : State) (x : SvcReceiver) : (s.setSvcReceiver x).downPort = s.downPort := rfl
@[simp] theorem State.setSvcReceiver_ltr (s : State) (x : SvcReceiver) : (s.setSvcReceiver x).ltr = s.ltr := rfl
@[simp] theorem State.setSvcReceiver_counters (s : State) (x : SvcReceiver) : (s.setSvcReceiver x).counters = s.counters := rfl
@[simp] theorem State.setSvcReceiver_pending (s : State) (x : SvcReceiver) : (s.setSvcReceiver x).pending = s.pending := rfl

@[simp] theorem State.setSvcReceiver_image (s : State) (x : SvcReceiver) : (s.setSvcReceiver x).svi.image = s.svi.image := rfl

@[simp] theorem State.setSvcReceiver_receiver (s : State) (x : SvcReceiver) : (s.setSvcReceiver x).svi.receiver = x := rfl

@[simp] theorem State.setSvcReceiver_again (s : State) (x y : SvcReceiver) :
    (s.setSvcReceiver x).setSvcReceiver y = s.setSvcReceiver y := rfl

/-! ### What the units read -/

@[simp] theorem State.countBy_now (s : State) (c : Counter) (n : Nat) : (s.countBy c n).now = s.now := rfl
@[simp] theorem State.countBy_img (s : State) (c : Counter) (n : Nat) : (s.countBy c n).img = s.img := rfl
@[simp] theorem State.countBy_pos (s : State) (c : Counter) (n : Nat) : (s.countBy c n).pos = s.pos := rfl
@[simp] theorem State.countBy_onLine (s : State) (c : Counter) (n : Nat) : (s.countBy c n).onLine = s.onLine := rfl
@[simp] theorem State.countBy_isHead (s : State) (c : Counter) (n : Nat) : (s.countBy c n).isHead = s.isHead := rfl
@[simp] theorem State.countBy_isTail (s : State) (c : Counter) (n : Nat) : (s.countBy c n).isTail = s.isTail := rfl
@[simp] theorem State.countBy_isSingle (s : State) (c : Counter) (n : Nat) : (s.countBy c n).isSingle = s.isSingle := rfl
@[simp] theorem State.countBy_originByte (s : State) (c : Counter) (n : Nat) : (s.countBy c n).originByte = s.originByte := rfl

@[simp] theorem State.count_now (s : State) (c : Counter) : (s.count c).now = s.now := rfl
@[simp] theorem State.count_img (s : State) (c : Counter) : (s.count c).img = s.img := rfl
@[simp] theorem State.count_pos (s : State) (c : Counter) : (s.count c).pos = s.pos := rfl
@[simp] theorem State.count_onLine (s : State) (c : Counter) : (s.count c).onLine = s.onLine := rfl
@[simp] theorem State.count_isHead (s : State) (c : Counter) : (s.count c).isHead = s.isHead := rfl
@[simp] theorem State.count_isTail (s : State) (c : Counter) : (s.count c).isTail = s.isTail := rfl
@[simp] theorem State.count_isSingle (s : State) (c : Counter) : (s.count c).isSingle = s.isSingle := rfl
@[simp] theorem State.count_originByte (s : State) (c : Counter) : (s.count c).originByte = s.originByte := rfl

@[simp] theorem State.observe_img (s : State) (e : Env) : (s.observe e).img = s.img := rfl
@[simp] theorem State.observe_pos (s : State) (e : Env) : (s.observe e).pos = s.pos := rfl
@[simp] theorem State.observe_onLine (s : State) (e : Env) : (s.observe e).onLine = s.onLine := rfl
@[simp] theorem State.observe_isHead (s : State) (e : Env) : (s.observe e).isHead = s.isHead := rfl
@[simp] theorem State.observe_isTail (s : State) (e : Env) : (s.observe e).isTail = s.isTail := rfl
@[simp] theorem State.observe_isSingle (s : State) (e : Env) : (s.observe e).isSingle = s.isSingle := rfl
@[simp] theorem State.observe_originByte (s : State) (e : Env) : (s.observe e).originByte = s.originByte := rfl

/-! ### A counter after a count -/

/-- Two counters do not share a place. -/
theorem Counter.idx_injective {c d : Counter} (h : c.idx = d.idx) : c = d := by
  have hv : c.ctorIdx = d.ctorIdx := congrArg Fin.val h
  rw [← Counter.ofNat_ctorIdx c, ← Counter.ofNat_ctorIdx d, hv]

/-- Two counters of a port do not share a place. -/
theorem PortCounter.idx_injective {c d : PortCounter} (h : c.idx = d.idx) : c = d := by
  have hv : c.ctorIdx = d.ctorIdx := congrArg Fin.val h
  rw [← PortCounter.ofNat_ctorIdx c, ← PortCounter.ofNat_ctorIdx d, hv]

/-- Counting one counter leaves every other. -/
theorem State.counter_countBy_ne (s : State) (c d : Counter) (n : Nat) (h : c ≠ d) :
    (s.countBy c n).counter d = s.counter d := by
  have hidx : c.idx ≠ d.idx := fun he => h (Counter.idx_injective he)
  simp only [State.counter, State.countBy, Vector.get_eq_getElem]
  exact Vector.getElem_set_ne _ _ (fun he => hidx (Fin.ext he))

/-- A counter rises by what is counted, and saturates. -/
@[simp] theorem State.counter_countBy (s : State) (c : Counter) (n : Nat) :
    (s.countBy c n).counter c = satAdd (s.counter c) n := by
  simp [State.counter, State.countBy, Vector.get_eq_getElem]

end Sys2Proof.Machine
end

