-- ==== Sys2Proof/Laws/Frames.lean ====
section
/-!
SUPPORT. What a shared operation may change, as a relation between the state before and after it: one field for each part of the
state that it leaves as it was, or changes only in the items named.
-/

namespace Sys2Proof.Machine

/-- All that may differ when a unit offers frames and counts: the local queues and counters of the ports, the trace, the counters, and the loans a displacement restores (R81). -/
structure LinkFrame (s t : State) : Prop where
  micros : t.micros = s.micros
  freeIndex : t.freeIndex = s.freeIndex
  pins : t.pins = s.pins
  ldu : t.ldu = s.ldu
  cq : t.cq = s.cq
  tau : t.tau = s.tau
  pdu : t.pdu = s.pdu
  ivi : t.ivi = s.ivi
  cru : t.cru = { s.cru with loans := t.cru.loans }
  tracker : t.tracker = s.tracker
  head : t.head = s.head
  tail : t.tail = s.tail
  exu : t.exu = s.exu
  hlu : t.hlu = s.hlu
  upPort : t.upPort = { s.upPort with localQ := t.upPort.localQ, counters := t.upPort.counters }
  downPort : t.downPort = { s.downPort with localQ := t.downPort.localQ, counters := t.downPort.counters }
  svi : t.svi = s.svi
  pending : t.pending = s.pending

@[refl] theorem LinkFrame.refl (s : State) : LinkFrame s s := ⟨rfl, rfl, rfl, rfl, rfl, rfl, rfl, rfl, rfl, rfl, rfl, rfl, rfl, rfl, rfl, rfl, rfl, rfl⟩

@[trans] theorem LinkFrame.trans {s t u : State} (h : LinkFrame s t) (k : LinkFrame t u) : LinkFrame s u :=
  { micros := k.micros.trans h.micros
    freeIndex := k.freeIndex.trans h.freeIndex
    pins := k.pins.trans h.pins
    ldu := k.ldu.trans h.ldu
    cq := k.cq.trans h.cq
    tau := k.tau.trans h.tau
    pdu := k.pdu.trans h.pdu
    ivi := k.ivi.trans h.ivi
    cru := k.cru.trans (by rw [h.cru])
    tracker := k.tracker.trans h.tracker
    head := k.head.trans h.head
    tail := k.tail.trans h.tail
    exu := k.exu.trans h.exu
    hlu := k.hlu.trans h.hlu
    upPort := k.upPort.trans (by rw [h.upPort])
    downPort := k.downPort.trans (by rw [h.downPort])
    svi := k.svi.trans h.svi
    pending := k.pending.trans h.pending }

/-- All that may differ when the Hold Unit acts: the hold cause list, the line mode, and the start of a stroke at the head (R98). -/
structure HoldFrame (s t : State) : Prop where
  micros : t.micros = s.micros
  freeIndex : t.freeIndex = s.freeIndex
  pins : t.pins = s.pins
  ldu : t.ldu = { s.ldu with state := t.ldu.state }
  cq : t.cq = s.cq
  tau : t.tau = s.tau
  pdu : t.pdu = s.pdu
  ivi : t.ivi = s.ivi
  cru : t.cru = { s.cru with loans := t.cru.loans }
  tracker : t.tracker = s.tracker
  head : t.head = { s.head with calls := t.head.calls, lastExecuted := t.head.lastExecuted, pusher := t.head.pusher, pulse := t.head.pulse, timer := t.head.timer }
  tail : t.tail = s.tail
  exu : t.exu = s.exu
  upPort : t.upPort = { s.upPort with localQ := t.upPort.localQ, counters := t.upPort.counters }
  downPort : t.downPort = { s.downPort with localQ := t.downPort.localQ, counters := t.downPort.counters }
  svi : t.svi = s.svi
  pending : t.pending = s.pending

@[refl] theorem HoldFrame.refl (s : State) : HoldFrame s s := ⟨rfl, rfl, rfl, rfl, rfl, rfl, rfl, rfl, rfl, rfl, rfl, rfl, rfl, rfl, rfl, rfl, rfl⟩

@[trans] theorem HoldFrame.trans {s t u : State} (h : HoldFrame s t) (k : HoldFrame t u) : HoldFrame s u :=
  { micros := k.micros.trans h.micros
    freeIndex := k.freeIndex.trans h.freeIndex
    pins := k.pins.trans h.pins
    ldu := k.ldu.trans (by rw [h.ldu])
    cq := k.cq.trans h.cq
    tau := k.tau.trans h.tau
    pdu := k.pdu.trans h.pdu
    ivi := k.ivi.trans h.ivi
    cru := k.cru.trans (by rw [h.cru])
    tracker := k.tracker.trans h.tracker
    head := k.head.trans (by rw [h.head])
    tail := k.tail.trans h.tail
    exu := k.exu.trans h.exu
    upPort := k.upPort.trans (by rw [h.upPort])
    downPort := k.downPort.trans (by rw [h.downPort])
    svi := k.svi.trans h.svi
    pending := k.pending.trans h.pending }

/-- All that may differ when a call is sent: the tail and the head that may take it. -/
structure CallFrame (s t : State) : Prop where
  micros : t.micros = s.micros
  freeIndex : t.freeIndex = s.freeIndex
  pins : t.pins = s.pins
  ldu : t.ldu = s.ldu
  cq : t.cq = s.cq
  tau : t.tau = s.tau
  pdu : t.pdu = s.pdu
  ivi : t.ivi = s.ivi
  cru : t.cru = { s.cru with loans := t.cru.loans }
  tracker : t.tracker = s.tracker
  head : t.head = { s.head with calls := t.head.calls, lastExecuted := t.head.lastExecuted, pusher := t.head.pusher, pulse := t.head.pulse, timer := t.head.timer }
  exu : t.exu = s.exu
  hlu : t.hlu = s.hlu
  upPort : t.upPort = { s.upPort with localQ := t.upPort.localQ, counters := t.upPort.counters }
  downPort : t.downPort = { s.downPort with localQ := t.downPort.localQ, counters := t.downPort.counters }
  svi : t.svi = s.svi
  pending : t.pending = s.pending

@[refl] theorem CallFrame.refl (s : State) : CallFrame s s := ⟨rfl, rfl, rfl, rfl, rfl, rfl, rfl, rfl, rfl, rfl, rfl, rfl, rfl, rfl, rfl, rfl, rfl⟩

@[trans] theorem CallFrame.trans {s t u : State} (h : CallFrame s t) (k : CallFrame t u) : CallFrame s u :=
  { micros := k.micros.trans h.micros
    freeIndex := k.freeIndex.trans h.freeIndex
    pins := k.pins.trans h.pins
    ldu := k.ldu.trans h.ldu
    cq := k.cq.trans h.cq
    tau := k.tau.trans h.tau
    pdu := k.pdu.trans h.pdu
    ivi := k.ivi.trans h.ivi
    cru := k.cru.trans (by rw [h.cru])
    tracker := k.tracker.trans h.tracker
    head := k.head.trans (by rw [h.head])
    exu := k.exu.trans h.exu
    hlu := k.hlu.trans h.hlu
    upPort := k.upPort.trans (by rw [h.upPort])
    downPort := k.downPort.trans (by rw [h.downPort])
    svi := k.svi.trans h.svi
    pending := k.pending.trans h.pending }

/-- All that may differ when the Exit Unit decides: its own state, τ, and the timers of the tail. -/
structure ExitFrame (s t : State) : Prop where
  micros : t.micros = s.micros
  freeIndex : t.freeIndex = s.freeIndex
  pins : t.pins = s.pins
  ldu : t.ldu = s.ldu
  cq : t.cq = s.cq
  tau : t.tau = { s.tau with trim := t.tau.trim }
  pdu : t.pdu = s.pdu
  ivi : t.ivi = s.ivi
  cru : t.cru = { s.cru with loans := t.cru.loans }
  tracker : t.tracker = s.tracker
  head : t.head = s.head
  hlu : t.hlu = s.hlu
  upPort : t.upPort = { s.upPort with localQ := t.upPort.localQ, counters := t.upPort.counters }
  downPort : t.downPort = { s.downPort with localQ := t.downPort.localQ, counters := t.downPort.counters }
  svi : t.svi = s.svi
  pending : t.pending = s.pending

@[refl] theorem ExitFrame.refl (s : State) : ExitFrame s s := ⟨rfl, rfl, rfl, rfl, rfl, rfl, rfl, rfl, rfl, rfl, rfl, rfl, rfl, rfl, rfl, rfl⟩

@[trans] theorem ExitFrame.trans {s t u : State} (h : ExitFrame s t) (k : ExitFrame t u) : ExitFrame s u :=
  { micros := k.micros.trans h.micros
    freeIndex := k.freeIndex.trans h.freeIndex
    pins := k.pins.trans h.pins
    ldu := k.ldu.trans h.ldu
    cq := k.cq.trans h.cq
    tau := k.tau.trans (by rw [h.tau])
    pdu := k.pdu.trans h.pdu
    ivi := k.ivi.trans h.ivi
    cru := k.cru.trans (by rw [h.cru])
    tracker := k.tracker.trans h.tracker
    head := k.head.trans h.head
    hlu := k.hlu.trans h.hlu
    upPort := k.upPort.trans (by rw [h.upPort])
    downPort := k.downPort.trans (by rw [h.downPort])
    svi := k.svi.trans h.svi
    pending := k.pending.trans h.pending }

/-- All that may differ when the coil queue shifts, with what follows at the tail. -/
structure ShiftFrame (s t : State) : Prop where
  micros : t.micros = s.micros
  freeIndex : t.freeIndex = s.freeIndex
  pins : t.pins = s.pins
  ldu : t.ldu = s.ldu
  tau : t.tau = { s.tau with trim := t.tau.trim }
  pdu : t.pdu = s.pdu
  ivi : t.ivi = s.ivi
  cru : t.cru = { s.cru with loans := t.cru.loans }
  tracker : t.tracker = s.tracker
  head : t.head = { s.head with calls := t.head.calls, lastExecuted := t.head.lastExecuted, pusher := t.head.pusher, pulse := t.head.pulse, timer := t.head.timer }
  hlu : t.hlu = s.hlu
  upPort : t.upPort = { s.upPort with localQ := t.upPort.localQ, counters := t.upPort.counters }
  downPort : t.downPort = { s.downPort with localQ := t.downPort.localQ, counters := t.downPort.counters }
  svi : t.svi = s.svi
  pending : t.pending = s.pending

@[refl] theorem ShiftFrame.refl (s : State) : ShiftFrame s s := ⟨rfl, rfl, rfl, rfl, rfl, rfl, rfl, rfl, rfl, rfl, rfl, rfl, rfl, rfl, rfl⟩

@[trans] theorem ShiftFrame.trans {s t u : State} (h : ShiftFrame s t) (k : ShiftFrame t u) : ShiftFrame s u :=
  { micros := k.micros.trans h.micros
    freeIndex := k.freeIndex.trans h.freeIndex
    pins := k.pins.trans h.pins
    ldu := k.ldu.trans h.ldu
    tau := k.tau.trans (by rw [h.tau])
    pdu := k.pdu.trans h.pdu
    ivi := k.ivi.trans h.ivi
    cru := k.cru.trans (by rw [h.cru])
    tracker := k.tracker.trans h.tracker
    head := k.head.trans (by rw [h.head])
    hlu := k.hlu.trans h.hlu
    upPort := k.upPort.trans (by rw [h.upPort])
    downPort := k.downPort.trans (by rw [h.downPort])
    svi := k.svi.trans h.svi
    pending := k.pending.trans h.pending }

/-- All that may differ when strokes are taken with the tracker. -/
structure StrokeFrame (s t : State) : Prop where
  micros : t.micros = s.micros
  freeIndex : t.freeIndex = s.freeIndex
  pins : t.pins = s.pins
  ldu : t.ldu = s.ldu
  tau : t.tau = { s.tau with trim := t.tau.trim }
  pdu : t.pdu = s.pdu
  ivi : t.ivi = s.ivi
  cru : t.cru = { s.cru with loans := t.cru.loans }
  head : t.head = { s.head with calls := t.head.calls, lastExecuted := t.head.lastExecuted, pusher := t.head.pusher, pulse := t.head.pulse, timer := t.head.timer }
  hlu : t.hlu = s.hlu
  upPort : t.upPort = { s.upPort with localQ := t.upPort.localQ, counters := t.upPort.counters }
  downPort : t.downPort = { s.downPort with localQ := t.downPort.localQ, counters := t.downPort.counters }
  svi : t.svi = s.svi
  pending : t.pending = s.pending

@[refl] theorem StrokeFrame.refl (s : State) : StrokeFrame s s := ⟨rfl, rfl, rfl, rfl, rfl, rfl, rfl, rfl, rfl, rfl, rfl, rfl, rfl, rfl⟩

@[trans] theorem StrokeFrame.trans {s t u : State} (h : StrokeFrame s t) (k : StrokeFrame t u) : StrokeFrame s u :=
  { micros := k.micros.trans h.micros
    freeIndex := k.freeIndex.trans h.freeIndex
    pins := k.pins.trans h.pins
    ldu := k.ldu.trans h.ldu
    tau := k.tau.trans (by rw [h.tau])
    pdu := k.pdu.trans h.pdu
    ivi := k.ivi.trans h.ivi
    cru := k.cru.trans (by rw [h.cru])
    head := k.head.trans (by rw [h.head])
    hlu := k.hlu.trans h.hlu
    upPort := k.upPort.trans (by rw [h.upPort])
    downPort := k.downPort.trans (by rw [h.downPort])
    svi := k.svi.trans h.svi
    pending := k.pending.trans h.pending }

theorem LinkFrame.toHoldFrame {s t : State} (h : LinkFrame s t) : HoldFrame s t :=
  { micros := h.micros
    freeIndex := h.freeIndex
    pins := h.pins
    ldu := by rw [h.ldu]
    cq := h.cq
    tau := h.tau
    pdu := h.pdu
    ivi := h.ivi
    cru := h.cru
    tracker := h.tracker
    head := by rw [h.head]
    tail := h.tail
    exu := h.exu
    upPort := h.upPort
    downPort := h.downPort
    svi := h.svi
    pending := h.pending }

theorem LinkFrame.toCallFrame {s t : State} (h : LinkFrame s t) : CallFrame s t :=
  { micros := h.micros
    freeIndex := h.freeIndex
    pins := h.pins
    ldu := h.ldu
    cq := h.cq
    tau := h.tau
    pdu := h.pdu
    ivi := h.ivi
    cru := h.cru
    tracker := h.tracker
    head := by rw [h.head]
    exu := h.exu
    hlu := h.hlu
    upPort := h.upPort
    downPort := h.downPort
    svi := h.svi
    pending := h.pending }

theorem LinkFrame.toExitFrame {s t : State} (h : LinkFrame s t) : ExitFrame s t :=
  { micros := h.micros
    freeIndex := h.freeIndex
    pins := h.pins
    ldu := h.ldu
    cq := h.cq
    tau := by rw [h.tau]
    pdu := h.pdu
    ivi := h.ivi
    cru := h.cru
    tracker := h.tracker
    head := h.head
    hlu := h.hlu
    upPort := h.upPort
    downPort := h.downPort
    svi := h.svi
    pending := h.pending }

theorem LinkFrame.toShiftFrame {s t : State} (h : LinkFrame s t) : ShiftFrame s t :=
  { micros := h.micros
    freeIndex := h.freeIndex
    pins := h.pins
    ldu := h.ldu
    tau := by rw [h.tau]
    pdu := h.pdu
    ivi := h.ivi
    cru := h.cru
    tracker := h.tracker
    head := by rw [h.head]
    hlu := h.hlu
    upPort := h.upPort
    downPort := h.downPort
    svi := h.svi
    pending := h.pending }

theorem LinkFrame.toStrokeFrame {s t : State} (h : LinkFrame s t) : StrokeFrame s t :=
  { micros := h.micros
    freeIndex := h.freeIndex
    pins := h.pins
    ldu := h.ldu
    tau := by rw [h.tau]
    pdu := h.pdu
    ivi := h.ivi
    cru := h.cru
    head := by rw [h.head]
    hlu := h.hlu
    upPort := h.upPort
    downPort := h.downPort
    svi := h.svi
    pending := h.pending }

theorem CallFrame.toShiftFrame {s t : State} (h : CallFrame s t) : ShiftFrame s t :=
  { micros := h.micros
    freeIndex := h.freeIndex
    pins := h.pins
    ldu := h.ldu
    tau := by rw [h.tau]
    pdu := h.pdu
    ivi := h.ivi
    cru := h.cru
    tracker := h.tracker
    head := h.head
    hlu := h.hlu
    upPort := h.upPort
    downPort := h.downPort
    svi := h.svi
    pending := h.pending }

theorem ExitFrame.toShiftFrame {s t : State} (h : ExitFrame s t) : ShiftFrame s t :=
  { micros := h.micros
    freeIndex := h.freeIndex
    pins := h.pins
    ldu := h.ldu
    tau := h.tau
    pdu := h.pdu
    ivi := h.ivi
    cru := h.cru
    tracker := h.tracker
    head := by rw [h.head]
    hlu := h.hlu
    upPort := h.upPort
    downPort := h.downPort
    svi := h.svi
    pending := h.pending }

theorem ShiftFrame.toStrokeFrame {s t : State} (h : ShiftFrame s t) : StrokeFrame s t :=
  { micros := h.micros
    freeIndex := h.freeIndex
    pins := h.pins
    ldu := h.ldu
    tau := h.tau
    pdu := h.pdu
    ivi := h.ivi
    cru := h.cru
    head := h.head
    hlu := h.hlu
    upPort := h.upPort
    downPort := h.downPort
    svi := h.svi
    pending := h.pending }

end Sys2Proof.Machine
end

