-- ==== Sys2Proof/Laws/Ops.lean ====
section
/-!
SUPPORT. The shared operations of Machine/Ops.lean, Calls.lean and Hold.lean, the routing of a frame and the withdrawal of a setpoint:
what each can do, said once.
-/

namespace Sys2Proof.Machine

/-! ### Counting, tracing and offering -/

theorem State.setLoans_link (s : State) (n : Nat) : LinkFrame s { s with cru := { s.cru with loans := n } } := by
  constructor <;> rfl

theorem State.setHlu_hold (s : State) (x : Hlu) : HoldFrame s { s with hlu := x } := by
  constructor <;> rfl

theorem State.countBy_link (s : State) (c : Counter) (n : Nat) : LinkFrame s (s.countBy c n) := by
  constructor <;> rfl

theorem State.count_link (s : State) (c : Counter) : LinkFrame s (s.count c) := s.countBy_link c 1

theorem State.portCountBy_link (s : State) (p : Port) (c : PortCounter) (n : Nat) :
    LinkFrame s (s.portCountBy p c n) := by cases p <;> constructor <;> rfl

theorem State.portCount_link (s : State) (p : Port) (c : PortCounter) : LinkFrame s (s.portCount p c) :=
  s.portCountBy_link p c 1

theorem State.offerTrace_link (s : State) (o : Offer) : LinkFrame s (s.offerTrace o) := by constructor <;> rfl

theorem State.traceDrop_link (s : State) (p : Port) (k : ErrorKind) (v : FrameView) : LinkFrame s (s.traceDrop p k v) :=
  s.offerTrace_link _

theorem State.traceAction_link (s : State) (p : Port) (a : Action) (v : FrameView) :
    LinkFrame s (s.traceAction p a v) := s.offerTrace_link _

theorem State.refuseLocal_link (s : State) (p : Port) (f : Frame) : LinkFrame s (s.refuseLocal p f) :=
  (s.portCount_link p _).trans (State.traceDrop_link _ _ _ _)

theorem State.takeLocal_link (s : State) (p : Port) (q : List Frame) (f : Frame) : LinkFrame s (s.takeLocal p q f) := by
  cases p <;> constructor <;> rfl

theorem State.displace_link (s : State) (p : Port) (g : Frame) : LinkFrame s (s.displace p g) := by
  unfold State.displace
  extract_lets t
  have h : LinkFrame s t :=
    ((s.portCount_link p _).trans (State.traceDrop_link _ _ _ _)).trans (State.countBy_link _ _ _)
  exact h.trans (State.setLoans_link t _)

/-- R158, R159: an offer changes the port's local queue and counters, the trace, the counters, and the loans a displacement
restores. -/
theorem State.offer_link (s : State) (p : Port) (f : Frame) : LinkFrame s (s.offer p f).state := by
  unfold State.offer
  split
  · exact s.refuseLocal_link p f
  split
  · exact s.takeLocal_link p _ f
  split
  · split
    · exact (s.displace_link p _).trans (State.takeLocal_link _ p _ f)
    · exact s.refuseLocal_link p f
  · exact s.refuseLocal_link p f

/-- R158, R159: the three answers to an offer. -/
theorem State.offer_cases (s : State) (p : Port) (f : Frame) :
    (s.offer p f = ⟨s.refuseLocal p f, false⟩) ∨
    ((s.port p).refuses f = false ∧ (s.port p).localQ.length < 8 ∧
      s.offer p f = ⟨s.takeLocal p (s.port p).localQ f, true⟩) ∨
    (∃ g, (s.port p).refuses f = false ∧ (s.port p).localQ.getLast? = some g ∧ frameClass f < frameClass g ∧
      s.offer p f = ⟨(s.displace p g).takeLocal p (s.port p).localQ.dropLast f, true⟩) := by
  unfold State.offer
  split
  · exact .inl rfl
  split
  · exact .inr (.inl ⟨by simp_all, by assumption, rfl⟩)
  split
  · split
    · exact .inr (.inr ⟨_, by simp_all, by assumption, by assumption, rfl⟩)
    · exact .inl rfl
  · exact .inl rfl

theorem State.offerCounted_link (s : State) (p : Port) (f : Frame) (a b : Counter) :
    LinkFrame s (s.offerCounted p f a b) := by
  unfold State.offerCounted
  dsimp only
  split <;> exact (s.offer_link p f).trans (State.count_link _ _)

theorem State.offerCountTaken_link (s : State) (p : Port) (f : Frame) (a : Counter) :
    LinkFrame s (s.offerCountTaken p f a) := by
  unfold State.offerCountTaken
  dsimp only
  split
  · exact (s.offer_link p f).trans (State.count_link _ _)
  · exact s.offer_link p f

theorem State.offerBothCounted_link (s : State) (x : Payload) (a b : Counter) :
    LinkFrame s (s.offerBothCounted x a b) := by
  unfold State.offerBothCounted
  extract_lets u
  have h : LinkFrame s u := by
    dsimp only [u]
    split
    · exact s.offerCounted_link _ _ _ _
    · exact .refl s
  clear_value u
  split
  · exact h.trans (State.offerCounted_link _ _ _ _ _)
  · exact h

/-! ### Calls -/

theorem LinkFrame.now {s t : State} (h : LinkFrame s t) : t.now = s.now := by unfold State.now; rw [h.micros]

theorem LinkFrame.img {s t : State} (h : LinkFrame s t) : t.img = s.img := by unfold State.img; rw [h.svi]

theorem LinkFrame.pos {s t : State} (h : LinkFrame s t) : t.pos = s.pos := by unfold State.pos; rw [h.ldu]

theorem LinkFrame.onLine {s t : State} (h : LinkFrame s t) : t.onLine = s.onLine := by unfold State.onLine; rw [h.ldu]

theorem LinkFrame.isHead {s t : State} (h : LinkFrame s t) : t.isHead = s.isHead := by unfold State.isHead; rw [h.ldu]

theorem LinkFrame.isTail {s t : State} (h : LinkFrame s t) : t.isTail = s.isTail := by unfold State.isTail; rw [h.ldu]

theorem LinkFrame.originByte {s t : State} (h : LinkFrame s t) : t.originByte = s.originByte := by
  unfold State.originByte; rw [h.pos]

/-- R98: the start of a stroke changes the head and counts. -/
theorem State.tryStart_hold (s : State) : HoldFrame s s.tryStart := by
  unfold State.tryStart
  split
  · split
    · constructor <;> rfl
    · exact .refl s
  · exact .refl s

theorem State.tryStart_call (s : State) : CallFrame s s.tryStart := by
  unfold State.tryStart
  split
  · split
    · constructor <;> rfl
    · exact .refl s
  · exact .refl s

/-- R98: with a hold cause standing, no stroke starts. -/
theorem State.tryStart_held (s : State) (h : s.hlu.entries ≠ []) : s.tryStart = s := by
  unfold State.tryStart
  split
  · rw [if_neg (by simp [h])]
  · rfl

/-- R98: with the pusher not IDLE, no stroke starts. -/
theorem State.tryStart_busy (s : State) (h : s.head.pusher ≠ .idle) : s.tryStart = s := by
  unfold State.tryStart
  split
  · rw [if_neg (by simp [h])]
  · rfl

theorem State.takeCall_call (s : State) (k : CallKind) (n : Half) : CallFrame s (s.takeCall k n) := by
  unfold State.takeCall
  split
  · exact (s.count_link _).toCallFrame
  split
  · refine CallFrame.trans ?_ (State.tryStart_call _)
    constructor <;> rfl
  · exact (s.count_link _).toCallFrame

theorem State.passCall_call (s : State) (k : CallKind) (n : Half) (c : Counter) : CallFrame s (s.passCall k n c) := by
  unfold State.passCall
  split
  · exact (s.count_link c).toCallFrame.trans (State.takeCall_call _ _ _)
  · exact (s.offerCounted_link _ _ _ _).toCallFrame

/-- R103: a new call changes the tail, and the head of a single-station line. -/
theorem State.sendCall_call (s : State) (k : CallKind) : CallFrame s (s.sendCall k) := by
  unfold State.sendCall
  refine CallFrame.trans ?_ (State.passCall_call _ _ _ _)
  constructor <;> rfl

theorem State.takeCall_tail (s : State) (k : CallKind) (n : Half) : (s.takeCall k n).tail = s.tail := by
  unfold State.takeCall
  split
  · rfl
  split
  · exact (State.tryStart_hold _).tail
  · rfl

theorem State.passCall_tail (s : State) (k : CallKind) (n : Half) (c : Counter) : (s.passCall k n c).tail = s.tail := by
  unfold State.passCall
  split
  · rw [State.takeCall_tail]; rfl
  · exact (s.offerCounted_link _ _ _ _).tail

/-- R103: the tail after a new call. -/
theorem State.sendCall_tail (s : State) (k : CallKind) :
    (s.sendCall k).tail =
      { s.tail with
        counter := s.tail.counter + 1
        outstanding := some (s.tail.counter + 1, k)
        callTimer := some (after s.now s.img.callTimeout) } := by
  unfold State.sendCall; exact State.passCall_tail _ _ _ _

theorem State.callCheck_call (s : State) : CallFrame s s.callCheck := by
  unfold State.callCheck
  split
  · split
    · exact (s.sendCall_call _).trans (State.count_link _ _).toCallFrame
    · split
      · refine CallFrame.trans (s.sendCall_call .press) ?_
        constructor <;> rfl
      · exact .refl s
  · exact .refl s

/-! ### The Hold Unit -/

/-- The call check is the call that State.checkSends names for the tail's items and the preview as they stand. -/
theorem State.callCheck_eq (s : State) : s.callCheck =
    match s.checkSends s.tail s.exu.preview with
    | some .self => (s.sendCall .self).count .selfCalls
    | some .press => let t := s.sendCall .press; { t with tail := { t.tail with pressWaiting := false } }
    | none => s := by
  unfold State.callCheck State.checkSends State.previewRejects
  split
  · split
    · rfl
    · split <;> rfl
  · rfl

/-- R58: what withdrawing an uncovered setpoint leaves. -/
theorem State.keepWithinCredits_ivi (s : State) : s.keepWithinCredits.ivi =
    if s.ivi.inForce ≤ s.cru.held * (s.img.creditKw * 10) then s.ivi
    else { s.ivi with inForce := 0, enable := false } := by
  unfold State.keepWithinCredits
  split <;> rfl

/-- Withdrawing an uncovered setpoint changes the inverter's items alone. -/
theorem State.keepWithinCredits_eq (s : State) : s.keepWithinCredits = { s with ivi := s.keepWithinCredits.ivi } := by
  unfold State.keepWithinCredits
  split <;> rfl

/-- R58: the setpoint it leaves is covered. -/
theorem State.keepWithinCredits_covers (s : State) :
    s.keepWithinCredits.ivi.inForce ≤ s.cru.held * (s.img.creditKw * 10) := by
  rw [State.keepWithinCredits_ivi]
  split
  · assumption
  · exact Nat.zero_le _

/-- R151: a stray character is counted and nothing else. -/
theorem State.noteStray_link (s : State) (p : Port) (c : CharSort) : LinkFrame s (s.noteStray p c) := by
  cases c <;> first | exact s.portCount_link p .strayData | (constructor <;> rfl)

/-- Carrying a frame on offers the Link Trace what State.tracesOnward says. -/
theorem State.carry_ltr (s : State) (p : Port) (f : Frame) (copied : Bool) :
    (s.carry p f copied).ltr = (s.tracesOnward p f copied).ltr := by
  unfold State.carry State.tracesOnward
  dsimp only
  by_cases h : s.canCarry p.other = true
  · by_cases k : (s.port p.other).forward.length < 4
    · have k' : (s.port p.other).forward.length < Config.forwardCapacity := k
      cases p <;> simp only [if_pos h, if_pos k, if_pos k'] <;> rfl
    · have k' : ¬ (s.port p.other).forward.length < Config.forwardCapacity := k
      cases p <;> simp only [if_pos h, if_neg k, if_neg k'] <;> rfl
  · cases copied
    · by_cases k : kindPath (frameKind f) = .addressed
      · cases p <;> simp only [if_neg h, if_pos k] <;> rfl
      · simp only [if_neg h, if_neg k]
    · simp only [if_neg h]; rfl

/-- R155, R157: the onward port after a frame is carried on: the frame joins its forward queue, or is counted there. -/
theorem State.carry_onward (s : State) (p : Port) (f : Frame) (copied : Bool) : (s.carry p f copied).port p.other =
    if s.canCarry p.other then
      if (s.port p.other).forward.length < 4 then
        { (s.port p.other).countBy .framesForwarded 1 with forward := (s.port p.other).forward ++ [f] }
      else (s.port p.other).countBy .forwardOverrun 1
    else if copied = false ∧ kindPath (frameKind f) = .addressed then (s.port p.other).countBy .misrouted 1
    else s.port p.other := by
  unfold State.carry
  dsimp only
  by_cases h : s.canCarry p.other = true
  · by_cases k : (s.port p.other).forward.length < 4
    · have k' : (s.port p.other).forward.length < Config.forwardCapacity := k
      cases p <;> simp only [if_pos h, if_pos k, if_pos k'] <;> rfl
    · have k' : ¬ (s.port p.other).forward.length < Config.forwardCapacity := k
      cases p <;> simp only [if_pos h, if_neg k, if_neg k'] <;> rfl
  · simp only [if_neg h]
    cases copied
    · by_cases k : kindPath (frameKind f) = .addressed
      · cases p <;> simp only [k, and_self, if_true] <;> rfl
      · cases p <;> simp only [k, and_false, if_false] <;> rfl
    · cases p <;> simp only [if_true] <;> rfl

/-- Carrying a frame on changes the onward port and the trace alone. -/
theorem State.carry_eq (s : State) (p : Port) (f : Frame) (copied : Bool) : s.carry p f copied =
    { s.setPort p.other ((s.carry p f copied).port p.other) with ltr := (s.carry p f copied).ltr } := by
  unfold State.carry
  dsimp only
  split
  · split <;> cases p <;> rfl
  · split
    · cases p <;> rfl
    · split <;> cases p <;> rfl

/-- R155: what a unit's offers change does not decide whether a port can carry a frame. -/
theorem LinkFrame.canCarry {s t : State} (h : LinkFrame s t) (p : Port) : t.canCarry p = s.canCarry p := by
  have hp : (t.port p).link = (s.port p).link ∧ (t.port p).check = (s.port p).check := by
    cases p
    · simp only [State.port]; rw [h.upPort]; exact ⟨rfl, rfl⟩
    · simp only [State.port]; rw [h.downPort]; exact ⟨rfl, rfl⟩
  unfold State.canCarry State.linkIsUp
  rw [hp.1, hp.2, h.onLine, h.isHead, h.isTail]

/-- R157: a unit's offers leave the forward queues. -/
theorem LinkFrame.forward {s t : State} (h : LinkFrame s t) (p : Port) : (t.port p).forward = (s.port p).forward := by
  cases p
  · simp only [State.port]; rw [h.upPort]
  · simp only [State.port]; rw [h.downPort]

theorem State.enterMode_hold (s : State) (m : StationState) : HoldFrame s (s.enterMode m) := by constructor <;> rfl

/-- R129: the derivation of the mode. -/
theorem State.deriveMode_hold (s : State) : HoldFrame s s.deriveMode := by
  unfold State.deriveMode
  split
  · refine HoldFrame.trans ?_ (State.tryStart_hold _)
    split
    · exact .refl s
    · exact s.enterMode_hold _
  · exact .refl s

@[simp] theorem State.tryStart_hlu (s : State) : s.tryStart.hlu = s.hlu := (s.tryStart_call).hlu

@[simp] theorem State.tryStart_ldu (s : State) : s.tryStart.ldu = s.ldu := (s.tryStart_call).ldu

@[simp] theorem State.deriveMode_hlu (s : State) : s.deriveMode.hlu = s.hlu := by
  unfold State.deriveMode
  split
  · rw [State.tryStart_hlu]; split <;> rfl
  · rfl

/-- R129: the state after the derivation of an on-line station's mode is the mode of its list. -/
theorem State.deriveMode_state (s : State) (h : s.onLine = true) : s.deriveMode.ldu.state = modeOf s.hlu.entries := by
  unfold State.deriveMode
  rw [if_pos h, State.tryStart_ldu]
  split
  · rename_i hm; exact hm.symm
  · rfl

theorem State.makeRoom_hold (s : State) : HoldFrame s s.makeRoom := by
  unfold State.makeRoom
  split
  · exact .refl s
  · constructor <;> rfl

/-- R98: a head with no pending call starts nothing. -/
theorem State.startedHead_of_calls_nil (u : State) (es : List HoldEntry) (h : Head) (hc : h.calls = []) :
    u.startedHead es h = h := by unfold State.startedHead; rw [hc]

/-- R98: what the start of a stroke does to the head, at a station on line. -/
theorem State.tryStart_head (s : State) (h : s.onLine = true) : s.tryStart.head = s.startedHead s.hlu.entries s.head := by
  unfold State.tryStart State.startedHead
  cases s.head.calls with
  | nil => rfl
  | cons n rest =>
    dsimp only
    split <;> split <;> simp_all

/-- R130: the HOLD of a raise changes what its offers change. -/
theorem State.offerHold_link (s : State) (c : Cause) : LinkFrame s (s.offerHold c) := by
  unfold State.offerHold
  split
  · exact .refl s
  · exact s.offerBothCounted_link _ _ _

/-- R130: on a single-station line a raise offers no frame. -/
theorem State.offerHold_single (s : State) (c : Cause) (h : s.isSingle = true) : s.offerHold c = s := by
  unfold State.offerHold; rw [if_pos h]

/-- R130: a raise changes the list, the refresh timer, and what its offers change. -/
theorem State.raiseOwn_hold (s : State) (c : Cause) : HoldFrame s (s.raiseOwn c) := by
  unfold State.raiseOwn
  split
  · exact .refl s
  · exact s.makeRoom_hold.trans ((State.setHlu_hold _ _).trans
      (((State.offerHold_link _ _).toHoldFrame.trans (State.setHlu_hold _ _)).trans
        (State.count_link _ _).toHoldFrame))

/-- R130: the list after a raise of a cause that is not in it. -/
theorem State.raiseOwn_entries (s : State) (c : Cause) (h : s.hlu.hasOwn c = false) :
    (s.raiseOwn c).hlu.entries =
      s.makeRoom.hlu.entries ++ [{ cause := c, origin := s.originByte, own := true, refreshed := s.now }] := by
  unfold State.raiseOwn
  rw [if_neg (by simp [h])]
  dsimp only
  have ho : s.makeRoom.originByte = s.originByte := by
    unfold State.originByte State.pos State.makeRoom; split <;> rfl
  have hn : s.makeRoom.now = s.now := by unfold State.now; rw [s.makeRoom_hold.micros]
  rw [State.count_hlu, (State.offerHold_link _ _).hlu, ho, hn]

/-- R130: a new own cause starts the refresh timer where it is stopped. -/
theorem State.raiseOwn_refresh (s : State) (c : Cause) (h : s.hlu.hasOwn c = false) :
    (s.raiseOwn c).hlu.refresh = some (s.hlu.refresh.getD (after s.now Config.refreshMs)) := by
  unfold State.raiseOwn
  rw [if_neg (by simp [h])]
  dsimp only
  have hr : s.makeRoom.hlu.refresh = s.hlu.refresh := by unfold State.makeRoom; split <;> rfl
  have hn : s.makeRoom.now = s.now := by unfold State.now; rw [s.makeRoom_hold.micros]
  have hf (x y : State) (f : HoldFrame x y) : y.now = x.now := by unfold State.now; rw [f.micros]
  rw [State.count_hlu]
  dsimp only
  rw [hf _ _ (State.offerHold_link _ _).toHoldFrame, (State.offerHold_link _ _).hlu]
  change some (s.makeRoom.hlu.refresh.getD (after s.makeRoom.now Config.refreshMs)) = _
  rw [hr, hn]

/-- R130: once raised, the own cause stands. -/
theorem State.raiseOwn_hasOwn (s : State) (c : Cause) : (s.raiseOwn c).hlu.hasOwn c = true := by
  cases h : s.hlu.hasOwn c with
  | true => unfold State.raiseOwn; rw [if_pos h]; exact h
  | false => unfold Hlu.hasOwn; rw [s.raiseOwn_entries c h]; simp

/-- A raise leaves the station state. -/
theorem State.raiseOwn_ldu (s : State) (c : Cause) : (s.raiseOwn c).ldu = s.ldu := by
  unfold State.raiseOwn
  split
  · rfl
  · dsimp only
    rw [State.count_ldu, (State.offerHold_link _ _).ldu]
    unfold State.makeRoom; split <;> rfl

theorem State.raiseOwn_head (s : State) (c : Cause) : (s.raiseOwn c).head = s.head := by
  unfold State.raiseOwn
  split
  · rfl
  · dsimp only
    rw [State.count_head, (State.offerHold_link _ _).head]
    unfold State.makeRoom; split <;> rfl

/-- R133: a removal changes the list, the refresh timer, and what its offers change. -/
theorem State.removeOwn_hold (s : State) (c : Cause) : HoldFrame s (s.removeOwn c) := by
  unfold State.removeOwn
  split
  · exact (s.setHlu_hold _).trans ((State.offerBothCounted_link _ _ _ _).trans (State.count_link _ _)).toHoldFrame
  · exact .refl s

/-- R133: the list after a removal. -/
theorem State.removeOwn_entries (s : State) (c : Cause) :
    (s.removeOwn c).hlu.entries = s.hlu.entries.filter (fun e => !(e.own && e.cause == c)) := by
  unfold State.removeOwn
  split
  · dsimp only
    rw [State.count_hlu, (State.offerBothCounted_link _ _ _ _).hlu]
  · rename_i h
    symm
    rw [List.filter_eq_self]
    intro e he
    simp only [Hlu.hasOwn, List.any_eq_true, not_exists, not_and, Bool.not_eq_true] at h
    simp [h e he]

/-- R133: a removal leaves the refresh timer, or stops it with the last own cause. -/
theorem State.removeOwn_refresh (s : State) (c : Cause) (h : s.hlu.hasOwn c = true) :
    (s.removeOwn c).hlu.refresh = if (s.removeOwn c).hlu.entries.any (·.own) then s.hlu.refresh else none := by
  rw [s.removeOwn_entries c]
  unfold State.removeOwn
  rw [if_pos h]
  dsimp only
  rw [State.count_hlu, (State.offerBothCounted_link _ _ _ _).hlu]

theorem State.removeOwn_ldu (s : State) (c : Cause) : (s.removeOwn c).ldu = s.ldu := by
  unfold State.removeOwn
  split
  · dsimp only
    rw [State.count_ldu, (State.offerBothCounted_link _ _ _ _).ldu]
  · rfl

theorem State.removeListed_hold (s : State) (w : Cause → Bool) (es : List HoldEntry) :
    HoldFrame s (s.removeListed w es) := by
  induction es generalizing s with
  | nil => exact .refl s
  | cons e rest ih =>
    unfold State.removeListed
    split
    · exact (s.removeOwn_hold _).trans (ih _)
    · exact ih s

theorem State.repeatOwn_link (s : State) (es : List HoldEntry) : LinkFrame s (s.repeatOwn es) := by
  induction es generalizing s with
  | nil => exact .refl s
  | cons e rest ih =>
    unfold State.repeatOwn
    split
    · exact (s.offerBothCounted_link _ _ _).trans (ih _)
    · exact ih s

theorem State.hearHold_hold (s : State) (code origin : Byte) : HoldFrame s (s.hearHold code origin) := by
  unfold State.hearHold
  dsimp only
  split
  · exact ((s.count_link _).trans (State.count_link _ _)).toHoldFrame
  split
  · exact ((s.count_link _).trans (State.count_link _ _)).toHoldFrame
  split
  · refine HoldFrame.trans ?_ (State.deriveMode_hold _)
    constructor <;> rfl
  split
  · refine HoldFrame.trans ?_ (State.deriveMode_hold _)
    constructor <;> rfl
  · exact HoldFrame.trans ((s.count_link _).trans (State.count_link _ _)).toHoldFrame (State.deriveMode_hold _)

theorem State.hearClear_hold (s : State) (code origin : Byte) : HoldFrame s (s.hearClear code origin) := by
  unfold State.hearClear
  dsimp only
  split
  · exact ((s.count_link _).trans (State.count_link _ _)).toHoldFrame
  split
  · exact ((s.count_link _).trans (State.count_link _ _)).toHoldFrame
  split
  · refine HoldFrame.trans ?_ (State.deriveMode_hold _)
    constructor <;> rfl
  · exact ((s.count_link _).trans (State.count_link _ _)).toHoldFrame

end Sys2Proof.Machine
end

