-- ==== Sys2Proof/Laws/Shift.lean ====
section
/-!
SUPPORT. The Exit Unit, the shift of the coil queue and the stroke tracker: what each operation can change, and the coil queue
after a shift.
-/

namespace Sys2Proof.Machine

/-! ### Plain updates -/

theorem State.setExu_exit (s : State) (x : Exu) : ExitFrame s { s with exu := x } := by constructor <;> rfl

theorem State.setTail_exit (s : State) (x : Tail) : ExitFrame s { s with tail := x } := by constructor <;> rfl

theorem State.setTail_call (s : State) (x : Tail) : CallFrame s { s with tail := x } := by constructor <;> rfl

theorem State.setTrim_exit (s : State) (x : Int) : ExitFrame s { s with tau := { s.tau with trim := x } } := by
  constructor <;> rfl

theorem State.setQueue_shift (s : State) (x : CoilQueue) : ShiftFrame s { s with cq := x } := by constructor <;> rfl

theorem State.setTracker_stroke (s : State) (x : Tracker) : StrokeFrame s { s with tracker := x } := by
  constructor <;> rfl

/-! ### The Exit Unit -/

/-- R125: a step applied to τ. -/
theorem State.applyTrim_exit (s : State) (n : Int) : ExitFrame s (s.applyTrim n) := by
  unfold State.applyTrim
  extract_lets v src t u
  have ht : ExitFrame s u := (s.setTrim_exit v).trans (State.count_link _ _).toExitFrame
  split
  · exact ht.trans (State.count_link u _).toExitFrame
  · exact ht

theorem State.sendTrim_exit (s : State) (x : TrimStep) : ExitFrame s (s.sendTrim x) := by
  unfold State.sendTrim
  extract_lets n src t r
  have ht : ExitFrame s t := s.setExu_exit _
  have hr : ExitFrame s r.state := ht.trans (t.offer_link _ _).toExitFrame
  split
  · exact (ht.trans (t.applyTrim_exit _)).trans (State.count_link _ _).toExitFrame
  split
  · exact (hr.trans (State.applyTrim_exit _ _)).trans (State.count_link _ _).toExitFrame
  · exact hr.trans (State.count_link _ _).toExitFrame

theorem State.sampleTrim_exit (s : State) (n : Int) : ExitFrame s (s.sampleTrim n) := by
  unfold State.sampleTrim
  extract_lets es t src1 u src2 v
  have ht : ExitFrame s t := (s.count_link _).toExitFrame
  split
  · exact ht.trans (t.setExu_exit _)
  · have hu : ExitFrame s u := by
      dsimp only [u]
      split
      · exact ht.trans (t.sendTrim_exit _)
      · exact ht
    exact (hu.trans (u.setExu_exit _)).trans (State.count_link v _).toExitFrame

theorem State.emitPulse_exit (s : State) : ExitFrame s s.emitPulse := by
  unfold State.emitPulse
  split
  · exact s.setExu_exit _
  split
  · exact s.setExu_exit _
  · exact (s.count_link _).toExitFrame

theorem State.appendLog_exit (s : State) (e : LogEntry) : ExitFrame s (s.appendLog e) := by
  unfold State.appendLog
  extract_lets src t1 t2
  split
  · exact (s.setExu_exit _).trans (t1.count_link _).toExitFrame
  · exact (s.setExu_exit _).trans ((t2.count_link _).trans (State.count_link _ _)).toExitFrame

theorem State.clearFill_exit (s : State) : ExitFrame s s.clearFill := by
  unfold State.clearFill
  split
  · exact s.setTail_exit _
  · exact .refl s

theorem State.countAll_link (s : State) (cs : List Counter) : LinkFrame s (s.countAll cs) := by
  unfold State.countAll
  induction cs generalizing s with
  | nil => exact .refl s
  | cons c rest ih => exact (s.count_link c).trans (ih _)

theorem State.recordDecision_exit (s : State) (b : Latched) (x : Reasons) (v : Option Nat) :
    ExitFrame s (s.recordDecision b x v) := by
  unfold State.recordDecision
  extract_lets t
  have ht : ExitFrame s t := s.appendLog_exit _
  split
  · split
    · exact (ht.trans t.clearFill_exit).trans (State.sampleTrim_exit _ _)
    · exact ht.trans t.clearFill_exit
  · exact ht

/-- R117: a gate event changes the Exit Unit, τ, the tail's timers, and what its TRIM changes. -/
theorem State.gateEvent_exit (s : State) (b : Latched) (x : Reasons) (v : Option Nat) :
    ExitFrame s (s.gateEvent b x v) := by
  unfold State.gateEvent
  extract_lets src t u
  have ht : ExitFrame s t := s.setExu_exit _
  have hu : ExitFrame s u := by
    dsimp only [u]
    split
    · exact (ht.trans t.emitPulse_exit).trans (State.count_link _ _).toExitFrame
    · exact ht.trans (State.count_link _ _).toExitFrame
  exact (hu.trans (u.countAll_link _).toExitFrame).trans (State.recordDecision_exit _ _ _ _)

theorem State.forceAwaiting_exit (s : State) : ExitFrame s s.forceAwaiting := by
  unfold State.forceAwaiting
  split
  · rename_i a _
    extract_lets src1 t src2 u
    have ht : ExitFrame s t := s.gateEvent_exit _ _ _
    exact (ht.trans (t.setExu_exit _)).trans (State.count_link u _).toExitFrame
  · exact .refl s

/-- R114, R115: the handover of a record at the tail. -/
theorem State.exitHandover_exit (s : State) (r : Record) (n : Half) : ExitFrame s (s.exitHandover r n) := by
  unfold State.exitHandover
  split
  · extract_lets t src
    have ht : ExitFrame s t := s.forceAwaiting_exit
    exact ht.trans (t.setExu_exit _)
  · exact s.gateEvent_exit _ _ _

theorem State.takeSample_exit (s : State) (a : Awaiting) : ExitFrame s (s.takeSample a) := by
  unfold State.takeSample
  extract_lets src t
  have ht : ExitFrame s t := s.setExu_exit _
  split
  · exact (ht.trans (t.count_link _).toExitFrame).trans (State.gateEvent_exit _ _ _ _)
  · exact ht.trans (t.gateEvent_exit _ _ _)

theorem State.preview_exit (s : State) : ExitFrame s s.preview := by
  unfold State.preview
  split
  · exact s.setExu_exit _
  · exact .refl s

/-! ### The shift -/

theorem State.sendStroke_link (s : State) (n : Half) (b : Byte) (x : Slot) : LinkFrame s (s.sendStroke n b x) :=
  s.offerCounted_link _ _ _ _

theorem State.handOn_exit (s : State) (n : Half) (b : Byte) (x : Slot) : ExitFrame s (s.handOn n b x) := by
  unfold State.handOn
  split
  · split
    · exact s.exitHandover_exit _ _
    · exact .refl s
  · exact (s.sendStroke_link n b x).toExitFrame

theorem State.countExcursion_link (s : State) : LinkFrame s s.countExcursion := by
  unfold State.countExcursion
  split
  · exact s.count_link _
  · exact .refl s

theorem State.countDuplicate_link (s : State) (o : List Slot) (x : Slot) : LinkFrame s (s.countDuplicate o x) := by
  unfold State.countDuplicate
  split
  · exact s.count_link _
  · exact .refl s

theorem ShiftFrame.now {s t : State} (h : ShiftFrame s t) : t.now = s.now := by unfold State.now; rw [h.micros]

theorem ShiftFrame.img {s t : State} (h : ShiftFrame s t) : t.img = s.img := by unfold State.img; rw [h.svi]

theorem ShiftFrame.pos {s t : State} (h : ShiftFrame s t) : t.pos = s.pos := by unfold State.pos; rw [h.ldu]

theorem ShiftFrame.isTail {s t : State} (h : ShiftFrame s t) : t.isTail = s.isTail := by unfold State.isTail; rw [h.ldu]

theorem ShiftFrame.onLine {s t : State} (h : ShiftFrame s t) : t.onLine = s.onLine := by unfold State.onLine; rw [h.ldu]

@[simp] theorem Record.settle_self (r : Record) : r.settle.self = none := rfl

/-- R3, R6, R12: what leaves the lead slot is the lead finished, without accrued and created-at. -/
theorem State.leaving_cases (s : State) :
    (s.cq.lead = none ∧ s.leaving = none) ∨
    ∃ r, s.cq.lead = some r ∧ s.leaving = some { r.finish s.img s.pos with self := none } := by
  cases h : s.cq.lead with
  | none => exact .inl ⟨rfl, by simp [State.leaving, h]⟩
  | some r => exact .inr ⟨r, rfl, by simp [State.leaving, h, Record.settle]⟩

/-- The part of a shift before the queue moves. -/
theorem State.beforeMove_exit (s : State) (b : Byte) (x : Slot) :
    ExitFrame s (((s.countExcursion).handOn (s.cq.lastStroke + 1) b s.leaving).countDuplicate
      (movedSlots ((s.countExcursion).handOn (s.cq.lastStroke + 1) b s.leaving).cq.slots) x) :=
  (s.countExcursion_link.toExitFrame.trans (State.handOn_exit _ _ _ _)).trans (State.countDuplicate_link _ _ _).toExitFrame

theorem State.moveQueue_shift (s : State) (b : Byte) (x : Slot) : ShiftFrame s (s.moveQueue b x) := by
  unfold State.moveQueue
  extract_lets n t u v
  have hu : ExitFrame s u := s.beforeMove_exit b x
  exact (hu.toShiftFrame.trans (u.setQueue_shift _)).trans (State.count_link v _).toShiftFrame

/-- R14, R19: the coil queue after it takes a stroke. -/
theorem State.moveQueue_cq (s : State) (b : Byte) (x : Slot) :
    (s.moveQueue b x).cq = s.cq.shifted s.img.cadence s.now x := by
  unfold State.moveQueue
  extract_lets n t u v
  have hu : ExitFrame s u := s.beforeMove_exit b x
  have hc : u.cq = s.cq := hu.cq
  have hi : u.img = s.img := hu.toShiftFrame.img
  have hn : u.now = s.now := hu.toShiftFrame.now
  show (State.count v _).cq = _
  rw [State.count_cq]
  show u.cq.shifted u.img.cadence u.now x = _
  rw [hc, hi, hn]

theorem State.tailAfterShift_shift (s : State) : ShiftFrame s s.tailAfterShift := by
  unfold State.tailAfterShift
  split
  · exact ((s.setTail_call _).toShiftFrame.trans (State.preview_exit _).toShiftFrame).trans
      (State.callCheck_call _).toShiftFrame
  · exact .refl s

theorem State.tailAfterShift_cq (s : State) : s.tailAfterShift.cq = s.cq := by
  unfold State.tailAfterShift
  split
  · rw [(State.callCheck_call _).cq, (State.preview_exit _).cq]; rfl
  · rfl

/-- A shift changes what `ShiftFrame` names. -/
theorem State.shift_shift (s : State) (b : Byte) (x : Slot) : ShiftFrame s (s.shift b x) :=
  (s.moveQueue_shift b x).trans (State.tailAfterShift_shift _)

/-- R14, R19: the coil queue after a shift. -/
theorem State.shift_cq (s : State) (b : Byte) (x : Slot) : (s.shift b x).cq = s.cq.shifted s.img.cadence s.now x := by
  unfold State.shift
  rw [State.tailAfterShift_cq, State.moveQueue_cq]

theorem State.catchUp_shift (s : State) : ShiftFrame s s.catchUp :=
  ((s.count_link _).toShiftFrame.trans (State.shift_shift _ _ _)).trans (State.count_link _ _).toShiftFrame

/-- R91: the coil queue after a catch-up shift. -/
theorem State.catchUp_cq (s : State) :
    s.catchUp.cq = s.cq.shifted s.img.cadence s.now (some (s.placeholder none)) := by
  unfold State.catchUp
  rw [State.count_cq, State.shift_cq]; rfl

theorem State.catchUps_shift (s : State) (k : Nat) : ShiftFrame s (s.catchUps k) := by
  induction k generalizing s with
  | zero => exact .refl s
  | succ k ih => exact s.catchUp_shift.trans (ih _)

/-! ### The tracker -/

theorem State.spendEdge_stroke (s : State) : StrokeFrame s s.spendEdge := s.setTracker_stroke _

theorem State.frameAdjust_stroke (s : State) : StrokeFrame s s.frameAdjust := by
  unfold State.frameAdjust
  split
  · split
    · exact s.spendEdge_stroke
    split
    · exact s.setTracker_stroke _
    · exact (s.count_link _).toStrokeFrame
  · exact .refl s

theorem State.frameAdjust_cq (s : State) : s.frameAdjust.cq = s.cq := by
  unfold State.frameAdjust
  split
  · split
    · rfl
    split <;> rfl
  · rfl

theorem State.selfStroke_stroke (s : State) : StrokeFrame s s.selfStroke := by
  unfold State.selfStroke
  extract_lets r
  exact (((s.count_link _).toStrokeFrame.trans (State.shift_shift _ _ _).toStrokeFrame).trans
    (State.spendEdge_stroke _)).trans (State.count_link _ _).toStrokeFrame

theorem State.countRepair_link (s : State) (w : WireRecord) : LinkFrame s (s.countRepair w) := by
  unfold State.countRepair
  split
  · exact s.count_link _
  · exact .refl s

theorem State.countPayload_link (s : State) (x : Option WireRecord) : LinkFrame s (s.countPayload x) := by
  unfold State.countPayload
  split
  · exact s.countRepair_link _
  · exact .refl s

theorem State.ownShift_stroke (s : State) (x : Option WireRecord) : StrokeFrame s (s.ownShift x) :=
  ((s.countPayload_link x).toStrokeFrame.trans (State.shift_shift _ _ _).toStrokeFrame).trans
    (State.frameAdjust_stroke _)

/-- R90: the coil queue after a frame's own shift. -/
theorem State.ownShift_cq (s : State) (x : Option WireRecord) :
    (s.ownShift x).cq = s.cq.shifted s.img.cadence s.now (s.payloadSlot x) := by
  unfold State.ownShift
  rw [State.frameAdjust_cq, State.shift_cq, (s.countPayload_link x).cq, (s.countPayload_link x).img,
    (s.countPayload_link x).now]

theorem State.catchUpsAdjusted_stroke (s : State) (k : Nat) : StrokeFrame s (s.catchUpsAdjusted k) := by
  induction k generalizing s with
  | zero => exact .refl s
  | succ k ih => exact (s.catchUp_shift.toStrokeFrame.trans (State.frameAdjust_stroke _)).trans (ih _)

theorem State.mergeLate_stroke (s : State) (w : WireRecord) (held : Record) (ss : SelfStroke) :
    StrokeFrame s (s.mergeLate w held ss) := by
  unfold State.mergeLate
  extract_lets o m t src u v
  have ht : StrokeFrame s t := ((s.countRepair_link w).trans (State.countDuplicate_link _ _ _)).toStrokeFrame
  have hv : StrokeFrame s v := (ht.trans (t.setQueue_shift _).toStrokeFrame).trans (State.count_link u _).toStrokeFrame
  split
  · exact hv.trans (v.preview_exit).toShiftFrame.toStrokeFrame
  · exact hv

/-- R87: a STROKE frame taken changes what `StrokeFrame` names. -/
theorem State.takeStroke_stroke (s : State) (n : Half) (b : Byte) (x : Option WireRecord) :
    StrokeFrame s (s.takeStroke n b x) := by
  unfold State.takeStroke
  extract_lets t
  have ht : StrokeFrame s t := by
    dsimp only [t]
    split
    · exact (s.count_link _).toStrokeFrame
    · exact .refl s
  split
  · exact ht.trans (t.count_link _).toStrokeFrame
  split
  · exact (ht.trans (State.catchUpsAdjusted_stroke _ _)).trans (State.ownShift_stroke _ _)
  · refine ht.trans ?_
    unfold State.lateStroke
    split
    · exact t.mergeLate_stroke _ _ _
    · exact (t.count_link _).toStrokeFrame

end Sys2Proof.Machine
end

