-- ==== Sys2Proof/WellFormed.lean ====
section
/-!
DEFINITION. Which commands are well formed: what their rows of spec/opcode_table.json can name. exec takes every command; a
well-formed one is one that the lines of the part can bring about as it stands.
-/

namespace Sys2Proof

open Sys2Proof.Machine

/-- The time since the previous command is below half the range of the clock, so that a timer's expiry is told from a
reading before it (00, "Time"; log 3). -/
def Env.wf (e : Env) : Bool := decide (e.dt < 2147483648000)

/-- A request's payload length is 0 to 1024 (R182). -/
def Request.wf (r : Request) : Bool := decide (r.payload.length ≤ 1024)

/-- A complete frame that passes the header checks of R152 on its port of arrival. -/
def frameWf (a : Arrival) (x : Payload) : Bool := headerOk a.port { src := a.src, dst := a.dst, payload := x }

/-- The well-formed commands. -/
def Instr.wf : Instr → Bool
  | .powerOn e | .resetPin e | .serviceAbandoned e | .serviceResponseSent e | .periodEnd e | .estopAsserted e
  | .estopReleased e | .faultHigh e | .faultLow e | .readyLow e | .readyHigh e | .tripReset e | .motionEdge e
  | .pushed e | .pressCall e | .motionDeadlineExpiry e | .confirmDeadlineExpiry e | .pusherTimeout e
  | .pushPulseEnd e | .callTimerExpiry e | .fillTimerExpiry e | .pressIdleExpiry e | .sampleDeadlineExpiry e
  | .deliveredPulseEnd e | .canvassDeadlineExpiry e | .backoffExpiry e | .recanvassExpiry e | .refreshTimerExpiry e
  | .settleExpiry e | .helloTimerExpiry e | .posTimerExpiry e => e.wf
  | .identify e r | .loadImage e r | .start e r | .readStatus e r | .readQueue e r | .readExitLog e r
  | .readCounters e r | .clearCounters e r | .clearResetCause e r | .traceSetup e r | .traceArm e r | .traceStop e r
  | .readTrace e r => e.wf && r.wf
  | .unknownCommand e code r => e.wf && r.wf && (serviceOf code).isNone
  | .serviceByteReceived e _ => e.wf
  | .holdExpiry e _ _ => e.wf
  | .helloCheckRepeat e _ | .linkUp e _ | .linkDownErrors e _ | .linkDownSilence e _ | .breakPeriodEnd e _
  | .transmitterFree e _ => e.wf
  | .frameDropped e _ _ | .characterReceived e _ _ => e.wf
  | .hold e a cause origin => e.wf && frameWf a (.hold cause origin)
  | .clear e a cause origin => e.wf && frameWf a (.clear cause origin)
  | .stroke e a number synth content => e.wf && frameWf a (.stroke number synth content)
  | .call e a kind number => e.wf && frameWf a (.call kind number)
  | .pos e a position recipe version agrees => e.wf && frameWf a (.pos position recipe version agrees)
  | .count e a n agrees => e.wf && frameWf a (.count n agrees)
  | .hello e a h => e.wf && frameWf a (.hello h)
  | .canvass e a origin number want => e.wf && frameWf a (.canvass origin number want)
  | .reply e a number kind amount => e.wf && frameWf a (.reply number kind amount)
  | .ret e a number amount => e.wf && frameWf a (.ret number amount)
  | .trim e a step number => e.wf && frameWf a (.trim step number)

end Sys2Proof
end

