-- ==== Sys2Proof/Tests/Slice0.lean ====
section
/-!
SUPPORT. Tests of the model: the smoke test of WellFormed, the worked cases of the chapters, and for every obligation with
hypotheses a state and operands that meet them, clause by clause. Expected values are the manual's own, named at each test.
-/

namespace Sys2Proof.Tests

open Sys2Proof Sys2Proof.Machine

set_option Elab.async false

/-! ### Small states -/

/-- An image with the example table of 02, the targets of 2.8 and the figures of the worked case of 03, as its 286 bytes. -/
def imageBytes : List Byte :=
  toBytes 2 412 ++ [3] ++ List.replicate 16 4 ++ List.replicate 16 200 ++ (List.replicate 16 (toBytes 2 5000)).flatten ++
  List.replicate 16 40 ++ toBytes 2 620 ++ toBytes 2 900 ++ toBytes 2 1205 ++
  (List.replicate 13 (toBytes 2 1250)).flatten ++ [160, 230, 230, 200, 200, 200, 200, 200] ++ [40, 30] ++
  [1150, 600, 1300, 1280, 2500, 300, 200, 12000].flatMap (toBytes 2) ++ [5] ++ toBytes 2 200 ++ [5] ++ toBytes 2 200 ++
  [20] ++ toBytes 2 1000 ++ toBytes 3 20000 ++ [1, 20, 9] ++
  [0, 20, 1500, 330, 3000, 600, 4000, 730, 5000, 770, 6000, 900, 7500, 1100, 8500, 1250, 9000, 1320].flatMap (toBytes 2) ++
  List.replicate 16 0 ++
  [240, 40, 24, 1, 240, 44, 22, 2, 200, 52, 20, 3, 90, 60, 18, 3, 110, 50, 16, 4, 115, 48, 16, 5, 120, 48, 16, 6,
   120, 40, 20, 8] ++ List.replicate 16 0 ++
  [1180, 1280, 1140].flatMap (toBytes 2) ++ [1] ++ [900, 1400, 400].flatMap (toBytes 2) ++ [5] ++ toBytes 2 3000 ++
  toBytes 3 6000 ++ [3000, 100, 1000].flatMap (toBytes 2) ++ [1] ++ [300, 400].flatMap (toBytes 2)

def img : Image := parseImage imageBytes

def env : Env := { dt := 0, feedback := 2400, feedbackValid := true, tripReset := false, loaderPresent := true,
                   weigh := 34800, pyro := 1241, pyroValid := true }

def request (code : Byte) (payload : List Byte) : Request := ⟨payload, requestCrc code payload⟩

def upLink : LinkPort :=
  { LinkPort.reset with link := .up, transmitter := .idling, check := .passed, silence := some 1002 }

/-- A station on line at position `q` of a line of `n`, at 1000 ms, with a queue of GAPs and a period end due. -/
def station (q : Fin 16) (n : Nat) : State :=
  { State.reset with
    micros := 1000000, pins := { Pins.quiet with ready := true }
    ldu := { Ldu.reset with state := .run, position := some q, n := some n, role := some (roleOf q.val n) }
    cq := { CoilQueue.reset with slots := [none, none, none, none], iAvg := 12000 }
    tau := { Tau.reset with periodStart := some 900, targets := some img.targetTable }
    cru := { Cru.reset with base := 40, loans := 40 }
    tail := { Tail.reset with pressIdle := some 7000 }
    upPort := if q = 0 then .reset else upLink, downPort := if q.val + 1 = n then .reset else upLink
    svi := { Svi.reset with image := some img } }

def headSt : State := station 0 3
def midSt : State := station 1 3
def tailSt : State := station 2 3
/-- The one station of a single-station line. -/
def onlySt : State := station 0 1

/-- A station in DISCOVER with both links UP. -/
def discSt : State :=
  { State.reset with
    micros := 1000000, ldu := { Ldu.reset with state := .discover, settle := some 1000, helloTimer := some 1000 }
    upPort := { upLink with check := .pending }, downPort := { upLink with check := .pending }
    svi := { Svi.reset with image := some img } }

def answers : Host.Outcome State Fault Refusal → Bool
  | .next _ => true
  | .fault _ | .refused _ => false

/-- The state a command leaves; the state before it if it stops. -/
def after (c : Instr) (s : State) : State :=
  match exec c s with
  | .next t => t
  | .fault _ | .refused _ => s

def billet (mass h d soak : Nat) : Record :=
  { serial := some 1, mass := mass, h := h, d := d, soak := soak, flags := .empty, stations := [], self := none }

def ownEntry (c : Cause) (q : Byte) : HoldEntry := { cause := c, origin := q, own := true, refreshed := 0 }

def heardEntry (c : Cause) (q : Byte) : HoldEntry := { cause := c, origin := q, own := false, refreshed := 0 }

def holding (s : State) (es : List HoldEntry) : State :=
  { s with hlu := { s.hlu with entries := es }, ldu := { s.ldu with state := modeOf es } }

def pusherAt (p : Pusher) (owed : Bool) (calls : List Half) : State :=
  { headSt with head := { headSt.head with pusher := p, owed := owed, calls := calls, timer := some 1000,
                                           pulse := some 1000 } }

/-- Sixteen heard entries, refreshed 0, 1, 2 … ms after the clock began: the first is the oldest. -/
def fullList : List HoldEntry :=
  (List.range 16).map fun i => { cause := .estop, origin := BitVec.ofNat 8 (i + 16), own := false, refreshed := BitVec.ofNat 32 i }

/-- A full local queue: seven HOLDs and a last frame. -/
def fullQueue (last : Frame) : List Frame := List.replicate 7 ⟨1, 255, .hold 2 1⟩ ++ [last]

def hold1 : Frame := ⟨0, 255, .hold 4 0⟩
def call1 : Frame := ⟨1, 0, .call .press 1⟩

/-! ### WellFormed refuses what is ill formed -/

theorem test_wf_time_range : (Instr.motionEdge { env with dt := 2147483648000 }).wf = false ∧
    (Instr.motionEdge { env with dt := 2147483647999 }).wf = true := by decide
theorem test_wf_request_length : (Instr.start env ⟨List.replicate 1025 0, 0⟩).wf = false ∧
    (Instr.start env ⟨[], 0⟩).wf = true := by decide +kernel
theorem test_wf_unknown_command : (Instr.unknownCommand env 3 ⟨[], 0⟩).wf = false ∧
    (Instr.unknownCommand env 4 ⟨[], 0⟩).wf = true := by decide +kernel
/-- R152, R153: a STROKE arrives on UP alone and is addressed; a RETURN of 0 credits and a LEND above 500 are refused. -/
theorem test_wf_frames : (Instr.stroke env ⟨.down, 1, 2⟩ 1 255 none).wf = false ∧
    (Instr.stroke env ⟨.up, 1, 255⟩ 1 255 none).wf = false ∧ (Instr.ret env ⟨.up, 1, 2⟩ 1 0).wf = false ∧
    (Instr.reply env ⟨.up, 1, 2⟩ 1 .lend 501).wf = false ∧ (Instr.stroke env ⟨.up, 1, 2⟩ 1 255 none).wf = true := by
  decide +kernel

/-! ### Worked cases of the manual -/

/-- The check value of the CRC of R188 over the characters 1 to 9. -/
theorem test_crc_check_value : crc [0x31, 0x32, 0x33, 0x34, 0x35, 0x36, 0x37, 0x38, 0x39] = 0x29B1 := by decide +kernel
theorem test_image_is_valid : imageBytes.length = 286 ∧ img.firstFailure = none := by decide +kernel
/-- R43, worked case of 2.8: the targets of a four-station line. -/
theorem test_targets : [620, 900, 1205, 1250].map img.targetOf = [3154, 6000, 8200, 8500] := by decide +kernel

/-- Worked case of 2.3 to 2.5: four records, pool 1878. -/
def coil : List Slot :=
  [some (billet 20000 200000 10 0), some (billet 20000 500000 25 0), some (billet 20000 700000 32 0),
   some (billet 20000 1520000 40 0)]
theorem test_shares_of_a_pool : shares img 1878 coil = [440, 633, 528, 275] := by decide +kernel
/-- The same worked case as a period end: the residue, and H and D of each record. -/
theorem test_period_end_updates_records :
    let t := after (.periodEnd env) { tailSt with
      cq := { tailSt.cq with slots := coil }, tau := { tailSt.tau with residue := 3 } }
    t.tau.residue = 2 ∧ t.tau.sample.useful = 1875 ∧ t.cq.slots.map (fun x => x.map fun r => (r.h, r.d)) =
      [some (200420, 13), some (500593, 28), some (700468, 35), some (1520155, 40)] := by decide +kernel
/-- Worked case of 2.6: a record runs off the end of the table. -/
theorem test_record_reaches_table_end :
    let r := (billet 10000 899500 60 118).periodUpdate img false false 600
    r.h = 900020 ∧ r.d = 65 ∧ r.mean img = 1320 ∧ r.surface img = 1353 ∧ r.core img = 1288 ∧ r.soak = 119 ∧
      r.flags.modelLimit = true := by decide +kernel
/-- Worked case of 03: the demand of one period, its credit clamp and its ramp. -/
theorem test_demand_of_a_period :
    let s := { station 2 4 with
      micros := 20000000
      cq := { (station 2 4).cq with
        lastShift := 11000
        slots := [some (billet 20000 1410000 36 0), some (billet 20000 1470000 40 0), some (billet 20000 1530000 42 0),
                  some (billet 20000 1590000 40 0)] }
      ivi := { Ivi.reset with inForce := 3900, latched := 3900, enable := true } }
    let t := s.computeDemand
    t.pdu.ePlan = 3621 ∧ t.pdu.pDem = 4635 ∧ t.cru.need = some 93 ∧ t.pdu.pAvail = 4000 ∧ t.pdu.creditClamped = true ∧
      t.pdu.pNext = 4000 := by decide +kernel
/-- R19, worked sequence of 01: the stroke interval average. -/
theorem test_interval_average :
    (({ CoilQueue.reset with slots := [none], lastShift := 113000, intervalOpen := true, iAvg := 12094 } : CoilQueue).shifted
      12000 165000 none).iAvg = 13582 := by decide +kernel
/-- R16 to R18, worked example of 1.7, stroke 814: serial 65,535 of clamped mass enters and the counter goes to 1. -/
theorem test_push_clamps_mass :
    let t := after (.pushed env) { headSt with
      cq := { headSt.cq with lastStroke := 813 }, head := { headSt.head with pusher := .pushing, nextSerial := 65535 } }
    t.cq.lastStroke = 814 ∧ t.head.nextSerial = 1 ∧ t.counter .massClamps = 1 ∧
      t.cq.slots.head?.map (fun x => x.map fun r => (r.serial, r.mass)) = some (some (some 65535, 30000)) := by
  decide +kernel
/-- R72, worked sequence of 04: the head lends min(45, 13). -/
theorem test_canvass_lends_surplus :
    let t := after (.canvass env ⟨.down, 2, 255⟩ 2 17 13) { headSt with
      cru := { headSt.cru with base := 20, loans := 60, need := some 30 } }
    t.cru.loans = 47 ∧ t.downPort.localQ.map (·.payload) = [.reply 17 .lend 13] := by decide +kernel
/-- R74, R75, worked sequence of 04: the over-supply is returned and the canvass closes answered. -/
theorem test_lend_over_want_is_returned :
    let t := after (.reply env ⟨.up, 0, 2⟩ 17 .lend 13) { station 2 4 with
      cru := { (station 2 4).cru with
        loans := 45, need := some 93
        tracker := some { number := 17, want := 13, expected := 3, received := 2, total := 5, conflict := false,
                          deadline := 1200 } } }
    t.cru.loans = 53 ∧ t.cru.tracker = none ∧ t.cru.recanvass = none ∧ t.upPort.localQ.map (·.payload) = [.ret 17 5] ∧
      t.counter .canvassesAnswered = 1 := by decide +kernel
/-- R78, the late LEND of the second worked sequence of 04. -/
theorem test_late_lend_keeps_what_is_needed :
    let t := after (.reply env ⟨.down, 3, 2⟩ 18 .lend 5) { station 2 4 with
      cru := { (station 2 4).cru with need := some 82 } }
    t.cru.loans = 42 ∧ t.downPort.localQ.map (·.payload) = [.ret 18 3] := by decide +kernel
/-- R94, worked case of 2.7: the late record takes the accrued energy over. -/
theorem test_late_stroke_takes_accrued :
    let t := after (.stroke env ⟨.up, 0, 1⟩ 412 255 (some ⟨7, 20000, 1598000, 0, 0, 0, []⟩)) { midSt with
      cq := { midSt.cq with
        lastStroke := 412
        slots := [some { billet 20000 1640740 0 0 with serial := none, self := some ⟨740, 412⟩ }, none, none, none] } }
    t.cq.slots.head?.map (fun x => x.map fun r => (r.serial, r.h, r.self)) = some (some (some 7, 1598740, none)) ∧
      t.cq.lastStroke = 412 := by decide +kernel
/-- R123, R124, worked sequence of 6.6: eight errors that sum to −60 lower the trim by one. -/
theorem test_trim_window_lowers :
    windowStep 5 [-12, -3, -9, 2, -15, -6, -10, -7] = some .lower ∧
    windowStep 5 [5, 5, 5, 5, 5, 5, 5, 3] = none := by decide +kernel
/-- R12, R116, worked sequence of 06: S73 leaves with EXCURSION and the verdict REJECT for MEAN_LOW alone. -/
theorem test_model_verdict_mean_low :
    let r := (billet 20000 1601400 32 402).finish img 3
    r.flags.excursion = true ∧
      r.judge img = ⟨true, false, false, false, false, false, false, false⟩ := by decide +kernel

/-- R107: a press call removes PRESS_IDLE first; the CLEAR leaves ahead of the CALL, and under another cause the call waits. -/
theorem test_press_call_clears_press_idle :
    (after (.pressCall env) (holding tailSt [ownEntry .pressIdle 2])).upPort.localQ.map (·.payload) =
      [.clear 1 2, .call .press 1] ∧
    (let t := after (.pressCall env) (holding tailSt [heardEntry .estop 0, ownEntry .pressIdle 2])
     t.upPort.localQ.map (·.payload) = [.clear 1 2] ∧ t.tail.pressWaiting = true ∧ t.ldu.state = .hold) := by
  decide +kernel
/-- R145, R160: at the end of a frame, eight forward frames behind a local one of a lower class, the local one goes as an override. -/
theorem test_override_at_the_end_of_a_frame :
    let t := after (.transmitterFree env .up) { midSt with upPort := { upLink with
      localQ := [⟨1, 0, .call .press 1⟩], forward := [⟨0, 255, .hold 4 0⟩], starvation := 8
      transmitter := .sending ⟨0, 255, .hold 4 0⟩ false 999000 } }
    t.upPort.localQ = [] ∧ t.upPort.starvation = 0 ∧ t.portCounter .up .starvationOverrides = 1 ∧
      t.portCounter .up .framesSent = 1 := by decide +kernel

/-- R190, R111: with no awaiting billet each of its items is sent with all bits set, in the widths the billet's own items
take (this one's station list is empty). -/
theorem test_absent_awaiting_is_all_ones :
    awaitingItem none = List.replicate 40 0xFF ∧
    (awaitingItem (some ⟨latch img (billet 20000 1676000 32 410) 210, 1000⟩)).length = 40 := by decide +kernel

/-- A canvasser with 5 credits of a refused RETURN among its 58 loans (R74's own figures, R80), at a setpoint in force that uses
`used` units of the 4900 its 98 credits allow. -/
def overSupplied (used : Nat) : State :=
  { station 2 5 with
    ivi := { Ivi.reset with latched := used, inForce := used, enable := true }
    cru := { (station 2 5).cru with
      loans := 58, need := some 98
      tracker := some { number := 17, want := 13, expected := 4, received := 2, total := 18, conflict := false,
                        deadline := 1200 } } }
/-- R58, R74: the next LEND, of 1, goes back with the 5. The 93 credits left allow 4650 units: a setpoint of 4650 stays, one of
4651 and one of 4900 are withdrawn with enable (log 49). -/
theorem test_returned_credits_leave_no_setpoint_above_them :
    ∀ x ∈ [(4650, 4650, true), (4651, 0, false), (4900, 0, false)],
      let t := after (.reply env ⟨.up, 0, 2⟩ 17 .lend 1) (overSupplied x.1)
      t.cru.loans = 53 ∧ t.upPort.localQ.map (·.payload) = [.ret 17 6] ∧ t.ivi.latched = x.1 ∧
        (t.ivi.inForce, t.ivi.enable) = x.2 := by decide +kernel

/-- A lead that previews REJECT with TRACK (R112). -/
def rejectLead : Slot := some { billet 20000 1676000 32 410 with flags := { Flags.empty with lostTrack := true } }

/-- A station with a content in its lead slot, and a press call that waits or none. -/
def leading (s : State) (lead : Slot) (waiting : Bool) : State :=
  { s with
    cq := { s.cq with slots := [none, none, none, lead] }, tail := { s.tail with pressWaiting := waiting } }

def exitSt (pyro : Nat) (lead : Slot) (awaiting : Option Awaiting) : State :=
  { tailSt with
    cq := { tailSt.cq with slots := [none, none, none, lead] }
    exu := { tailSt.exu with awaiting := awaiting }
    svi := { tailSt.svi with image := some { img with pyroEnable := pyro } } }

/-- R105, R106: a shift ends the outstanding call; then a lead that previews REJECT is drawn by a SELF call, the press call
still waiting, and the GAP behind it lets that call go. -/
theorem test_call_check_after_a_shift :
    let s := { tailSt with
      cq := { tailSt.cq with slots := [none, none, rejectLead, none] }
      tail := { tailSt.tail with counter := 5, outstanding := some (5, .self), callTimer := some 4000, pressWaiting := true } }
    let t := after (.stroke env ⟨.up, 1, 2⟩ 1 255 none) s
    let v := after (.stroke env ⟨.up, 1, 2⟩ 2 255 none) t
    t.tail.outstanding = some (6, .self) ∧ t.tail.pressWaiting = true ∧ t.upPort.localQ.map (·.payload) = [.call .self 6] ∧
      v.tail.outstanding = some (7, .press) ∧ v.tail.pressWaiting = false ∧
      v.upPort.localQ.map (·.payload) = [.call .self 6, .call .press 7] := by decide +kernel

/-- R110: a PUSHED edge that is ignored is counted: at a station that is not the head, off line, and at a head in IDLE. -/
theorem test_ignored_pushed_is_counted :
    (after (.pushed env) midSt).counter .pushedSpurious = 1 ∧ (after (.pushed env) State.reset).counter .pushedSpurious = 1 ∧
    (after (.pushed env) (pusherAt .idle false [])).counter .pushedSpurious = 1 := by decide +kernel
/-- R87, R110: a STROKE at the head counts STROKES_UNEXPECTED, and SYNTH_STROKES_TAKEN where its field names a position. -/
theorem test_stroke_at_the_head : let t := after (.stroke env ⟨.up, 0, 0⟩ 1 3 none) { headSt with upPort := upLink }
    t.counter .strokesUnexpected = 1 ∧ t.counter .synthStrokesTaken = 1 ∧ t.cq = headSt.cq := by decide +kernel

/-- R13, R98, R109: on a line of one station the stroke that brings a rejected lead forward sends the head its SELF call, which
starts at once, the pusher being IDLE again. -/
theorem test_single_station_stroke :
    let t := after (.pushed env) { onlySt with
      cq := { onlySt.cq with slots := [none, none, rejectLead, none] }
      head := (pusherAt .pushing false []).head }
    t.tail.outstanding = some (1, .self) ∧ t.head.lastExecuted = some 1 ∧ t.head.pusher = .pushing ∧ t.head.calls = [] := by
  decide +kernel

/-- R128, R190: the Hold Unit's items are the list (its count and entry), the refresh timer and the line mode: HOLD. -/
theorem test_hold_items_in_the_order_of_their_table :
    ({ holding midSt [ownEntry .pressIdle 1] with
       hlu := { entries := [ownEntry .pressIdle 1], refresh := some 1200 } } : State).hluItems =
      [1, 1, 1, 1, 0, 0, 3, 232, 255, 255] ++ [0, 0, 0, 4, 176] ++ [1] := by decide +kernel

/-- R162: a broadcast at a station on line is COPIED-FORWARDED on the port of arrival; the eighth error character drops the open
frame with CHAR_ERROR before the loss of the link drops the frame that waits. -/
theorem test_trace_offers :
    (let t := after (.hold env ⟨.up, 0, 255⟩ 4 0) { midSt with ltr := { Ltr.reset with state := .recording } }
     t.ltr.ring.map (fun y => (y.port, y.action, y.error)) = [(.up, .copiedForwarded, none)]) ∧
    (let t := after (.linkDownErrors env .up) { holding midSt [ownEntry .linkLossUp 1] with
       upPort := { upLink with receiver := .inFrame [1], errorRun := 7, localQ := [⟨1, 0, .call .press 1⟩] }
       ltr := { Ltr.reset with state := .recording, traceErrors := true } }
     t.ltr.ring.map (fun y => (y.port, y.action, y.error)) =
       [(.up, .dropped, some .charError), (.up, .dropped, some .linkLoss)]) := by decide +kernel

/-- R155, R162: a COUNT ends at the claimed head it puts on line, whose UP link is UP; one with match no, which leaves the station in
FAULT, and one at a station in the middle go on by UP. -/
theorem test_count_ends_at_the_head :
    ∀ x ∈ [(0, true, StationState.run, [], [(Port.down, Action.consumed)]), (0, false, .fault, [Kind.count], [(.down, .copiedForwarded)]),
        (1, true, .run, [.count], [(.down, .copiedForwarded)])],
      let t := after (.count env ⟨.down, 2, 255⟩ 3 x.2.1) { discSt with
        ldu := { discSt.ldu with position := some x.1 }, ltr := { Ltr.reset with state := .recording } }
      t.ldu.state = x.2.2.1 ∧ (t.port .up).forward.map frameKind = x.2.2.2.1 ∧
        t.ltr.ring.map (fun y => (y.port, y.action)) = x.2.2.2.2 := by decide +kernel

/-- R190, R112: a model verdict of all seven reasons is 127 in its one byte, which 255 marks absent. -/
theorem test_model_reasons_in_one_byte :
    (⟨true, true, true, true, true, true, true, false⟩ : Reasons).modelByte = 127 ∧ bytesFor (127 + 1) = 1 := by decide

/-- R4, R34: H that reaches 40,000,000 exactly carries MODEL_LIMIT, one below it does not, and one above it is clamped. -/
theorem test_model_limit_at_the_bound :
    let r := billet 60000 39999990 0 0
    ([9, 10, 11].map fun n => ((r.heat img (n + r.loss img)).h, (r.heat img (n + r.loss img)).flags.modelLimit)) =
      [(39999999, false), (40000000, true), (40000000, true)] := by decide +kernel
/-- The one station of its line, with the link of its DOWN port UP by a part beyond it (R132). -/
def onlyLinked : State := { onlySt with downPort := upLink }
/-- R130: on a single-station line the raise of an own cause inserts the entry and offers no frame. -/
theorem test_single_station_raise_offers_no_frame :
    let t := after (.estopAsserted env) onlyLinked
    t.hlu.hasOwn .estop = true ∧ t.hlu.refresh = some 1500 ∧ t.downPort.localQ = [] ∧ t.counter .holdsSent = 0 ∧
      t.ldu.state = .tripped := by decide +kernel

/-- R146, R147, R151: on a DOWN link a data character finds the receiver HUNTING: it is stray, in the break period too, and counts
toward UP after it, the sixteenth one as well. -/
theorem test_data_character_on_a_down_link_is_stray :
    ∀ x ∈ [(Transmitter.brk 4, 0, 0, LinkState.down), (.idling, 14, 15, .down), (.idling, 15, 16, .up)],
      let t := after (.characterReceived env .up (goodChar false 5)) { midSt with
        upPort := { LinkPort.reset with transmitter := x.1, validRun := x.2.1 } }
      t.portCounter .up .strayData = 1 ∧ t.upPort.validRun = x.2.2.1 ∧ t.upPort.link = x.2.2.2 := by decide +kernel

/-! ### What meets the hypotheses of the obligations, clause by clause -/

/-- The four ways of OwnRaised: the cause stands; it is new and the list has room; the list is full, its first entry the oldest. -/
theorem witness_OwnRaised :
    (holding midSt [ownEntry .estop 1]).hlu.hasOwn .estop = true ∧
    (midSt.hlu.hasOwn .estop = false ∧ midSt.hlu.entries.length < 16) ∧
    (let s := holding midSt fullList
     s.hlu.hasOwn .estop = false ∧ 16 ≤ s.hlu.entries.length ∧ s.onLine = true ∧
     s.hlu.entries = [] ++ { cause := .estop, origin := 16, own := false, refreshed := 0 } :: fullList.drop 1 ∧
     ∀ y ∈ fullList.drop 1, (s.now - y.refreshed).toNat ≤ (s.now - (0 : Time)).toNat) := by decide +kernel

theorem witness_StepTakesFrontCommand : State.reset.pending = [] := by decide

theorem witness_OnLineStationKeepsItsPlace : midSt.onLine = true ∧ midSt.cq.slots ≠ [] ∧
    (∀ e, Instr.motionEdge env ≠ .powerOn e ∧ Instr.motionEdge env ≠ .resetPin e) ∧
    answers (exec (.motionEdge env) midSt) = true := by
  refine ⟨by decide, by decide +kernel, fun e => ⟨nofun, nofun⟩, by decide +kernel⟩
theorem witness_PowerRisesOnlyAtBoundaries : midSt.onLine = true ∧
    (∀ e, Instr.readyLow env ≠ .powerOn e ∧ Instr.readyLow env ≠ .resetPin e ∧ Instr.readyLow env ≠ .periodEnd e) ∧
    answers (exec (.readyLow env) midSt) = true := by
  refine ⟨by decide, fun e => ⟨nofun, nofun, nofun⟩, by decide +kernel⟩
theorem witness_ResetCauseSet : State.reset.serviceFree = true := by decide

/-- A station on line with a record in its coil, a command waiting, and something in every list the invariants speak of. -/
def live : State :=
  { holding midSt [ownEntry .linkLossUp 1, heardEntry .estop 0] with
    cq := { midSt.cq with slots := [some { billet 20000 200000 10 0 with stations := [(0, 612)] }, none, none, none] }
    ivi := { Ivi.reset with latched := 3900, inForce := 3900, enable := true }
    cru := { midSt.cru with
      need := some 78
      tracker := some { number := 7, want := 13, expected := 2, received := 1, total := 13, conflict := false,
                        deadline := 1200 } }
    head := { Head.reset with calls := [3], lastExecuted := some 2 }
    tracker := { unmatched := 1, motionDeadline := some 1000, unconfirmed := 0, confirmDeadline := none }
    upPort := { upLink with
      forward := [⟨0, 255, .hold 4 0⟩], localQ := [⟨1, 255, .hold 2 1⟩, ⟨1, 0, .call .press 1⟩], starvation := 8 }
    exu := { Exu.reset with window := [3, -2], owed := 3 }
    pending := [.motionEdge env] }

theorem witness_live_steps : answers (step live) = true := by decide +kernel
/-- On line with the role of the place: the live state, whose step is a motion edge, and each place of a line of three and of one. -/
theorem witness_RoleOk : live.RoleOk ∧ headSt.RoleOk ∧ midSt.RoleOk ∧ tailSt.RoleOk ∧ (station 0 1).RoleOk := by
  unfold State.RoleOk; decide +kernel
theorem witness_StepKeepsPortQueues : live.QueuesOk := by
  unfold State.QueuesOk LinkPort.QueuesOk; decide +kernel
theorem witness_StepKeepsHoldList : live.HoldListOk := by
  unfold State.HoldListOk; decide +kernel
/-- The setpoint in force is the most that the need of the last demand covers, and the canvass holds all it wants. -/
theorem witness_StepKeepsPowerSafe : live.PowerSafe ∧ live.CreditsCover := by
  refine ⟨?_, by unfold State.CreditsCover; decide +kernel⟩
  unfold State.PowerSafe State.ModeOk State.FaultHeld State.EnableOk State.RatingOk; decide +kernel
theorem witness_StepKeepsQueueSound : live.SerialsOk ∧ live.QueueSound := by
  refine ⟨by unfold State.SerialsOk; decide +kernel, ?_, by unfold State.ShapeOk; decide +kernel,
    by unfold State.TargetsOk; decide +kernel, ?_, by decide, by decide⟩
  · intro i h
    have hi : i = img := by simpa [live, holding, midSt, station] using h.symm
    rw [hi]; exact test_image_is_valid.2
  · intro r h
    have hr : r = { billet 20000 200000 10 0 with stations := [(0, 612)] } := by
      simpa [live, holding, midSt, station] using h
    subst hr
    refine ⟨fun n hn => ?_, by decide, by decide, by decide, by decide, by decide, by decide, by decide⟩
    have : n = 1 := by simpa [billet] using hn.symm
    omega
theorem witness_StepKeepsCallsAndTracker : live.head.CallsOk ∧ live.tracker.CountsOk := by
  refine ⟨⟨by decide, by decide, fun n hn => ?_⟩, by unfold Tracker.CountsOk; decide⟩
  have h : n = 3 := by simpa [live, holding] using hn
  subst h; decide
theorem witness_StepKeepsLogsAndTrimInBounds : live.ltr.RingOk ∧ live.exu.BoundsOk ∧ live.tau.TrimOk := by
  unfold Ltr.RingOk Exu.BoundsOk Tau.TrimOk; decide +kernel

def requestFree (s : State) (r : Request) : Bool := s.serviceFree && decide (r.payload.length ≤ 1024)

/-- Wrong CRC, wrong length, and the four refusals for the state, each at a row of requestRows. -/
theorem witness_RequestsRefusedInOrder :
    (requestFree midSt ⟨[], 0⟩ = true ∧ (0 : Half) ≠ requestCrc 16 []) ∧
    (requestFree midSt (request 16 [1]) = true ∧ ([1] : List Byte).length ≠ readStatusService.length) ∧
    (imageBytes.length = loadImageService.length ∧ midSt.ldu.state ≠ .config ∧ midSt.ldu.state ≠ .fault) ∧
    (State.reset.svi.image = none ∧ midSt.ldu.state ≠ .config) ∧
    (∀ x ∈ [TraceState.armed, .recording], ({ midSt with ltr := { midSt.ltr with state := x } } : State).ltr.state = x) ∧
    midSt.ltr.state = .idle ∧ (∀ code ∈ [(0 : Byte), 4, 9, 255], code ∉ requestRows.map RequestRow.code) ∧
    midSt.exu.log.length ≤ (0 : Byte).toNat ∧ 4 < (5 : Byte).toNat ∧ 9 < (10 : Byte).toNat ∧
    midSt.ltr.ring.length ≤ 256 * (0 : Byte).toNat + (0 : Byte).toNat ∧ 16 < (17 : Byte).toNat := by
  decide +kernel

def entry : LogEntry := logEntry 1000 (latch img (billet 20000 1676000 32 410) 210) ⟨false, false, false, false, false,
  false, false, false⟩ (some 1241)

def trace1 : TraceEntry := { port := .up, action := .consumed, error := none, gap := 0, time := 0,
                             view := { kind := some 1, src := some 0, dst := some 16, key := none } }

/-- A state with one log entry and one trace entry, read at both ends of each count. -/
theorem witness_ReadsAnswerAndChangeNothing :
    let s := { midSt with exu := { midSt.exu with log := [entry] }, ltr := { midSt.ltr with ring := [trace1] } }
    s.serviceFree = true ∧ (0 : Byte).toNat < s.exu.log.length ∧ (∀ c ∈ [(1 : Byte), 4], 1 ≤ c.toNat ∧ c.toNat ≤ 4) ∧
    (∀ c ∈ [(1 : Byte), 9], 1 ≤ c.toNat ∧ c.toNat ≤ 9) ∧ 256 * (0 : Byte).toNat + (0 : Byte).toNat < s.ltr.ring.length ∧
    (∀ c ∈ [(1 : Byte), 16], 1 ≤ c.toNat ∧ c.toNat ≤ 16) := by decide +kernel

theorem witness_LoadImageStoresOrDiscards :
    State.reset.serviceFree = true ∧ State.reset.ldu.state = .config ∧
    ((request 2 imageBytes).payload.length = 286 ∧ (parseImage imageBytes).firstFailure = none) ∧
    ((List.replicate 286 (0 : Byte)).length = 286 ∧
      (parseImage (List.replicate 286 0)).firstFailure = some ⟨1, 0, false⟩) := by decide +kernel

def configured : State := { State.reset with svi := { Svi.reset with image := some img }, upPort := upLink }

theorem witness_StartEntersDiscover :
    configured.serviceFree = true ∧ configured.ldu.state = .config ∧ configured.svi.image.isSome = true ∧
    (configured.linkIsUp .up = true ∧ (configured.port .up).localQ.length < 8) ∧ configured.linkIsUp .down = false := by
  decide +kernel
theorem witness_ClearCountersZeroesAllButItsOwn : midSt.serviceFree = true := by decide

def offer1 : Offer := { port := .up, action := .consumed, error := none, view := trace1.view }

theorem witness_TraceCommandsAndTaking :
    (midSt.serviceFree = true ∧ midSt.ltr.state = .idle ∧
      (request 32 (List.replicate 42 0)).payload.length = 42) ∧
    (let s := { midSt with ltr := { midSt.ltr with state := .stopped } }; s.serviceFree = true ∧ s.ltr.state ≠ .idle) ∧
    (let x := { Ltr.reset with state := .armed, mode := .startOn }; x.state = .armed ∧ x.mode = .startOn ∧
      x.pattern.matches offer1 = true ∧ ({ Pattern.any with kind := some 2 } : Pattern).matches offer1 = false) ∧
    ({ Ltr.reset with state := .recording } : Ltr).state = .recording ∧
    (∀ row ∈ [(0 : Fin 16), 10], ∃ v : FrameView, v.kind = some (BitVec.ofNat 8 (row.val + 1)) ∧ row.val < 11 ∧
      v.src = some 15) ∧
    kindOfCode 12 = none ∧ kindOfCode 0 = none ∧ ({ Pattern.any with dst := some 2 } : Pattern).matches offer1 = false ∧
    (∀ f ∈ [hold1, call1], f.src.toNat ≤ 15 ∧ (f.dst.toNat ≤ 15 ∨ f.dst = 255)) := by
  refine ⟨by decide +kernel, by decide +kernel, by decide +kernel, rfl, fun row h => ?_, by decide, by decide,
    by decide +kernel, by decide⟩
  exact ⟨⟨_, some 15, none, none⟩, rfl, by revert h; revert row; decide, rfl⟩

def receiving (r : SvcReceiver) : State := { midSt with svi := { midSt.svi with receiver := r } }

theorem witness_ServiceLineEvents :
    midSt.svi.receiver = .hunting ∧
    ((receiving (.inRequest [16] 990)).svi.receiver = .inRequest [16] 990 ∧ (midSt.now - 990).toNat ≤ 10 ∧
      ([16] : List Byte).length < 2) ∧
    ((receiving (.inRequest [16, 4] 990)).svi.receiver = .inRequest [16, 4] 990 ∧
      1024 < 256 * (4 : Byte).toNat + (1 : Byte).toNat) ∧
    (receiving (.responding [0])).svi.receiver = .responding [0] ∧
    ((256 * (4 : Byte).toNat + (0 : Byte).toNat ≤ 1024) ∧ ([] : List Byte).length < 256 * 4 + 0 + 2) ∧
    (∀ code ∈ [(16 : Byte), 9], (receiving (.inRequest (code :: 0 :: 1 :: [7, 1]) 990)).svi.receiver =
        .inRequest (code :: 0 :: 1 :: [7, 1]) 990 ∧ ([7, 1] ++ [(2 : Byte)]).length = 256 * (0 : Byte).toNat + (1 : Byte).toNat + 2) ∧
    (16 ∈ requestRows.map RequestRow.code ∧ 9 ∉ requestRows.map RequestRow.code) ∧
    ((receiving (.inRequest [] 989)).svi.receiver = .inRequest [] 989 ∧ 10 < (midSt.now - 989).toNat) := by
  decide +kernel
theorem witness_RequestBytesAreTheRequest :
    midSt.svi.receiver = .hunting ∧ (List.replicate 1024 (0 : Byte)).length ≤ 1024 := by decide +kernel

/-- The ends of every range the header checks bound (R152). -/
theorem witness_PayloadBytesReadBack : ∀ x ∈ [Payload.reply 1 .lend 1, .reply 1 .lend 500, .reply 1 .decline 0, .ret 1 1,
    .stroke 1 255 (some ⟨0, 0, 0, 0, 0, 0, List.replicate 16 (0, 0)⟩), .trim .lower 3], payloadOk x = true := by
  decide +kernel
theorem witness_FrameCharactersAreTheFrame : midSt.linkIsUp .up = true ∧ (midSt.port .up).receiver = .hunting ∧
    headerOk .up ⟨0, 1, .stroke 1 255 none⟩ = true := by decide +kernel

theorem witness_TripEdgesCutPower :
    (midSt.onLine = true ∧ midSt.hlu.hasOwn .estop = false ∧ midSt.hlu.hasOwn .inverterFault = false ∧
      midSt.hlu.entries.length < 16) ∧
    (let s := holding midSt [ownEntry .estop 1, ownEntry .inverterFault 1]
     s.onLine = true ∧ s.ldu.state = .tripped ∧ s.hlu.hasOwn .estop = true ∧ s.hlu.hasOwn .inverterFault = true) ∧
    ((∀ p ∈ [Port.up, .down], midSt.linkIsUp p = true ∧ midSt.hasRoom p = true) ∧ midSt.linksUp = 2) ∧
    (headSt.linkIsUp .up = false ∧ headSt.hasRoom .down = true ∧ headSt.linksUp = 1) ∧
    (∀ last ∈ [⟨1, 0, .reply 7 .lend 5⟩, ⟨1, 255, .hold 2 1⟩],
      let s := { headSt with downPort := { upLink with localQ := fullQueue last } }
      s.linkIsUp .down = true ∧ s.linkIsUp .up = false ∧ (s.port .down).check ≠ .miswired ∧
      (s.port .down).localQ = List.replicate 7 ⟨1, 255, .hold 2 1⟩ ++ [last]) ∧
    (0 < frameClass ⟨1, 0, .reply 7 .lend 5⟩ ∧ frameClass ⟨1, 255, .hold 2 1⟩ = 0) ∧
    (midSt.isSingle = false ∧ onlyLinked.isSingle = true ∧ onlyLinked.onLine = true ∧ onlyLinked.hasRoom .down = true ∧
      onlyLinked.hlu.hasOwn .estop = false) := by decide +kernel
theorem witness_LevelsOfThePlantLines : State.reset.onLine = false := by decide
/-- Two causes removed at once with the queue of CLEARs just full, none removed, and a head in pusher FAULT. -/
theorem witness_TripResetRemovesOwnCauses :
    (let s := { holding midSt [ownEntry .estop 1, heardEntry .estop 0, ownEntry .inverterFault 1] with
       upPort := { upLink with localQ := List.replicate 6 ⟨1, 255, .hold 2 1⟩ } }
     let gone : HoldEntry → Bool := fun x => x.own && (x.cause == .estop || x.cause == .inverterFault)
     (s.hlu.entries.filter gone).map HoldEntry.cause = [.estop, .inverterFault] ∧ [Cause.estop, .inverterFault].Nodup ∧
     s.linkIsUp .up = true ∧ (s.port .up).check ≠ .miswired ∧ (s.port .up).localQ.length + 2 = 8 ∧
     headSt.linkIsUp .up = false) ∧
    (midSt.onLine = true ∧ midSt.pins.estop = false ∧ midSt.pins.fault = false) ∧
    (let s := { holding headSt [ownEntry .estop 0] with
       pins := { headSt.pins with estop := true }, head := { headSt.head with pusher := .fault } }
     s.onLine = true ∧ s.pins.estop = true ∧ s.isHead = true ∧ s.head.pusher = .fault ∧ s.head.calls = []) ∧
    (let s := { holding headSt [ownEntry .pusherFault 0] with head := (pusherAt .fault true [5, 6]).head }
     s.onLine = true ∧ s.isHead = true ∧ s.head.pusher = .fault ∧ s.head.calls = 5 :: [6] ∧
     (after (.tripReset env) s).hlu.entries = [] ∧ (after (.tripReset env) s).head.lastExecuted = some 5) := by
  decide +kernel

def tracking (unmatched unconfirmed : Nat) : State :=
  { midSt with tracker := { unmatched := unmatched, motionDeadline := some 1000, unconfirmed := unconfirmed,
                            confirmDeadline := some 1000 } }

theorem witness_MotionEdgeMovesTheTracker :
    ((tracking 0 1).tracks = true ∧ 0 < (tracking 0 1).tracker.unconfirmed) ∧
    (∀ n ∈ [0, 1], (tracking n 0).tracks = true ∧ (tracking n 0).tracker.unconfirmed = 0 ∧
      (tracking n 0).tracker.unmatched < 2) ∧
    ((tracking 2 0).tracks = true ∧ 2 ≤ (tracking 2 0).tracker.unmatched) ∧ State.reset.onLine = false := by
  decide +kernel

theorem witness_PushedEdgeTakesTheStroke :
    (∀ s ∈ [pusherAt .pushing false [], pusherAt .fault true [], pusherAt .fault false [], pusherAt .idle false []],
      s.onLine = true ∧ s.isHead = true) ∧
    (headSt.isTail = false ∧ headSt.hlu.entries = [] ∧ headSt.hasRoom .down = true ∧
      ({ headSt with downPort := .reset } : State).linkIsUp .down = false) ∧ (pusherAt .pushing false [5, 6]).head.calls = 5 :: [6] ∧
    midSt.isHead = false ∧ State.reset.onLine = false ∧
    (∀ pusher ∈ [Pusher.pushing, .fault], ∀ slots ∈ [[none, none, none, none], [none, none, rejectLead, none], coil],
      ∀ waiting ∈ [true, false],
        let s := { onlySt with
          cq := { onlySt.cq with slots := slots }, head := (pusherAt pusher true [5]).head
          tail := { onlySt.tail with pressWaiting := waiting } }
        s.onLine = true ∧ s.isHead = true ∧ s.isTail = true ∧
        s.checkSends s.tailLeft (after (.pushed env) s).exu.preview =
          (if slots ≠ [none, none, none, none] then some .self else if waiting then some .press else none)) := by
  decide +kernel
/-- Which clauses of HeadTakesCall a state meets for a call: executed last or held already, no room, room, and started at once. -/
def takesAt (s : State) (n : Half) : List Bool :=
  [decide (s.head.lastExecuted = some n ∨ n ∈ s.head.calls),
   decide (s.head.lastExecuted ≠ some n ∧ n ∉ s.head.calls ∧ 2 ≤ s.head.calls.length),
   decide (s.head.lastExecuted ≠ some n ∧ n ∉ s.head.calls ∧ s.head.calls.length < 2),
   decide (s.head.pusher = .idle ∧ s.hlu.entries = [])]

theorem witness_PressCallAtTheTail :
    (tailSt.onLine = true ∧ tailSt.isTail = true ∧ tailSt.isHead = false ∧ tailSt.hlu.hasOwn .pressIdle = false) ∧
    (tailSt.ldu.state = .run ∧ tailSt.tail.outstanding = none ∧ tailSt.previewRejects = false ∧
      tailSt.hasRoom .up = true) ∧
    (let s := { tailSt with tail := { tailSt.tail with outstanding := some (1, .self) } }; s.tail.outstanding ≠ none) ∧
    (let s := { tailSt with upPort := LinkPort.reset }; s.linkIsUp .up = false ∧ s.ldu.state = .run) ∧
    (onlySt.onLine = true ∧ onlySt.isTail = true ∧ onlySt.isHead = true ∧ onlySt.hlu.hasOwn .pressIdle = false ∧
      onlySt.ldu.state = .run ∧ onlySt.tail.outstanding = none ∧ onlySt.previewRejects = false ∧
      takesAt onlySt (onlySt.tail.counter + 1) = [false, false, true, true]) ∧
    (∀ es ∈ [[ownEntry .pressIdle 2], [ownEntry .linkLossUp 2, ownEntry .pressIdle 2]], let s := holding tailSt es
      s.onLine = true ∧ s.isTail = true ∧ s.isHead = false ∧ s.hlu.hasOwn .pressIdle = true ∧ s.hasRoom .up = true ∧
      s.upPort.localQ.length < 7 ∧ s.tail.outstanding.isNone = true ∧ s.previewRejects = false ∧
      modeOf (after (.pressCall env) s).hlu.entries = (if es.length = 1 then .run else .hold)) ∧
    (({ holding tailSt [ownEntry .pressIdle 2] with downPort := upLink } : State).hasRoom .down = true ∧
      ({ holding tailSt [ownEntry .pressIdle 2] with upPort := .reset } : State).linkIsUp .up = false) ∧
    (∀ es ∈ [[ownEntry .pressIdle 0], [ownEntry .estop 0, ownEntry .pressIdle 0]],
      let s := { holding onlySt es with head := (pusherAt .idle false [5, 6]).head, downPort := upLink }
      s.onLine = true ∧ s.isTail = true ∧ s.isHead = true ∧ s.hlu.hasOwn .pressIdle = true ∧ s.hasRoom .down = true ∧
      modeOf (after (.pressCall env) s).hlu.entries = (if es.length = 1 then .run else .tripped) ∧
      takesAt { s with head := s.startedHead (after (.pressCall env) s).hlu.entries s.head } 1 =
        (if es.length = 1 then [false, false, true, false] else [false, true, false, false])) ∧
    midSt.isTail = false := by decide +kernel

/-- An empty coil, and a coil with a GAP and with a self-stroke placeholder at slot 0, with the share of each record. -/
theorem witness_PeriodEndAccountsTheEnergy : (midSt.observe env).periodDue = true ∧
    (let s := { midSt with cq := { midSt.cq with
       slots := [some { billet 20000 500000 25 0 with serial := none, self := some ⟨740, 412⟩ }, none] ++ coil.drop 2 } }
     (s.observe env).periodDue = true ∧ occupied s.cq.slots = true ∧ s.cq.slots[1]? = some none ∧
     s.cq.slots[2]? = some (some (billet 20000 700000 32 0)) ∧ ((shares img 1878 s.cq.slots)[2]?).isSome = true ∧
     ((shares img 1878 s.cq.slots)[0]?).isSome = true) ∧
    (∀ s ∈ [tailSt, onlySt], ∀ lead ∈ [none, rejectLead], ∀ waiting ∈ [true, false],
      ((leading s lead waiting).observe env).periodDue = true ∧ s.isTail = true ∧ s.isHead = decide (s = onlySt) ∧
      (leading s lead waiting).checkSends (leading s lead waiting).tail
          (after (.periodEnd env) (leading s lead waiting)).exu.preview =
        (if lead = rejectLead then some .self else if waiting then some .press else none)) ∧
    (tailSt.hasRoom .up = true ∧ tailSt.upPort.localQ.length ≤ 6 ∧
      ({ tailSt with upPort := .reset } : State).linkIsUp .up = false) ∧
    takesAt onlySt (onlySt.tail.counter + 1) = [false, false, true, true] := by decide +kernel
theorem witness_SharesLeaveLessThanOnePerRecord : img.firstFailure = none ∧ coil.length ≤ 8 ∧ occupied coil = true ∧
    (coil ++ coil).length = 8 := by decide +kernel
/-- In RUN, and in HOLD and TRIPPED, with records to heat. -/
theorem witness_DemandIsLatchedAtTheBoundary :
    ∀ es ∈ [[], [heardEntry .linkLossUp 0], [heardEntry .estop 0]],
      let s := holding { midSt with cq := { midSt.cq with slots := coil } } es
      (s.observe env).periodDue = true ∧ s.tau.targets = some img.targetTable ∧
      s.ldu.state = (if es = [] then .run else modeOf es) := by decide +kernel
/-- Both sides of the ramp: a demand above the setpoint in force, and none. -/
theorem witness_RampLimitsTheRise :
    (let s := { midSt with cq := { midSt.cq with slots := coil } }
     let t := after (.periodEnd env) s
     (s.observe env).periodDue = true ∧ s.ivi.inForce < min t.pdu.pDem t.pdu.pAvail) ∧
    (let t := after (.periodEnd env) midSt
     (midSt.observe env).periodDue = true ∧ min t.pdu.pDem t.pdu.pAvail ≤ midSt.ivi.inForce) := by decide +kernel

def shortSt : State :=
  { midSt with cq := { midSt.cq with slots := coil, lastShift := 0 }, cru := { midSt.cru with base := 0, loans := 0 } }

/-- A short station and one that is not; a tail that may call; no port UP; an offer refused at a full queue and at a MISWIRED port. -/
theorem witness_ShortStationOpensACanvass :
    (∀ s ∈ [shortSt, midSt], (s.observe env).periodDue = true ∧ s.isTail = false ∧ 1 < s.ldu.n.getD 0 ∧
      s.cru.tracker = none ∧ s.cru.backoff = none ∧ s.cru.recanvass = none ∧ s.linkIsUp .up = true ∧
      s.hasRoom .up = true ∧ s.hasRoom .down = true) ∧
    (let s := { shortSt with upPort := .reset, downPort := .reset }
     s.linkIsUp .up = false ∧ s.linkIsUp .down = false ∧
     s.cru.base + s.cru.loans < (after (.periodEnd env) s).cru.need.getD 0) ∧
    (let s := { shortSt with
       upPort := { upLink with check := .miswired }, downPort := { upLink with localQ := fullQueue ⟨1, 0, .reply 7 .lend 5⟩ } }
     (s.port .up).check = .miswired ∧ (s.port .down).localQ = List.replicate 7 ⟨1, 255, .hold 2 1⟩ ++ [⟨1, 0, .reply 7 .lend 5⟩] ∧
     frameClass ⟨1, 0, .reply 7 .lend 5⟩ ≤ kindClass .canvass) ∧
    (let s := { shortSt with ldu := tailSt.ldu, downPort := .reset }
     s.isTail = true ∧ s.ldu.state = .run ∧ s.tail.outstanding = none ∧ s.upPort.localQ.length ≤ 6 ∧
     s.cru.base + s.cru.loans < (after (.periodEnd env) s).cru.need.getD 0) ∧
    shortSt.cru.base + shortSt.cru.loans < (after (.periodEnd env) shortSt).cru.need.getD 0 ∧
    (after (.periodEnd env) midSt).cru.need.getD 0 ≤ midSt.cru.base + midSt.cru.loans := by decide +kernel
theorem witness_MotionDeadlineTakesASelfStroke :
    let s := tracking 1 0
    s.tracks = true ∧ due s.now s.tracker.motionDeadline = true ∧ s.isTail = false ∧ s.hasRoom .down = true ∧
    (∀ pyro ∈ [0, 1], ∀ lead ∈ [none, some (billet 20000 1676000 32 410)],
      let x := { exitSt pyro lead none with tracker := s.tracker }
      x.tracks = true ∧ due x.now x.tracker.motionDeadline = true ∧ x.isTail = true ∧
      x.checkSends x.tailLeft (after (.motionDeadlineExpiry env) x).exu.preview = none) ∧
    (let x := { leading tailSt rejectLead true with tracker := s.tracker }
     x.tracks = true ∧ x.isTail = true ∧ x.linkIsUp .up = true ∧ x.upPort.check ≠ .miswired ∧ x.upPort.localQ.length < 8 ∧
     x.checkSends x.tailLeft (after (.motionDeadlineExpiry env) x).exu.preview = some .press ∧
     ({ x with upPort := .reset } : State).linkIsUp .up = false) := by decide +kernel
theorem witness_ConfirmDeadlineGivesUpAShift :
    let s := tracking 0 1
    s.tracks = true ∧ 0 < s.tracker.unconfirmed ∧ due s.now s.tracker.confirmDeadline = true ∧
    s.tracker.unmatched < 2 ∧ (let v := after (.motionEdge env) (after (.confirmDeadlineExpiry env) s)
      due (v.observe { env with dt := 300000 }).now v.tracker.motionDeadline = true) := by decide +kernel
theorem witness_PusherTimeoutAndPulseEnds :
    (let s := pusherAt .pushing false []
     s.onLine = true ∧ s.isHead = true ∧ due s.now s.head.timer = true ∧ due s.now s.head.pulse = true ∧
     s.hlu.hasOwn .pusherFault = false ∧ s.hlu.entries.length < 16) ∧
    (holding headSt [ownEntry .pusherFault 0]).hlu.hasOwn .pusherFault = true ∧ headSt.isTail = false ∧
    (let s := { onlyLinked with head := (pusherAt .pushing false []).head }
     s.onLine = true ∧ s.isHead = true ∧ s.isTail = true ∧ due s.now s.head.timer = true) ∧
    (reached tailSt.now 1000 = true ∧ ({ Exu.reset with pulse := .high 1000 } : Exu).pulse = .high 1000 ∧
      ∀ n ∈ [0, 3], ({ Exu.reset with pulse := .low 1000, owed := n } : Exu).owed = n) := by decide +kernel

/-- A tail whose timers have all come. -/
def tailDue (x : Option (Half × CallKind)) : State :=
  { tailSt with tail := { tailSt.tail with
      outstanding := x, callTimer := some 1000, fill := true, fillTimer := some 1000, pressIdle := some 1000 } }

theorem witness_TailTimersAct :
    (∀ s ∈ [tailDue none, tailDue (some (4, .press))], s.onLine = true ∧ s.isTail = true ∧ s.isHead = false ∧
      due s.now s.tail.callTimer = true ∧ s.tail.fill = true ∧ due s.now s.tail.fillTimer = true ∧
      due s.now s.tail.pressIdle = true ∧ s.ldu.state = .run ∧ s.hasRoom .up = true ∧
      s.hlu.hasOwn .pressIdle = false) ∧
    ({ tailDue (some (4, .press)) with upPort := .reset } : State).linkIsUp .up = false ∧
    (let s := { onlySt with tail := (tailDue none).tail }
     s.onLine = true ∧ s.isTail = true ∧ s.isHead = true ∧ s.tail.fill = true ∧ due s.now s.tail.fillTimer = true ∧
     s.tail.outstanding = none ∧ s.ldu.state = .run ∧ takesAt s (s.tail.counter + 1) = [false, false, true, true]) ∧
    (let s := { onlySt with tail := (tailDue (some (4, .press))).tail, head := (pusherAt .idle false [4]).head }
     s.isHead = true ∧ due s.now s.tail.callTimer = true ∧ takesAt s 4 = [true, false, false, true]) ∧
    (let s := { onlyLinked with tail := (tailDue none).tail }
     s.isHead = true ∧ due s.now s.tail.pressIdle = true ∧ s.hasRoom .down = true) := by
  decide +kernel

def awaitingSt (window : List Int) (pulse : Pulse) : State :=
  { tailSt with exu := { tailSt.exu with
      awaiting := some ⟨latch img (billet 20000 1676000 32 410) 210, 1000⟩, window := window, pulse := pulse } }

/-- A good reading, no reading, a full window, and a pulse in progress. -/
theorem witness_SampleDecidesTheAwaitingBillet :
    (∀ x ∈ [((5 : Int), ([] : List Nat)), (6, [0]), (-6, [1]), (-5, [])],
      let s := awaitingSt (List.replicate 7 x.1) .off
      let avg := Int.tdiv (s.exu.window ++ [x.1]).sum 8
      avg = x.1 ∧ 7 ≤ s.exu.window.length ∧ s.hasRoom .up = true ∧ s.isSingle = false ∧
      (decide (-(s.img.trimDeadband : Int) ≤ avg ∧ avg ≤ s.img.trimDeadband) = x.2.isEmpty) ∧
      (x.2 = [0] ↔ avg > s.img.trimDeadband) ∧ (x.2 = [1] ↔ avg < -(s.img.trimDeadband : Int))) ∧
    (onlySt.isSingle = true ∧ ({ tailSt with upPort := .reset } : State).linkIsUp .up = false) ∧
    (∀ s ∈ [awaitingSt [] .off, awaitingSt (List.replicate 7 0) (.high 2000)], s.exu.awaiting =
      some ⟨latch img (billet 20000 1676000 32 410) 210, 1000⟩ ∧ reached s.now 1000 = true) ∧
    (latch img (billet 20000 1676000 32 410) 210).reasons.pass = true ∧
    (after (.sampleDeadlineExpiry env) (awaitingSt [] .off)).exu.gate = true ∧
    (after (.sampleDeadlineExpiry { env with pyroValid := false }) (awaitingSt [] .off)).exu.gate = false := by
  decide +kernel

def canvassSt (conflict : Bool) (received total : Nat) (need : Nat) : State :=
  { midSt with cru := { midSt.cru with
      need := some need
      tracker := some { number := 7, want := 13, expected := 2, received := received, total := total,
                        conflict := conflict, deadline := 1000 } } }

theorem witness_CanvassDeadlineAndWaits :
    (∀ s ∈ [canvassSt false 0 0 80, canvassSt true 0 0 81, canvassSt false 0 0 81],
      s.cru.tracker.any (fun c => reached s.now c.deadline) = true) ∧
    due midSt.now (some 1000) = true := by decide +kernel
theorem witness_RefreshAndHoldExpiry :
    (let s := { holding midSt [ownEntry .linkLossUp 1, heardEntry .estop 0] with
       hlu := { entries := [ownEntry .linkLossUp 1, heardEntry .estop 0], refresh := some 1000 } }
     due s.now s.hlu.refresh = true ∧ s.hlu.entries.filter (·.own) = [ownEntry .linkLossUp 1] ∧
     s.hasRoom .down = true) ∧
    (let s := { holding midSt [ownEntry .estop 1, ownEntry .linkLossUp 1] with
       downPort := { upLink with localQ := List.replicate 6 ⟨1, 255, .hold 2 1⟩ } }
     (s.port .down).localQ.length + (s.hlu.entries.filter (·.own)).length = 8) ∧
    (let s := { holding (pusherAt .idle false [5, 6]) [heardEntry .estop 2] with micros := 10000000 }
     (s.observe env).heardExpired .estop 2 = true ∧ s.isHead = true ∧ s.head.pusher = .idle ∧ s.head.calls = 5 :: [6] ∧
     (after (.holdExpiry env .estop 2) s).hlu.entries = []) ∧
    (let s := { holding midSt [heardEntry .estop 0] with micros := 10000000 }
     s.onLine = true ∧ (s.observe env).heardExpired .estop 0 = true) ∧ headSt.linkIsUp .up = false := by decide +kernel
theorem witness_DiscoverTimersAct :
    (discSt.ldu.state = .discover ∧ due discSt.now discSt.ldu.settle = true ∧ discSt.linkIsUp .up = true ∧
      due discSt.now discSt.ldu.helloTimer = true ∧ discSt.hasRoom .up = true) ∧
    (let s := { discSt with upPort := .reset }
     s.linkIsUp .up = false ∧ s.ldu.seen = false ∧ s.hasRoom .down = true) ∧
    (let s := { discSt with upPort := .reset, downPort := .reset }
     s.linkIsUp .down = false ∧ 0 ≤ s.img.loanPool 1) ∧
    (({ img with lineTotal := 39 } : Image).loanPool 1 < 0) ∧
    (let s := { discSt with ldu := { discSt.ldu with posTimer := some 1000, headClaim := true } }
     due s.now s.ldu.posTimer = true ∧ s.ldu.headClaim = true) := by decide +kernel

theorem witness_LinkUpStartsTheCheck :
    (let s := { midSt with upPort := { LinkPort.reset with transmitter := .idling } }
     s.linkIsUp .up = false ∧ (s.port .up).inBreak = false ∧ s.onLine = true ∧ s.hasNeighbour .up = true ∧
     (s.port .up).check = .pending ∧ (s.port .up).localQ.length < 8) ∧
    (State.reset.onLine = false ∧ State.reset.linkIsUp .up = false) ∧
    (let s := { midSt with upPort := { upLink with check := .miswired, checkTimer := some 1000 } }
     due s.now (s.port .up).checkTimer = true ∧ s.onLine = true ∧ s.hasNeighbour .up = true ∧
     (s.port .up).check ≠ .passed ∧ s.linkIsUp .up = true) := by decide +kernel
theorem witness_LinkDownEmptiesThePort :
    (let s := { midSt with micros := 2000000 }
     s.linkIsUp .up = true ∧ due s.now (s.port .up).silence = true ∧ s.onLine = true ∧ s.hasNeighbour .up = true) ∧
    (let s := { tailSt with downPort := upLink }
     s.linkIsUp .down = true ∧ s.hasNeighbour .down = false) ∧
    (midSt.hlu.hasOwn (lossCause .up) = false ∧ midSt.hlu.entries.length < 16 ∧ midSt.hasRoom .down = true ∧
      ({ midSt with downPort := .reset } : State).linkIsUp .down = false ∧
      (holding midSt [ownEntry .linkLossUp 1]).hlu.hasOwn (lossCause .up) = true) ∧
    (let s := { discSt with ldu := { discSt.ldu with settle := none } }
     s.ldu.state = .discover ∧ s.ldu.settle = none ∧ s.ldu.position = none ∧ s.ldu.seen = false ∧ s.hasRoom .down = true ∧
     ({ s with downPort := .reset } : State).linkIsUp .down = false ∧ 0 ≤ s.img.loanPool 1 ∧
     ({ img with lineTotal := 39 } : Image).loanPool 1 < 0) ∧
    (discSt.onLine = false ∧ discSt.ldu.settle ≠ none) ∧
    (∀ got ∈ [Receiver.hunting, .inFrame [1]], let s := { discSt with upPort := { upLink with receiver := got } }
      s.linkIsUp .up = true ∧ s.onLine = false ∧ (s.port .up).receiver = got) := by decide +kernel

theorem witness_TransmitterEvents :
    ((State.reset.port .up).transmitter = .brk 4 ∧ reached midSt.now 4 = true) ∧
    ((midSt.port .up).transmitter = .idling ∧ (midSt.port .up).localQ = [] ∧ (midSt.port .up).forward = []) ∧
    (frameClass hold1 < frameClass call1 ∧ frameClass call1 ≤ frameClass call1 ∧
      ∀ n ∈ [7, 8], ({ upLink with localQ := [call1], forward := [call1], starvation := n } : LinkPort).starvation = n) ∧
    (let s := { midSt with upPort := { upLink with transmitter := .sending call1 true 999000 } }
     (s.port .up).transmitter = .sending call1 true 999000 ∧ 999000 + 6 * (frameLength call1 + 1) ≤ s.micros) ∧
    (∀ l ∈ [[], [hold1], [call1]], ∀ f ∈ [[], [call1]],
      let x := { upLink with localQ := l, forward := f, starvation := 8 }; x.localQ = l ∧ x.forward = f) := by
  decide +kernel

/-- The characters of HOLD (code 4, origin 0) as they arrive on UP: seven and a payload of two. -/
def holdBytes : List Byte := frameChars .up hold1

/-- UP has taken these characters of a frame, after a number of error characters in a row. -/
def taking (got : List Byte) (errors : Nat) : State :=
  { midSt with upPort := { upLink with receiver := .inFrame got, errorRun := errors } }

/-- Characters of a frame that is complete but for its last: a byte put in place of another, its CRC computed anew. -/
def resealed (bytes : List Byte) (i : Nat) (b : Byte) : List Byte :=
  let body := (bytes.take (bytes.length - 2)).set i b
  body ++ toBytes 2 (crc body).toNat

/-- A data character of an open frame: before the length (the fourth and the fifth), the length at 96 and 97, one that leaves the
frame open, and the last one of a good frame, of one with a wrong CRC, of an unknown kind, and of a wrong header 1 or
destination; and the eighth error character. -/
theorem witness_CharactersActByTheirSort_inFrame :
    (∀ n ∈ [1, 3], (holdBytes.take n).length < 4 ∧ (holdBytes.take n ++ [0])[4]? = none) ∧
    (∀ b ∈ [(96 : Byte), 97], (holdBytes.take 4 ++ [b])[4]? = some b) ∧ (holdBytes.take 4).length + 1 < (96 : Byte).toNat + 7 ∧
    holdBytes.length = 9 ∧ (holdBytes.take 8 ++ [0])[4]? = some 2 ∧ (2 : Byte).toNat + 7 ≤ (holdBytes.take 8).length + 1 ∧
    (holdBytes.take 7).length + 1 < (2 : Byte).toNat + 7 ∧
    (crc (holdBytes.take 7) = BitVec.ofNat 16 (ofBytes (holdBytes.drop 7)) ∧
      crc (holdBytes.take 7) ≠ BitVec.ofNat 16 (ofBytes [0, 0])) ∧
    ((holdBytes[0]?).bind kindOfCode = some .hold ∧ parsePayload .hold ((holdBytes.take 7).drop 5) = some (.hold 4 0) ∧
      holdBytes[1]? = some (header1 .up .hold) ∧ holdBytes[2]? = some 0 ∧ holdBytes[3]? = some 255 ∧
      headerOk .up ⟨0, 255, .hold 4 0⟩ = true) ∧
    (((resealed holdBytes 0 0xEE)[0]?).bind kindOfCode = none ∧ (resealed holdBytes 1 255)[1]? ≠ some (header1 .up .hold) ∧
      (resealed holdBytes 3 1)[3]? = some 1 ∧ headerOk .up ⟨0, 1, .hold 4 0⟩ = false) ∧
    (∀ s ∈ [taking (holdBytes.take 8) 0, taking [1] 7], s.linkIsUp .up = true ∧ sortChar ⟨1, false, true, false⟩ = .error) ∧
    ((taking [1] 7).port .up).errorRun = 7 := by decide +kernel

theorem witness_CharactersActByTheirSort :
    (midSt.linkIsUp .up = true ∧ (midSt.port .up).receiver = .hunting ∧ (midSt.port .up).errorRun < 7) ∧
    (let s := { midSt with upPort := { upLink with receiver := .inFrame [1], errorRun := 6 } }
     (s.port .up).receiver = .inFrame [1] ∧ (s.port .up).errorRun < 7) ∧
    (sortChar ⟨1, true, true, true⟩ = .start 1 ∨ sortChar ⟨1, true, false, true⟩ = .start 1) ∧
    sortChar ⟨1, false, true, false⟩ = .error ∧ sortChar (goodChar true 0) = .idle ∧
    sortChar (goodChar false 5) = .data 5 ∧
    (headSt.linkIsUp .up = false ∧ (headSt.port .up).inBreak = true) ∧
    (∀ n ∈ [14, 15], let x := { LinkPort.reset with transmitter := .idling, validRun := n }
      x.inBreak = false ∧ x.validRun = n) := by decide +kernel

theorem witness_RoutedFramesGoOn :
    (midSt.admits ⟨.up, 0, 2⟩ (.stroke 1 255 none) = true ∧ (2 : Byte) ≠ midSt.originByte ∧ midSt.canCarry .down = true) ∧
    midSt.admits ⟨.up, 0, 255⟩ (.hold 4 0) = true ∧
    (∀ x ∈ [(⟨.up, 0, 255⟩, Payload.hold 4 0), (⟨.up, 0, 255⟩, .pos 0 412 3 true), (⟨.up, 0, 1⟩, .stroke 1 255 none),
        (⟨.down, 2, 255⟩, .count 3 true), (⟨.up, 0, 255⟩, .hello ⟨0, .run, 412, 9, 77, 3, 2⟩)],
      headerOk (x : Arrival × Payload).1.port ⟨x.1.src, x.1.dst, x.2⟩ = true) ∧
    (let s := { midSt with upPort := { upLink with check := .miswired } }
     s.linkIsUp .up = true ∧ (s.port .up).check = .miswired) ∧
    (∀ st ∈ [StationState.config, .fault, .discover],
      let s := { discSt with ldu := { discSt.ldu with state := st } }
      ∀ p ∈ [Port.up, .down], s.linkIsUp p = true ∧ (s.port p).check ≠ .miswired ∧ s.ldu.state = st) ∧
    (discSt.canCarry .up = true ∧ (discSt.port .up).forward.length < 4 ∧
      ({ discSt with upPort := .reset } : State).canCarry .up = false) ∧
    (∀ s ∈ [midSt, { midSt with downPort := { upLink with forward := List.replicate 4 hold1 } }, { midSt with downPort := .reset }],
      s.admits ⟨.up, 0, 255⟩ (.hold 4 0) = true ∧ s.admits ⟨.up, 0, 2⟩ (.stroke 1 255 none) = true ∧
      frameKind hold1 ≠ .canvass) := by decide +kernel
theorem witness_HoldAndClearMoveTheList :
    (midSt.admits ⟨.up, 0, 255⟩ (.hold 4 0) = true ∧ causeOfCode 4 = some .estop ∧ (0 : Byte) ≠ midSt.originByte ∧
      midSt.hlu.hears .estop 0 = false ∧ midSt.hlu.entries.length < 16) ∧
    (let s := holding midSt [heardEntry .estop 0]
     s.hlu.hears .estop 0 = true ∧ s.hlu.hearsOther .estop 0 = true ∧ s.admits ⟨.up, 0, 255⟩ (.clear 4 0) = true) ∧
    (let s := holding (pusherAt .idle false [5, 6]) [heardEntry .estop 2]
     s.admits ⟨.down, 2, 255⟩ (.clear 4 2) = true ∧ s.hlu.hearsOther .estop 2 = true ∧ s.isHead = true ∧
     s.head.pusher = .idle ∧ s.head.calls = 5 :: [6] ∧ (after (.clear env ⟨.down, 2, 255⟩ 4 2) s).hlu.entries = []) ∧
    midSt.hlu.hearsOther .estop 0 = false ∧ causeOfCode 0 = none ∧ causeOfCode 7 = none ∧ midSt.originByte = 1 ∧
    (∀ x ∈ [Payload.hold 0 0, .hold 4 1, .clear 7 0, .clear 4 1], midSt.admits ⟨.up, 0, 255⟩ x = true) := by decide +kernel
theorem witness_StrokeFrameShiftsTheQueue :
    (headSt.isHead = true ∧ ({ headSt with upPort := upLink } : State).admits ⟨.up, 0, 0⟩ (.stroke 1 255 none) = true) ∧
    (midSt.isHead = false ∧ midSt.originByte = 1 ∧ midSt.admits ⟨.up, 0, 1⟩ (.stroke 32767 255 none) = true ∧
      isAhead 1 midSt.cq.lastStroke = true ∧ isAhead 32767 midSt.cq.lastStroke = true) ∧
    aheadBy 1 midSt.cq.lastStroke = 1 ∧ midSt.img.motionSense = 1 ∧ 0 < (tracking 1 0).tracker.unmatched ∧
    (∀ n ∈ [0, 1], (tracking 0 n).tracker.unmatched = 0 ∧ (tracking 0 n).tracker.unconfirmed < 2) ∧
    2 ≤ (tracking 0 2).tracker.unconfirmed ∧ midSt.isTail = false ∧ midSt.hasRoom .down = true ∧
    (∀ b ∈ [(0 : Byte), 15, 16, 255], midSt.admits ⟨.up, 0, 1⟩ (.stroke 1 b none) = true ∧
      ({ headSt with upPort := upLink } : State).admits ⟨.up, 0, 0⟩ (.stroke 1 b none) = true) := by decide +kernel
/-- At the tail: one shift and more, in RUN and in HOLD, and a lead that previews REJECT or not. -/
theorem witness_StrokeFrameShiftsTheQueue_tail :
    (∀ s ∈ [tailSt, holding tailSt [heardEntry .estop 0]], s.isHead = false ∧ s.isTail = true ∧ s.originByte = 2 ∧
      s.admits ⟨.up, 1, 2⟩ (.stroke 1 255 none) = true ∧ s.admits ⟨.up, 1, 2⟩ (.stroke 2 255 none) = true ∧
      isAhead 1 s.cq.lastStroke = true ∧ isAhead 2 s.cq.lastStroke = true) ∧
    (∀ x ∈ [(rejectLead, true), (none, false)], (after (.stroke env ⟨.up, 1, 2⟩ 1 255 none) { tailSt with
      cq := { tailSt.cq with slots := [none, none, x.1, none] } }).exu.preview.any (fun r => !r.pass) = x.2) := by
  decide +kernel

def mergeSt : State :=
  { midSt with cq := { midSt.cq with
      lastStroke := 412
      slots := [some { billet 20000 1640740 0 0 with serial := none, self := some ⟨740, 412⟩ }, none, none, none] } }

theorem witness_LateStrokeMergesOrIsDiscarded :
    (mergeSt.admits ⟨.up, 0, 1⟩ (.stroke 412 255 (some ⟨7, 20000, 1598000, 0, 0, 0, []⟩)) = true ∧
      mergeSt.originByte = 1 ∧ mergeSt.isHead = false ∧ isAhead 412 mergeSt.cq.lastStroke = false ∧
      (mergeSt.cq.mergeable 412).isSome = true) ∧
    (mergeSt.admits ⟨.up, 0, 1⟩ (.stroke 411 255 none) = true ∧ isAhead 411 mergeSt.cq.lastStroke = false ∧
      mergeSt.cq.mergeable 411 = none) := by decide +kernel

/-- The pyrometer disabled and enabled, a GAP at the lead, and a billet that still awaits its sample. -/
theorem witness_LeavingRecordIsDecidedAtTheTail :
    (∀ pyro ∈ [0, 1], ∀ lead ∈ [none, some (billet 20000 1676000 32 410)],
      ∀ w ∈ [none, some ⟨latch img (billet 20000 1676000 32 410) 210, 1000⟩],
        let s := exitSt pyro lead w
        s.admits ⟨.up, 1, 2⟩ (.stroke 1 255 none) = true ∧ s.originByte = 2 ∧ s.isHead = false ∧ s.isTail = true ∧
        aheadBy 1 s.cq.lastStroke = 1 ∧ s.img.pyroEnable = pyro ∧ s.cq.lead = lead ∧ s.exu.awaiting = w) ∧
    rejectLead.any (fun r => r.flags.lostTrack) = true ∧
    (∀ x ∈ [(rejectLead, true, some CallKind.self), (rejectLead, false, some .self), (none, true, some .press),
        (none, false, none)],
      let s := leading (tailSt) none x.2.1
      let s := { s with cq := { s.cq with slots := [none, none, x.1, none] } }
      s.admits ⟨.up, 1, 2⟩ (.stroke 1 255 none) = true ∧ s.linkIsUp .up = true ∧ s.upPort.check ≠ .miswired ∧
      s.upPort.localQ.length < 8 ∧
      s.checkSends s.tailLeft (after (.stroke env ⟨.up, 1, 2⟩ 1 255 none) s).exu.preview = x.2.2) := by
  decide +kernel
/-- R3, R6: with one slot a self-stroke placeholder is the lead as well, and leaves without accrued and created-at. -/
theorem test_lead_leaves_without_accrued :
    let r := { billet 20000 1676000 32 410 with serial := none, self := some ⟨740, 412⟩ }
    let s := exitSt 1 none none
    let t := after (.stroke env ⟨.up, 1, 2⟩ 1 255 none) { s with cq := { s.cq with slots := [some r] } }
    t.exu.awaiting.map (fun w => (w.billet.record.self, w.billet.record.h)) = some (none, 1676000) := by decide +kernel
theorem witness_CallAtTheHead :
    (∀ calls ∈ [([] : List Half), [5], [5, 6]], (pusherAt .idle false calls).admits ⟨.down, 2, 0⟩ (.call .press 5) = true) ∧
    headSt.originByte = 0 ∧ headSt.isHead = true ∧ (5 : Half) ∈ (pusherAt .idle false [5]).head.calls ∧
    ((4 : Half) ∉ (pusherAt .idle false [5, 6]).head.calls ∧ 2 ≤ (pusherAt .idle false [5, 6]).head.calls.length) ∧
    (let s := pusherAt .idle false [4]
     takesAt s 5 = [false, false, true, true] ∧ s.head.calls ++ [(5 : Half)] = 4 :: [5]) ∧
    (headSt.head.lastExecuted ≠ some 5 ∧ (5 : Half) ∉ headSt.head.calls ∧ headSt.head.calls.length < 2 ∧
      headSt.head.pusher = .idle ∧ headSt.hlu.entries = []) ∧ (pusherAt .pushing false []).head.pusher ≠ .idle := by
  decide +kernel
theorem witness_PosNumbersTheLine :
    (∀ q ∈ [(0 : Byte), 14, 15], headerOk .up ⟨q, 255, .pos q 412 3 true⟩ = true) ∧
    (discSt.linkIsUp .up = true ∧ (discSt.port .up).check ≠ .miswired ∧ discSt.ldu.state = .discover ∧
      discSt.hasRoom .down = true ∧ (14 : Byte).toNat + 1 < 16 ∧ 16 ≤ (15 : Byte).toNat + 1) ∧
    (let s := { discSt with downPort := .reset }; s.linkIsUp .down = false ∧ s.hasRoom .up = true ∧
      s.upPort.localQ.length ≤ 4 ∧ 0 ≤ s.img.loanPool ((0 : Byte).toNat + 2) ∧ s.img.loanPool ((4 : Byte).toNat + 2) < 0 ∧
      ((412 : Half).toNat = s.img.recipeId ∧ (3 : Byte).toNat = s.img.version) ∧ (1 : Fin 16).val = (0 : Byte).toNat + 1) ∧
    (midSt.onLine = true ∧ (2 : Byte).toNat + 1 ≠ midSt.pos.val) ∧
    ((0 : Byte).toNat + 1 = midSt.pos.val ∧ midSt.upPort.check = .passed ∧ midSt.hasRoom .up = true) ∧
    (∀ x ∈ [(some FaultReason.configMismatch, some 3), (some .configMismatch, none), (some .budget, some 3)],
      let s := { discSt with ldu := { discSt.ldu with state := .fault, reason := x.1, n := x.2 } }
      s.linkIsUp .up = true ∧ (s.port .up).check ≠ .miswired ∧ s.ldu.state = .fault ∧ s.hasRoom .up = true ∧
      (x.2 = none ∨ x.1 ≠ some .configMismatch ∨ s.ldu.n = some 3)) ∧
    (configured.linkIsUp .up = true ∧ (configured.port .up).check ≠ .miswired ∧ configured.ldu.state = .config) := by
  decide +kernel

def placedSt : State := { discSt with ldu := { discSt.ldu with position := some 1 } }

/-- A station that has claimed head, both its links UP. -/
def claimSt : State := { discSt with ldu := { discSt.ldu with position := some 0, headClaim := true, posTimer := some 1100 } }

/-- N at the station's position, one above it, and above what the line budget carries (40 credits at each of 6 stations). -/
theorem witness_CountPutsTheLineOnLine :
    (placedSt.linkIsUp .down = true ∧ (placedSt.port .down).check ≠ .miswired ∧
      headerOk .down ⟨2, 255, .count 2 true⟩ = true) ∧
    (placedSt.ldu.state = .discover ∧ placedSt.ldu.position = some 1 ∧ (1 : Fin 16).val < (2 : Byte).toNat ∧
      0 ≤ placedSt.img.loanPool 2 ∧ placedSt.img.loanPool 6 < 0 ∧ placedSt.upPort.localQ.length ≤ 4 ∧
      placedSt.downPort.localQ.length ≤ 4) ∧
    (midSt.onLine = true ∧ placedSt.ldu.position.all (fun q => decide ((1 : Byte).toNat ≤ q.val)) = true) ∧
    (claimSt.linkIsUp .down = true ∧ (claimSt.port .down).check ≠ .miswired ∧ claimSt.ldu.state = .discover ∧
      claimSt.ldu.position = some 0 ∧ headerOk .down ⟨1, 255, .count 1 true⟩ = true ∧ 0 ≤ claimSt.img.loanPool 1 ∧
      0 ≤ claimSt.img.loanPool 3 ∧ (claimSt.observe env).pins.estop = false ∧ (claimSt.observe env).pins.fault = false) := by
  decide +kernel

def hello (position n marks : Byte) (st : HelloState) : Hello :=
  { position := position, state := st, recipe := 412, lastStroke := 9, newestSerial := 77, n := n, marks := marks }

theorem witness_HelloAnswersAndChecks :
    (∀ marks ∈ [(1 : Byte), 2], headerOk .up ⟨0, 255, .hello (hello 0 3 marks .run)⟩ = true) ∧
    (midSt.onLine = true ∧ midSt.linkIsUp .up = true ∧ helloWanted (hello 0 3 1 .discover) = true ∧
      (midSt.port .up).localQ.length < 8) ∧
    (let s := { midSt with upPort := { upLink with check := .pending } }; let h := hello 0 3 2 .run
     helloWanted h = false ∧ s.hasNeighbour .up = true ∧ (s.port .up).check = .pending ∧ helloOnLine h = true ∧
     h.recipe.toNat = s.img.recipeId ∧ h.position.toNat + 1 = s.pos.val ∧ helloStrokePresent h = true ∧
     isAhead h.lastStroke s.cq.lastStroke = true ∧ s.onLine = true ∧ s.isSingle = false ∧
     s.ldu.role = s.ldu.n.map (roleOf s.pos.val) ∧ s.pos.val < s.ldu.n.getD 0) ∧
    (let s := { holding (pusherAt .idle false [5, 6]) [ownEntry .linkLossDown 0] with downPort := { upLink with check := .pending } }
     s.onLine = true ∧ s.linkIsUp .down = true ∧ s.hasNeighbour .down = true ∧ s.isHead = true ∧ s.head.calls = 5 :: [6] ∧
     s.ldu.role = s.ldu.n.map (roleOf s.pos.val) ∧ s.pos.val < s.ldu.n.getD 0 ∧
     (after (.hello env ⟨.down, 1, 255⟩ (hello 1 3 2 .hold)) s).hlu.entries = []) ∧
    (hello 1 3 2 .run).position.toNat + 1 ≠ midSt.pos.val ∧ helloOnLine (hello 0 3 2 .fault) = false ∧
    helloStrokePresent (hello 0 3 0 .run) = false ∧
    (∀ st ∈ [StationState.config, .fault, .discover],
      let s := { discSt with ldu := { discSt.ldu with state := st } }
      s.ldu.state = st ∧ s.linkIsUp .up = true ∧ (s.port .up).localQ.length < 8) ∧
    (helloOnLine (hello 0 3 0 .discover) = false ∧ helloWanted (hello 0 3 0 .discover) = false ∧
      headerOk .up ⟨0, 255, .hello (hello 0 3 0 .discover)⟩ = true) ∧
    (onlyLinked.onLine = true ∧ onlyLinked.linkIsUp .down = true ∧ onlyLinked.hasNeighbour .down = false ∧
      headerOk .down ⟨1, 255, .hello (hello 1 3 2 .run)⟩ = true) := by decide +kernel
/-- R173, R174: an answer that is not on line leaves a PENDING check, and is taken without effect: it is counted. -/
theorem test_answer_without_effect_is_counted :
    let t := after (.hello env ⟨.up, 0, 255⟩ (hello 0 3 0 .discover)) { midSt with upPort := { upLink with check := .pending } }
    t.counter .hellosIgnored = 1 ∧ t.upPort.check = .pending := by decide +kernel
theorem witness_HelloAnswerRejoinsTheLine :
    (discSt.ldu.state = .discover ∧ discSt.linkIsUp .up = true ∧
      headerOk .up ⟨0, 255, .hello (hello 0 3 2 .run)⟩ = true ∧ helloWanted (hello 0 3 2 .run) = false ∧
      helloOnLine (hello 0 3 2 .run) = true ∧ (hello 0 3 2 .run).recipe.toNat = discSt.img.recipeId) ∧
    ((hello 0 2 2 .run).position.toNat + 1 < (2 : Byte).toNat ∧ 0 ≤ discSt.img.loanPool 2 ∧
      discSt.img.loanPool 6 < 0 ∧ discSt.upPort.localQ.length ≤ 4) ∧
    (({ discSt with upPort := .reset } : State).linkIsUp .up = false ∧ (hello 1 2 2 .run).position = 1) ∧
    ((hello 0 3 2 .run).position.toNat + 1 < (3 : Byte).toNat ∧ (1 : Fin 16).val + 1 < (3 : Byte).toNat ∧
      ¬((1 : Fin 16).val + 1 < (2 : Byte).toNat) ∧ discSt.linkIsUp .down = true ∧ discSt.downPort.localQ.length ≤ 4 ∧
      ({ discSt with downPort := .reset } : State).linkIsUp .down = false) ∧
    ((3 : Byte).toNat ≤ (hello 2 3 2 .run).position.toNat + 1 ∧ roleOf 2 3 = .tail ∧ roleOf 0 3 = .head) := by
  decide +kernel

/-- LEND, DECLINE and CONFLICT, from both sides, a closed port, and the station's own canvass. -/
theorem witness_CanvassIsAnswered :
    (midSt.admits ⟨.down, 2, 255⟩ (.canvass 2 17 13) = true ∧ midSt.admits ⟨.up, 0, 255⟩ (.canvass 0 17 13) = true ∧
      (2 : Byte) ≠ midSt.originByte ∧ midSt.cru.tracker.isSome = false ∧
      0 < (midSt.cru.loans : Int) - (midSt.cru.need.getD 0 - midSt.cru.base : Nat) - midSt.img.keep ∧
      midSt.hasRoom .down = true) ∧
    (canvassSt false 0 0 80).cru.tracker.isSome = true ∧
    (canvassSt false 0 0 80).admits ⟨.up, 0, 255⟩ (.canvass 1 17 13) = true ∧ midSt.originByte = 1 ∧
    (({ midSt with downPort := .reset } : State).linkIsUp .down = false ∧
      ({ midSt with downPort := .reset } : State).admits ⟨.up, 0, 255⟩ (.canvass 2 17 13) = true) ∧
    (∀ last ∈ [⟨2, 255, .trim .raise 4⟩, ⟨1, 0, .ret 7 5⟩],
      let s := { midSt with downPort := { upLink with localQ := fullQueue last } }
      s.admits ⟨.up, 0, 255⟩ (.canvass 2 17 13) = true ∧ (s.port .down).check ≠ .miswired ∧
      (s.port .down).localQ = List.replicate 7 ⟨1, 255, .hold 2 1⟩ ++ [last]) ∧
    (let s := { midSt with downPort := { upLink with check := .miswired } }
     s.admits ⟨.up, 0, 255⟩ (.canvass 2 17 13) = true ∧ (s.port .down).check = .miswired ∧ s.linkIsUp .down = true) ∧
    (kindClass .reply < frameClass ⟨2, 255, .trim .raise 4⟩ ∧ frameClass ⟨1, 0, .ret 7 5⟩ ≤ kindClass .reply) := by
  decide +kernel
theorem witness_ReplyFillsTheCanvass :
    (∀ s ∈ [canvassSt false 0 0 80, canvassSt false 1 0 80, midSt],
      s.admits ⟨.up, 0, 1⟩ (.reply 7 .lend 13) = true ∧ s.admits ⟨.up, 0, 1⟩ (.reply 7 .lend 14) = true ∧
      s.admits ⟨.up, 0, 1⟩ (.reply 7 .decline 0) = true ∧ s.originByte = 1 ∧ s.hasRoom .up = true) ∧
    ((canvassSt false 0 0 80).cru.tracker.any (fun c => decide (c.number = 7 ∧ c.received + 1 < c.expected ∧
      c.total + 13 ≤ c.want ∧ c.want < c.total + 14)) = true) ∧
    ((canvassSt false 1 0 80).cru.tracker.any (fun c => decide (c.expected ≤ c.received + 1)) = true) ∧
    (∀ x ∈ [(canvassSt false 1 0 93, true), (canvassSt false 1 0 80, false), (canvassSt true 1 13 94, true)],
      decide (x.1.cru.base + (after (.reply env ⟨.up, 0, 1⟩ 7 .decline 0) x.1).cru.loans < x.1.cru.need.getD 0) = x.2) ∧
    ((canvassSt true 1 13 94).cru.tracker.any (fun c => c.conflict) = true ∧
      (canvassSt true 1 13 94).cru.tracker.any (fun c => decide (c.want < c.total + 1)) = true ∧
      ({ canvassSt true 1 13 94 with upPort := .reset } : State).linkIsUp .up = false) ∧
    midSt.cru.tracker = none ∧
    ({ midSt with upPort := .reset, downPort := upLink } : State).linkIsUp .up = false ∧
    (∀ used ∈ [4650, 4651, 4900], (overSupplied used).admits ⟨.up, 0, 2⟩ (.reply 17 .lend 1) = true ∧
      (overSupplied used).originByte = 2 ∧ (overSupplied used).onLine = true ∧
      used ≤ ((overSupplied used).cru.base + (overSupplied used).cru.loans) * ((overSupplied used).img.creditKw * 10) ∧
      used ≤ (overSupplied used).cru.need.getD 0 * ((overSupplied used).img.creditKw * 10)) := by decide +kernel
theorem witness_ReturnRaisesTheLoans :
    (midSt.admits ⟨.up, 0, 1⟩ (.ret 17 1) = true ∧ midSt.originByte = 1) ∧
    (let t := after (.ret env ⟨.up, 0, 1⟩ 17 1) midSt
     (t.observe env).periodDue = true ∧ t.admits ⟨.down, 2, 255⟩ (.canvass 2 17 13) = true ∧ t.hasRoom .down = true) ∧
    State.reset.onLine = false := by decide +kernel
theorem witness_TrimMovesTheEfficiency :
    midSt.admits ⟨.down, 2, 255⟩ (.trim .raise 42) = true ∧
    (after (.trim env ⟨.down, 2, 255⟩ .raise 42) { midSt with tau := { midSt.tau with trim := 31 } }).tau.trim = 31 ∧
    (after (.trim env ⟨.down, 2, 255⟩ .lower 42) { midSt with tau := { midSt.tau with trim := -32 } }).tau.trim = -32 := by
  decide +kernel

end Sys2Proof.Tests
end

section
/-!
PROOFS. The image checks that the coil queue rests on (R184, R191): what a stored image gives the slots, the mass and the enthalpy
of a placeholder.
-/

namespace Sys2Proof.Machine

/-! ### What a valid image gives -/

/-- R184: an image without a failing check passes each of its checks. -/
theorem Image.ok_of_mem_checks {img : Image} (h : img.firstFailure = none) {c : ImageCheck} (hc : c ∈ img.checks) :
    c.ok = true := by
  simpa using List.find?_eq_none.mp h c hc

theorem mem_checkField (row : Nat) (ok : Bool) : { row := row, element := 0, ok := ok } ∈ checkField row ok :=
  List.mem_singleton.mpr rfl

theorem mem_checkEach {row n i : Nat} (ok : Nat → Bool) (h : i < n) :
    { row := row, element := i, ok := ok i } ∈ checkEach row n ok :=
  List.mem_map.mpr ⟨i, List.mem_range.mpr h, rfl⟩

/-- R1, R191: a valid image gives every position at least one slot; row 3 stands before 43 others. -/
theorem Image.slotCount_pos {img : Image} (h : img.firstFailure = none) (p : Fin 16) : 1 ≤ img.slotCount.get p := by
  have hc := Image.ok_of_mem_checks h (c := ⟨3, p.val, within ((img.slotCount[p.val]?).getD 0) 1 8⟩) (by
    unfold Image.checks
    iterate 43 apply List.mem_append_left
    exact List.mem_append_right _ (mem_checkEach (fun i => within ((img.slotCount[i]?).getD 0) 1 8) p.isLt))
  simp only [within, decide_eq_true_eq, Vector.getElem?_eq_getElem p.isLt, Option.getD_some] at hc
  exact hc.1

/-- R191: the nominal mass of a valid image; row 25 stands before 21 others. -/
theorem Image.nominalMass_range {img : Image} (h : img.firstFailure = none) :
    500 ≤ img.nominalMass ∧ img.nominalMass ≤ 200000 := by
  have hc := Image.ok_of_mem_checks h (c := ⟨25, 0, within img.nominalMass 500 200000⟩) (by
    unfold Image.checks
    iterate 21 apply List.mem_append_left
    exact List.mem_append_right _ (mem_checkField _ _))
  simpa [within] using hc

/-- R26: the number of breakpoints of a valid image; row 28 stands before 18 others. -/
theorem Image.breakpointCount_range {img : Image} (h : img.firstFailure = none) :
    2 ≤ img.breakpointCount ∧ img.breakpointCount ≤ 13 := by
  have hc := Image.ok_of_mem_checks h (c := ⟨28, 0, within img.breakpointCount 2 13⟩) (by
    unfold Image.checks
    iterate 18 apply List.mem_append_left
    exact List.mem_append_right _ (mem_checkField _ _))
  simpa [within] using hc

/-- R26: each breakpoint of a valid image passes its check; row 29 stands before 17 others. -/
theorem Image.breakpointOk_of_lt {img : Image} (h : img.firstFailure = none) {k : Nat} (hk : k < img.breakpointCount) :
    img.breakpointOk k = true := by
  have hn := Image.breakpointCount_range h
  exact Image.ok_of_mem_checks h (c := ⟨29, k, img.breakpointOk k⟩) (by
    unfold Image.checks
    iterate 17 apply List.mem_append_left
    exact List.mem_append_right _ (mem_checkEach img.breakpointOk (by omega)))

/-- R26: the enthalpies of a valid image rise from breakpoint to breakpoint. -/
theorem Image.breakpoint_h_lt_succ {img : Image} (h : img.firstFailure = none) {k : Nat} (hk : k + 1 < img.breakpointCount) :
    (img.breakpoint k).h < (img.breakpoint (k + 1)).h := by
  have hb := Image.breakpointOk_of_lt h hk
  simp only [Image.breakpointOk, Bool.and_eq_true, Nat.add_one_ne_zero, if_false, decide_eq_true_eq,
    Nat.add_sub_cancel] at hb
  obtain ⟨⟨-, hrise, -⟩, -⟩ := hb
  exact hrise

/-- R26: the last breakpoint of a valid image has the largest enthalpy. -/
theorem Image.breakpoint_h_le_last {img : Image} (h : img.firstFailure = none) {k : Nat} (hk : k < img.breakpointCount) :
    (img.breakpoint k).h ≤ img.last.h := by
  have hrise : ∀ m, k + m < img.breakpointCount → (img.breakpoint k).h ≤ (img.breakpoint (k + m)).h := by
    intro m
    induction m with
    | zero => exact fun _ => Nat.le_refl _
    | succ m ih => exact fun hm => Nat.le_trans (ih (by omega)) (Nat.le_of_lt (Image.breakpoint_h_lt_succ h hm))
  have hk' : k + (img.breakpointCount - 1 - k) = img.breakpointCount - 1 := by omega
  have := hrise (img.breakpointCount - 1 - k) (by omega)
  rwa [hk'] at this

/-- R26, R191: the last enthalpy of a valid image, at the nominal mass, lies within R3. -/
theorem Image.last_h_nominal_le {img : Image} (h : img.firstFailure = none) :
    img.last.h * img.nominalMass / 100 ≤ 40000000 := by
  have hn := Image.breakpointCount_range h
  have hb := Image.breakpointOk_of_lt h (k := img.breakpointCount - 1) (by omega)
  simp only [Image.breakpointOk, Bool.and_eq_true, decide_eq_true_eq] at hb
  have hlast := hb.2
  rw [if_pos (by omega), decide_eq_true_eq] at hlast
  exact hlast

/-! ### The target table -/

/-- Division rounding up of a product by one of its bounds stays within the other factor. -/
theorem ceilDiv_mul_le {a b c : Nat} (hb : 0 < b) (hab : a ≤ b) : ceilDiv (a * c) b ≤ c := by
  have hac : a * c ≤ b * c := Nat.mul_le_mul_right c hab
  have hlt : (a * c + b - 1) / b < c + 1 := by
    rw [Nat.div_lt_iff_lt_mul hb]
    have : (c + 1) * b = b * c + b := by ring
    omega
  unfold ceilDiv
  omega

/-- R42, R43: a target specific enthalpy is at most that of the last breakpoint. -/
theorem Image.targetOf_le_last {img : Image} (h : img.firstFailure = none) (t : Nat) : img.targetOf t ≤ img.last.h := by
  have hn := Image.breakpointCount_range h
  unfold Image.targetOf
  split
  · rename_i ht
    extract_lets k
    have hseg : img.segmentCount = img.breakpointCount - 1 := rfl
    have hex : ∃ x ∈ List.range img.segmentCount, decide (t < (img.breakpoint (x + 1)).t) = true :=
      ⟨img.breakpointCount - 2, List.mem_range.mpr (by omega), by
        have : img.breakpointCount - 2 + 1 = img.breakpointCount - 1 := by omega
        rw [this]
        exact decide_eq_true ht⟩
    have hfound := List.findIdx_lt_length_of_exists hex
    have hkt := List.findIdx_getElem (w := hfound)
    rw [List.length_range] at hfound
    have hk : k = (List.range img.segmentCount).findIdx (fun k => decide (t < (img.breakpoint (k + 1)).t)) := by
      dsimp only [k]; omega
    rw [List.getElem_range, decide_eq_true_eq, ← hk] at hkt
    have hstep := Image.breakpoint_h_lt_succ h (k := k) (by omega)
    have hlast := Image.breakpoint_h_le_last h (k := k + 1) (by omega)
    by_cases hlow : t ≤ (img.breakpoint k).t
    · rw [Nat.sub_eq_zero_of_le hlow, Nat.zero_mul]
      have hz (b : Nat) : ceilDiv 0 b = 0 := by
        unfold ceilDiv
        rcases Nat.eq_zero_or_pos b with hb | hb
        · subst hb; rfl
        · exact Nat.div_eq_of_lt (by omega)
      rw [hz]
      omega
    · have hc := ceilDiv_mul_le (c := (img.breakpoint (k + 1)).h - (img.breakpoint k).h)
        (a := t - (img.breakpoint k).t) (b := (img.breakpoint (k + 1)).t - (img.breakpoint k).t) (by omega) (by omega)
      omega
  · exact Nat.le_refl _

end Sys2Proof.Machine
end

section
/-!
PROOFS. The records of the coil queue (R3, R5) and their serials (R9): what a shift, a merge, a period end and a placeholder make of
the slots.
-/

namespace Sys2Proof.Machine

/-! ### Bounds -/

theorem clampNat_ge {x a b : Nat} (h : a ≤ b) : a ≤ clampNat x a b := by unfold clampNat; omega

theorem clampNat_le (x a b : Nat) : clampNat x a b ≤ b := by unfold clampNat; omega

theorem clampInt_toNat_le (x : Int) (b : Nat) : (clampInt x 0 b).toNat ≤ b := by unfold clampInt; omega

/-! ### Ranges of a record (R3, R5) -/

/-- R6: a record that leaves slot 0 keeps its ranges. -/
theorem Record.rangesOk_settle {p : Nat} {r : Record} (h : r.RangesOk p) : r.settle.RangesOk p := h

/-- R9: a duplicate that loses its serial keeps its ranges. -/
theorem Record.rangesOk_dedupe {p : Nat} {r : Record} (others : List Slot) (h : r.RangesOk p) :
    (r.dedupe others).RangesOk p := by
  unfold Record.dedupe
  split
  · exact ⟨by simp, h.2⟩
  · exact h

/-- R37: the soak count stays within R3. -/
theorem Record.judgePeriod_soak_le (img : Image) (r : Record) (h : r.soak ≤ 65535) : (r.judgePeriod img).soak ≤ 65535 := by
  unfold Record.judgePeriod
  dsimp only
  split
  · exact Nat.min_le_right _ _
  · exact h

/-- R34 to R38: a period end keeps a record's ranges. -/
theorem Record.rangesOk_periodUpdate {p : Nat} {r : Record} (img : Image) (slot0 short : Bool) (share : Nat)
    (h : r.RangesOk p) : (r.periodUpdate img slot0 short share).RangesOk p := by
  obtain ⟨hserial, hlow, hhigh, -, -, hsoak, hsts⟩ := h
  exact ⟨hserial, hlow, hhigh, clampInt_toNat_le _ 40000000, clampInt_toNat_le _ 400,
    Record.judgePeriod_soak_le img _ hsoak, hsts⟩

/-- R5, R8: a station list cut at position `p` is in order from `prev` on, below `p`, with temperatures within R5. -/
theorem cutStations_ok (p : Nat) (prev : Nat) (sts : List (Byte × BitVec 16)) :
    (cutStations p prev sts).Pairwise (fun a b => a.1 < b.1) ∧
    ∀ e ∈ cutStations p prev sts, prev ≤ e.1 ∧ e.1 < p ∧ e.2 ≤ 1600 := by
  induction sts generalizing prev with
  | nil => exact ⟨List.Pairwise.nil, by simp [cutStations]⟩
  | cons x rest ih =>
    unfold cutStations
    split
    · rename_i hx
      obtain ⟨hsorted, hbounds⟩ := ih (x.1.toNat + 1)
      refine ⟨List.pairwise_cons.mpr ⟨fun e he => (hbounds e he).1, hsorted⟩, fun e he => ?_⟩
      rcases List.mem_cons.mp he with rfl | he
      · exact ⟨hx.2.1, hx.2.2, Nat.min_le_right _ _⟩
      · have := hbounds e he
        omega
    · exact ⟨List.Pairwise.nil, by simp⟩

/-- R8: an arriving record after its repair lies in its ranges. -/
theorem repairRecord_rangesOk (p : Nat) (w : WireRecord) : (repairRecord p w).RangesOk p := by
  obtain ⟨hsorted, hbounds⟩ := cutStations_ok p 0 w.stations
  refine ⟨fun n hn => ?_, clampNat_ge (by decide), clampNat_le _ _ _, Nat.min_le_right _ _, Nat.min_le_right _ _,
    Nat.le_of_lt_succ w.soak.isLt, hsorted, fun e he => (hbounds e he).2⟩
  simp only [repairRecord] at hn
  split at hn
  · exact absurd hn (by simp)
  · rename_i hw
    have hn' : w.serial.toNat = n := Option.some.inj hn
    have h0 : w.serial.toNat ≠ 0 := fun h => hw (BitVec.eq_of_toNat_eq h)
    have := w.serial.isLt
    omega

/-- R94: a late record merged with a record in its ranges lies in its ranges. -/
theorem mergeRecords_rangesOk {p : Nat} {late held : Record} (ss : SelfStroke) (hl : late.RangesOk p)
    (hh : held.RangesOk p) : (mergeRecords late held ss).RangesOk p := by
  obtain ⟨hserial, hlow, hhigh, -, -, -, hsts⟩ := hl
  obtain ⟨-, -, -, -, hd, -⟩ := hh
  exact ⟨hserial, hlow, hhigh, clampInt_toNat_le _ 40000000, hd, Nat.min_le_right _ _, hsts⟩

/-- R18: the weigh bounds of a valid image lie within R3 and are in order. -/
theorem Image.massBounds {img : Image} (h : img.firstFailure = none) :
    500 ≤ img.massLow ∧ img.massLow ≤ img.massHigh ∧ img.massHigh ≤ 200000 := by
  have hm := Image.nominalMass_range h
  unfold Image.massLow Image.massHigh ceilDiv
  omega

/-- R18: the mass of a new record at a station with a valid image. -/
theorem State.newMass_range {s : State} (h : s.img.firstFailure = none) : 500 ≤ s.newMass ∧ s.newMass ≤ 200000 := by
  have hb := Image.massBounds h
  unfold State.newMass
  split
  · exact ⟨Nat.le_trans hb.1 (clampNat_ge hb.2.1), Nat.le_trans (clampNat_le _ _ _) hb.2.2⟩
  · exact Image.nominalMass_range h

/-- R16: a new record at a station with a valid image and a next serial within R17. -/
theorem State.newRecord_rangesOk {s : State} (h : s.img.firstFailure = none) (hlow : 1 ≤ s.head.nextSerial)
    (hhigh : s.head.nextSerial ≤ 65535) (p : Nat) : s.newRecord.RangesOk p := by
  have hm := State.newMass_range h
  refine ⟨fun n hn => ?_, hm.1, hm.2, Nat.zero_le _, Nat.zero_le _, Nat.zero_le _, List.Pairwise.nil, by simp [State.newRecord]⟩
  have : s.head.nextSerial = n := Option.some.inj hn
  omega

/-- R7, R42: a placeholder at a station with a valid image, whose target table is the image's. -/
theorem State.placeholder_rangesOk {s : State} (h : s.img.firstFailure = none)
    (ht : s.tau.targets = some s.img.targetTable) (self : Option SelfStroke) (p : Nat) :
    (s.placeholder self).RangesOk p := by
  have hm := Image.nominalMass_range h
  have hup : s.upstreamTarget ≤ s.img.last.h := by
    unfold State.upstreamTarget
    split
    · exact Nat.zero_le _
    · have hp : s.pos.val - 1 < 16 := by have := s.pos.isLt; omega
      rw [ht]
      simp only [Option.elim_some, Image.targetTable, Vector.getElem?_eq_getElem hp, Option.getD_some, Vector.getElem_map]
      exact Image.targetOf_le_last h _
  have hh : (s.placeholder self).h ≤ 40000000 :=
    Nat.le_trans (Nat.div_le_div_right (Nat.mul_le_mul_right _ hup)) (Image.last_h_nominal_le h)
  exact ⟨by simp [State.placeholder], hm.1, hm.2, hh, Nat.zero_le _, Nat.zero_le _, List.Pairwise.nil,
    by simp [State.placeholder]⟩

/-! ### Serials of slots (R9) -/

/-- The serials of the records in some slots, slot 0 first. -/
def serialsOf (slots : List Slot) : List Nat := slots.filterMap (fun x => x.bind Record.serial)

theorem CoilQueue.serials_eq (q : CoilQueue) : q.serials = serialsOf q.slots := rfl

theorem mem_serialsOf {n : Nat} {slots : List Slot} : n ∈ serialsOf slots ↔ heldSerial n slots = true := by
  simp only [serialsOf, List.mem_filterMap, heldSerial, List.any_eq_true]
  refine exists_congr fun x => and_congr_right fun _ => ?_
  cases x <;> simp

/-- R9: the serial of a record that passed the check for duplicates stands in no other slot. -/
theorem Record.dedupe_serial_notMem {others : List Slot} {r : Record} {n : Nat}
    (h : (r.dedupe others).serial = some n) : n ∉ serialsOf others := by
  unfold Record.dedupe at h
  split at h
  · exact absurd h (by simp)
  · rename_i hd
    rw [mem_serialsOf]
    simpa [isDuplicate, h] using hd

/-- R9: a content checked against the other slots joins them without a serial in common. -/
theorem serialsOf_cons_dedupe_nodup {others : List Slot} (h : (serialsOf others).Nodup) (x : Slot) :
    (serialsOf (x.map (Record.dedupe others) :: others)).Nodup := by
  cases x with
  | none => exact h
  | some r =>
    unfold serialsOf
    rw [List.filterMap_cons, Option.map_some, Option.bind_some]
    split
    · exact h
    · rename_i n hn
      exact List.nodup_cons.mpr ⟨Record.dedupe_serial_notMem hn, h⟩

/-- The slots a shift moves on keep their serials, but for that of the lead. -/
theorem serialsOf_movedSlots (slots : List Slot) : serialsOf (movedSlots slots) = serialsOf slots.dropLast := by
  unfold movedSlots serialsOf
  rw [List.filterMap_map]
  congr 1
  funext x
  cases x <;> rfl

theorem serialsOf_movedSlots_nodup {slots : List Slot} (h : (serialsOf slots).Nodup) :
    (serialsOf (movedSlots slots)).Nodup := by
  rw [serialsOf_movedSlots]
  exact h.sublist ((List.dropLast_sublist slots).filterMap _)

/-- R9: after a shift no two records share a serial. -/
theorem CoilQueue.shifted_nodup {q : CoilQueue} (h : (serialsOf q.slots).Nodup) (cadence : Nat) (now : Time) (x : Slot) :
    (serialsOf (q.shifted cadence now x).slots).Nodup :=
  serialsOf_cons_dedupe_nodup (serialsOf_movedSlots_nodup h) x

/-! ### Slots after a shift (R14) -/

theorem CoilQueue.shifted_length {q : CoilQueue} (h : 1 ≤ q.slots.length) (cadence : Nat) (now : Time) (x : Slot) :
    (q.shifted cadence now x).slots.length = q.slots.length := by
  simp only [CoilQueue.shifted, movedSlots, List.length_cons, List.length_map, List.length_dropLast]
  omega

/-- R3: where the records of a queue and the incoming one lie in their ranges, those of the shifted queue do. -/
theorem CoilQueue.shifted_rangesOk {q : CoilQueue} {p : Nat} {x : Slot} (hq : ∀ r, some r ∈ q.slots → r.RangesOk p)
    (hx : ∀ r, x = some r → r.RangesOk p) (cadence : Nat) (now : Time) {r : Record}
    (hr : some r ∈ (q.shifted cadence now x).slots) : r.RangesOk p := by
  rcases List.mem_cons.mp hr with hr | hr
  · obtain ⟨r0, h0, rfl⟩ := Option.map_eq_some_iff.mp hr.symm
    exact Record.rangesOk_dedupe _ (hx r0 h0)
  · obtain ⟨y, hy, hyr⟩ := List.mem_map.mp hr
    obtain ⟨r0, rfl, rfl⟩ := Option.map_eq_some_iff.mp hyr
    exact Record.rangesOk_settle (hq r0 (List.mem_of_mem_dropLast hy))

/-! ### Slots after a period end (R40) -/

/-- What a period end may make of a slot: the content stays, or is a record brought up to date. -/
def SlotUpdated (img : Image) (short : Bool) (x y : Slot) : Prop :=
  y = x ∨ ∃ r first share, x = some r ∧ y = some (r.periodUpdate img first short share)

/-- R40: a period end keeps the slots in their places. -/
theorem updateSlots_forall₂ (img : Image) (short slot0 : Bool) (slots : List Slot) (shs : List Nat) :
    List.Forall₂ (SlotUpdated img short) slots (updateSlots img short slot0 slots shs) := by
  induction slots generalizing slot0 shs with
  | nil => cases shs <;> exact .nil
  | cons x rest ih =>
    cases shs with
    | nil =>
      have hsame : updateSlots img short slot0 (x :: rest) [] = x :: rest := by cases x <;> rfl
      rw [hsame]
      exact List.forall₂_same.mpr fun _ _ => .inl rfl
    | cons share shs =>
      cases x with
      | none => exact .cons (.inl rfl) (ih false shs)
      | some r => exact .cons (.inr ⟨r, slot0, share, rfl, rfl⟩) (ih false shs)

/-- R9: updated slots carry the serials they carried. -/
theorem serialsOf_eq_of_updated {img : Image} {short : Bool} {xs ys : List Slot}
    (h : List.Forall₂ (SlotUpdated img short) xs ys) : serialsOf ys = serialsOf xs := by
  induction h with
  | nil => rfl
  | cons hxy _ ih =>
    unfold serialsOf at ih ⊢
    rw [List.filterMap_cons, List.filterMap_cons, ih]
    rcases hxy with rfl | ⟨r, first, share, rfl, rfl⟩ <;> rfl

/-- R3: updated slots keep the ranges of their records. -/
theorem rangesOk_of_updated {img : Image} {short : Bool} {p : Nat} {xs ys : List Slot}
    (h : List.Forall₂ (SlotUpdated img short) xs ys) (hx : ∀ r, some r ∈ xs → r.RangesOk p) :
    ∀ r, some r ∈ ys → r.RangesOk p := by
  induction h with
  | nil => exact hx
  | cons hxy _ ih =>
    intro r hr
    rcases List.mem_cons.mp hr with hr | hr
    · rcases hxy with rfl | ⟨r0, first, share, rfl, rfl⟩
      · exact hx r (hr ▸ List.mem_cons_self)
      · rw [Option.some.inj hr]
        exact Record.rangesOk_periodUpdate _ _ _ _ (hx r0 List.mem_cons_self)
    · exact ih (fun r' h' => hx r' (List.mem_cons_of_mem _ h')) r hr

end Sys2Proof.Machine
end

section
/-!
PROOFS. What the invariants of the coil queue read, what each shared operation leaves of it, and the operations that move the queue
or put the station on line (R1, R3, R9, R42, R184).
-/

namespace Sys2Proof.Machine

/-! ### What the invariants read -/

/-- What the invariants of the coil queue read besides its slots is the same in both states; the place and the target table are read
on line only. -/
structure SameStation (s t : State) : Prop where
  image : t.svi.image = s.svi.image
  onLine : t.onLine = s.onLine
  discover : t.ldu.state = .discover → s.ldu.state = .discover
  position : s.onLine = true → t.ldu.position = s.ldu.position
  targets : s.onLine = true → t.tau.targets = s.tau.targets
  nextSerial : t.head.nextSerial = s.head.nextSerial

/-- All that the invariants of the coil queue read is the same in both states. -/
structure SameQueue (s t : State) : Prop extends SameStation s t where
  slots : t.cq.slots = s.cq.slots

/-- The invariants of the coil queue pass from one state to the other. -/
def State.KeepsQueue (s t : State) : Prop := (s.SerialsOk → t.SerialsOk) ∧ (s.QueueSound → t.QueueSound)

theorem State.KeepsQueue.refl (s : State) : s.KeepsQueue s := ⟨id, id⟩

theorem State.KeepsQueue.trans {s t u : State} (h : s.KeepsQueue t) (k : t.KeepsQueue u) : s.KeepsQueue u :=
  ⟨fun x => k.1 (h.1 x), fun x => k.2 (h.2 x)⟩

theorem SameQueue.refl (s : State) : SameQueue s s := ⟨⟨rfl, rfl, id, fun _ => rfl, fun _ => rfl, rfl⟩, rfl⟩

theorem SameStation.trans {s t u : State} (h : SameStation s t) (k : SameStation t u) : SameStation s u :=
  { image := k.image.trans h.image
    onLine := k.onLine.trans h.onLine
    discover := fun x => h.discover (k.discover x)
    position := fun x => (k.position (h.onLine.trans x)).trans (h.position x)
    targets := fun x => (k.targets (h.onLine.trans x)).trans (h.targets x)
    nextSerial := k.nextSerial.trans h.nextSerial }

theorem SameQueue.trans {s t u : State} (h : SameQueue s t) (k : SameQueue t u) : SameQueue s u :=
  ⟨h.toSameStation.trans k.toSameStation, k.slots.trans h.slots⟩

/-- The fields an update has to leave. -/
theorem State.QueueSound.rangesOk {s : State} (h : s.QueueSound) : ∀ r, some r ∈ s.cq.slots → r.RangesOk s.pos.val := by
  obtain ⟨-, -, -, hranges, -⟩ := h
  exact hranges

theorem State.QueueSound.nextSerial_range {s : State} (h : s.QueueSound) : 1 ≤ s.head.nextSerial ∧ s.head.nextSerial ≤ 65535 := by
  obtain ⟨-, -, -, -, hnext⟩ := h
  exact hnext

theorem State.QueueSound.targetsOk {s : State} (h : s.QueueSound) : s.TargetsOk := by
  obtain ⟨-, -, htargets, -⟩ := h
  exact htargets

/-- R1: a sound station on line has as many slots as its image says. -/
theorem State.QueueSound.slots_length {s : State} (h : s.QueueSound) (ho : s.onLine = true) :
    s.cq.slots.length = s.img.slotCount.get s.pos := by
  obtain ⟨-, ⟨-, hon, -⟩, -⟩ := h
  exact (hon ho).2

theorem SameStation.of_eq {s t : State} (image : t.svi.image = s.svi.image) (state : t.ldu.state = s.ldu.state)
    (position : t.ldu.position = s.ldu.position) (targets : t.tau.targets = s.tau.targets)
    (nextSerial : t.head.nextSerial = s.head.nextSerial) : SameStation s t :=
  ⟨image, congrArg StationState.online state, fun h => state ▸ h, fun _ => position, fun _ => targets, nextSerial⟩

theorem SameQueue.of_eq {s t : State} (image : t.svi.image = s.svi.image) (state : t.ldu.state = s.ldu.state)
    (position : t.ldu.position = s.ldu.position) (targets : t.tau.targets = s.tau.targets)
    (nextSerial : t.head.nextSerial = s.head.nextSerial) (slots : t.cq.slots = s.cq.slots) : SameQueue s t :=
  ⟨.of_eq image state position targets nextSerial, slots⟩

theorem SameStation.img {s t : State} (h : SameStation s t) : t.img = s.img := by unfold State.img; rw [h.image]

theorem SameStation.pos {s t : State} (h : SameStation s t) (ho : s.onLine = true) : t.pos = s.pos := by
  unfold State.pos; rw [h.position ho]

theorem SameStation.imageOk {s t : State} (h : SameStation s t) (hs : s.ImageOk) : t.ImageOk := by
  unfold State.ImageOk; rw [h.image]; exact hs

/-- An on-line station that stays where it is keeps its queue sound if the new slots are sound. -/
theorem SameStation.keepsQueue {s t : State} (h : SameStation s t) (ho : s.onLine = true)
    (hserials : (serialsOf s.cq.slots).Nodup → (serialsOf t.cq.slots).Nodup)
    (hlength : s.QueueSound → t.cq.slots.length = s.cq.slots.length)
    (hranges : s.QueueSound → ∀ r, some r ∈ t.cq.slots → r.RangesOk s.pos.val) : s.KeepsQueue t := by
  refine ⟨hserials, fun hs => ?_⟩
  have ht : t.onLine = true := h.onLine.trans ho
  obtain ⟨himage, ⟨hhas, hplace, -⟩, htargets, -, hlow, hhigh⟩ := id hs
  refine ⟨h.imageOk himage, ⟨fun _ => ?_, fun _ => ⟨?_, ?_⟩, fun hf => ?_⟩, fun _ => ?_, ?_, ?_⟩
  · rw [h.image]; exact hhas (.inl ho)
  · rw [h.position ho]; exact (hplace ho).1
  · unfold State.slotCount
    rw [h.img, h.pos ho, hlength hs]
    exact (hplace ho).2
  · exact absurd (ht.symm.trans hf) (by decide)
  · rw [h.targets ho, h.img]; exact htargets ho
  · rw [h.pos ho]; exact hranges hs
  · rw [h.nextSerial]; exact ⟨hlow, hhigh⟩

/-- R1, R166: off line the queue is sound where it has no slot, and in DISCOVER an image is held. -/
theorem State.queueSound_of_offLine {s : State} (ho : s.onLine = false) (himage : s.ImageOk)
    (hhas : s.ldu.state = .discover → s.svi.image.isSome = true) (hnil : s.cq.slots = [])
    (hnext : 1 ≤ s.head.nextSerial ∧ s.head.nextSerial ≤ 65535) : s.QueueSound := by
  have hoff (h : s.onLine = true) : False := absurd (ho.symm.trans h) (by decide)
  exact ⟨himage, ⟨fun h => hhas (h.resolve_left hoff), fun h => (hoff h).elim, fun _ => hnil⟩, fun h => (hoff h).elim,
    by rw [hnil]; simp, hnext⟩

/-- The invariants hold wherever all they read is the same. -/
theorem SameQueue.keepsQueue {s t : State} (h : SameQueue s t) : s.KeepsQueue t := by
  by_cases ho : s.onLine = true
  · exact h.toSameStation.keepsQueue ho (by rw [h.slots]; exact id) (fun _ => by rw [h.slots])
      (fun hs => by rw [h.slots]; exact hs.rangesOk)
  · have hs : s.onLine = false := by simpa using ho
    have ht : t.onLine = false := h.onLine.trans hs
    refine ⟨fun hn => ?_, fun ⟨himage, ⟨hhas, _, hoff⟩, _, _, hnext⟩ => ?_⟩
    · unfold State.SerialsOk; rw [CoilQueue.serials_eq, h.slots]; exact hn
    · exact State.queueSound_of_offLine ht (h.imageOk himage) (fun hd => by rw [h.image]; exact hhas (.inr (h.discover hd)))
        (h.slots.trans (hoff hs)) (by rw [h.nextSerial]; exact hnext)

/-- A sound station on line holds a valid image. -/
theorem State.QueueSound.img_valid {s : State} (h : s.QueueSound) (ho : s.onLine = true) : s.img.firstFailure = none := by
  obtain ⟨himage, ⟨hhas, -⟩, -⟩ := h
  obtain ⟨img, hi⟩ := Option.isSome_iff_exists.mp (hhas (.inl ho))
  unfold State.img
  rw [hi]
  exact himage img hi

/-- R1: a sound queue on line has a slot. -/
theorem State.QueueSound.slots_pos {s : State} (h : s.QueueSound) (ho : s.onLine = true) : 1 ≤ s.cq.slots.length := by
  rw [h.slots_length ho]
  exact Image.slotCount_pos (h.img_valid ho) s.pos

/-! ### The frames of the shared operations -/

theorem LinkFrame.sameQueue {s t : State} (h : LinkFrame s t) : SameQueue s t :=
  .of_eq (by rw [h.svi]) (by rw [h.ldu]) (by rw [h.ldu]) (by rw [h.tau]) (by rw [h.head]) (by rw [h.cq])

theorem CallFrame.sameQueue {s t : State} (h : CallFrame s t) : SameQueue s t :=
  .of_eq (by rw [h.svi]) (by rw [h.ldu]) (by rw [h.ldu]) (by rw [h.tau]) (by rw [h.head]) (by rw [h.cq])

theorem ExitFrame.sameQueue {s t : State} (h : ExitFrame s t) : SameQueue s t :=
  .of_eq (by rw [h.svi]) (by rw [h.ldu]) (by rw [h.ldu]) (by rw [h.tau]) (by rw [h.head]) (by rw [h.cq])

theorem StrokeFrame.sameStation {s t : State} (h : StrokeFrame s t) : SameStation s t :=
  .of_eq (by rw [h.svi]) (by rw [h.ldu]) (by rw [h.ldu]) (by rw [h.tau]) (by rw [h.head])

theorem HoldFrame.sameQueue {s t : State} (h : HoldFrame s t) (state : t.ldu.state = s.ldu.state) : SameQueue s t :=
  .of_eq (by rw [h.svi]) state (by rw [h.ldu]) (by rw [h.tau]) (by rw [h.head]) (by rw [h.cq])

theorem State.setPort_same (s : State) (p : Port) (x : LinkPort) : SameQueue s (s.setPort p x) := by
  cases p <;> exact .of_eq rfl rfl rfl rfl rfl rfl

theorem State.observe_same (s : State) (e : Env) : SameQueue s (s.observe e) := .of_eq rfl rfl rfl rfl rfl rfl

theorem State.setSvcReceiver_same (s : State) (x : SvcReceiver) : SameQueue s (s.setSvcReceiver x) :=
  .of_eq rfl rfl rfl rfl rfl rfl

theorem State.count_same (s : State) (c : Counter) : SameQueue s (s.count c) := (s.count_link c).sameQueue

theorem State.countBy_same (s : State) (c : Counter) (n : Nat) : SameQueue s (s.countBy c n) := (s.countBy_link c n).sameQueue

theorem State.portCount_same (s : State) (p : Port) (c : PortCounter) : SameQueue s (s.portCount p c) :=
  (s.portCount_link p c).sameQueue

theorem State.setCru_same (s : State) (x : Cru) : SameQueue s { s with cru := x } := .of_eq rfl rfl rfl rfl rfl rfl

/-! ### The Hold Unit -/

theorem modeOf_online (es : List HoldEntry) : (modeOf es).online = true := by
  unfold modeOf
  split
  · rfl
  · split <;> rfl

/-- R129: a line mode taken by a station on line. -/
theorem State.enterMode_same (s : State) (es : List HoldEntry) (ho : s.onLine = true) :
    SameQueue s (s.enterMode (modeOf es)) where
  image := rfl
  onLine := (modeOf_online es).trans ho.symm
  discover := fun h => by
    have hm := modeOf_online es
    rw [show modeOf es = .discover from h] at hm
    exact absurd hm (by decide)
  position := fun _ => rfl
  targets := fun _ => rfl
  nextSerial := rfl
  slots := rfl

theorem State.deriveMode_same (s : State) : SameQueue s s.deriveMode := by
  unfold State.deriveMode
  split
  · rename_i ho
    refine SameQueue.trans ?_ (State.tryStart_call _).sameQueue
    split
    · exact .refl s
    · exact s.enterMode_same _ ho
  · exact .refl s

theorem State.setHlu_same (s : State) (x : Hlu) : SameQueue s { s with hlu := x } := .of_eq rfl rfl rfl rfl rfl rfl

theorem State.raiseOwn_same (s : State) (c : Cause) : SameQueue s (s.raiseOwn c) :=
  (s.raiseOwn_hold c).sameQueue (by rw [s.raiseOwn_ldu c])

theorem State.removeOwn_same (s : State) (c : Cause) : SameQueue s (s.removeOwn c) :=
  (s.removeOwn_hold c).sameQueue (by rw [s.removeOwn_ldu c])

theorem State.removeListed_same (s : State) (w : Cause → Bool) (es : List HoldEntry) : SameQueue s (s.removeListed w es) := by
  induction es generalizing s with
  | nil => exact .refl s
  | cons e rest ih =>
    unfold State.removeListed
    split
    · exact (s.removeOwn_same _).trans (ih _)
    · exact ih s

theorem State.hearHold_same (s : State) (code origin : Byte) : SameQueue s (s.hearHold code origin) := by
  unfold State.hearHold
  extract_lets t
  have ht : SameQueue s t := s.count_same _
  split
  · exact ht.trans (t.count_same _)
  split
  · exact ht.trans (t.count_same _)
  split
  · exact (ht.trans (t.setHlu_same _)).trans (State.deriveMode_same _)
  split
  · exact (ht.trans (t.setHlu_same _)).trans (State.deriveMode_same _)
  · exact (ht.trans (t.count_same _)).trans (State.deriveMode_same _)

theorem State.hearClear_same (s : State) (code origin : Byte) : SameQueue s (s.hearClear code origin) := by
  unfold State.hearClear
  extract_lets t
  have ht : SameQueue s t := s.count_same _
  split
  · exact ht.trans (t.count_same _)
  split
  · exact ht.trans (t.count_same _)
  split
  · exact (ht.trans (t.setHlu_same _)).trans (State.deriveMode_same _)
  · exact ht.trans (t.count_same _)

theorem State.cutPower_same (s : State) : SameQueue s s.cutPower := .of_eq rfl rfl rfl rfl rfl rfl

theorem State.tripInverter_same (s : State) : SameQueue s s.tripInverter := by
  unfold State.tripInverter
  split
  · exact .refl s
  · exact s.cutPower_same

theorem State.countTripReset_same (s : State) : SameQueue s s.countTripReset := by
  unfold State.countTripReset
  split
  · split
    · exact s.count_same _
    · exact .refl s
  · exact s.count_same _

theorem State.resetPusher_same (s : State) : SameQueue s s.resetPusher := by
  unfold State.resetPusher
  split
  · exact .of_eq rfl rfl rfl rfl rfl rfl
  · exact .refl s

theorem State.resetTrip_same (s : State) : SameQueue s s.resetTrip :=
  ((s.countTripReset_same.trans (State.resetPusher_same _)).trans (State.removeListed_same _ _ _)).trans
    (State.deriveMode_same _)

/-! ### Shifts of the coil queue (R14) -/

/-- R3, R9, R14: a stroke taken on line keeps the queue sound where the incoming record lies in its ranges. -/
theorem StrokeFrame.keepsQueue_of_shifted {s t : State} (h : StrokeFrame s t) (ho : s.onLine = true) {cadence : Nat}
    {now : Time} {x : Slot} (hq : t.cq = s.cq.shifted cadence now x)
    (hx : s.QueueSound → ∀ r, x = some r → r.RangesOk s.pos.val) : s.KeepsQueue t := by
  refine h.sameStation.keepsQueue ho (fun hn => ?_) (fun hs => ?_) (fun hs r hr => ?_)
  · rw [hq]; exact CoilQueue.shifted_nodup hn _ _ _
  · rw [hq]; exact CoilQueue.shifted_length (hs.slots_pos ho) _ _ _
  · rw [hq] at hr
    exact CoilQueue.shifted_rangesOk hs.rangesOk (hx hs) _ _ hr

/-- R7: a placeholder of a sound station on line lies in its ranges. -/
theorem State.QueueSound.placeholder_rangesOk {s : State} (h : s.QueueSound) (ho : s.onLine = true)
    (self : Option SelfStroke) : (s.placeholder self).RangesOk s.pos.val :=
  State.placeholder_rangesOk (h.img_valid ho) (h.targetsOk ho) self _

theorem State.catchUp_keeps (s : State) (ho : s.onLine = true) : s.KeepsQueue s.catchUp :=
  s.catchUp_shift.toStrokeFrame.keepsQueue_of_shifted ho s.catchUp_cq
    (fun hs _ hr => Option.some.inj hr ▸ hs.placeholder_rangesOk ho none)

theorem State.frameAdjust_same (s : State) : SameQueue s s.frameAdjust :=
  ⟨s.frameAdjust_stroke.sameStation, by rw [s.frameAdjust_cq]⟩

theorem State.catchUps_keeps (s : State) (k : Nat) (ho : s.onLine = true) : s.KeepsQueue (s.catchUps k) := by
  induction k generalizing s with
  | zero => exact .refl s
  | succ k ih => exact (s.catchUp_keeps ho).trans (ih _ (s.catchUp_shift.onLine.trans ho))

theorem State.catchUpsAdjusted_keeps (s : State) (k : Nat) (ho : s.onLine = true) :
    s.KeepsQueue (s.catchUpsAdjusted k) := by
  induction k generalizing s with
  | zero => exact .refl s
  | succ k ih =>
    have hadj := State.frameAdjust_same s.catchUp
    exact ((s.catchUp_keeps ho).trans hadj.keepsQueue).trans
      (ih _ (hadj.onLine.trans (s.catchUp_shift.onLine.trans ho)))

theorem State.ownShift_keeps (s : State) (x : Option WireRecord) (ho : s.onLine = true) : s.KeepsQueue (s.ownShift x) :=
  (s.ownShift_stroke x).keepsQueue_of_shifted ho (s.ownShift_cq x) (fun _ r hr => by
    obtain ⟨w, _, rfl⟩ := Option.map_eq_some_iff.mp hr
    exact repairRecord_rangesOk _ w)

theorem State.selfStroke_cq (s : State) :
    s.selfStroke.cq = s.cq.shifted s.img.cadence s.now
      (some (s.placeholder (some { accrued := 0, createdAt := s.cq.lastStroke + 1 }))) := by
  unfold State.selfStroke
  extract_lets r
  rw [State.count_cq]
  exact State.shift_cq _ _ _

theorem State.selfStroke_keeps (s : State) (ho : s.onLine = true) : s.KeepsQueue s.selfStroke :=
  s.selfStroke_stroke.keepsQueue_of_shifted ho s.selfStroke_cq
    (fun hs _ hr => Option.some.inj hr ▸ hs.placeholder_rangesOk ho _)

/-- R94: what a late frame may merge into stands in slot 0. -/
theorem CoilQueue.mergeable_some {q : CoilQueue} {n : Half} {r : Record} {ss : SelfStroke}
    (h : q.mergeable n = some (r, ss)) : ∃ rest, q.slots = some r :: rest := by
  unfold CoilQueue.mergeable at h
  split at h
  · rename_i r0 rest hq
    split at h
    · split at h
      · cases h; exact ⟨rest, hq⟩
      · cases h
    · cases h
  · cases h

/-- R94: the slots after a merge. -/
theorem State.mergeLate_slots (s : State) (w : WireRecord) (held : Record) (ss : SelfStroke) :
    (s.mergeLate w held ss).cq.slots =
      (some (mergeRecords (repairRecord s.pos.val w) held ss)).map (Record.dedupe s.cq.slots.tail) :: s.cq.slots.tail := by
  unfold State.mergeLate
  extract_lets o m t src u v
  split
  · rw [(State.preview_exit _).cq]; rfl
  · rfl

theorem State.lateStroke_keeps (s : State) (n : Half) (x : Option WireRecord) (ho : s.onLine = true) :
    s.KeepsQueue (s.lateStroke n x) := by
  unfold State.lateStroke
  split
  · rename_i w held ss hm
    obtain ⟨rest, hq⟩ := CoilQueue.mergeable_some hm
    have hslots := s.mergeLate_slots w held ss
    rw [hq, List.tail_cons] at hslots
    refine (s.mergeLate_stroke w held ss).sameStation.keepsQueue ho (fun hn => ?_) (fun _ => ?_) (fun hs r hr => ?_)
    · rw [hslots]
      rw [hq] at hn
      exact serialsOf_cons_dedupe_nodup (hn.sublist ((List.sublist_cons_self _ rest).filterMap _)) _
    · rw [hslots, hq]; rfl
    · have hranges := hs.rangesOk
      rw [hq] at hranges
      rw [hslots] at hr
      rcases List.mem_cons.mp hr with hr | hr
      · rw [Option.some.inj hr]
        exact Record.rangesOk_dedupe _
          (mergeRecords_rangesOk ss (repairRecord_rangesOk _ w) (hranges held List.mem_cons_self))
      · exact hranges r (List.mem_cons_of_mem _ hr)
  · exact (s.count_same _).keepsQueue

theorem State.takeStroke_keeps (s : State) (n : Half) (b : Byte) (x : Option WireRecord) (ho : s.onLine = true) :
    s.KeepsQueue (s.takeStroke n b x) := by
  unfold State.takeStroke
  extract_lets t
  have ht : SameQueue s t := by
    dsimp only [t]
    split
    · exact s.count_same _
    · exact .refl s
  have hot : t.onLine = true := ht.onLine.trans ho
  split
  · exact (ht.trans (t.count_same _)).keepsQueue
  split
  · exact (ht.keepsQueue.trans (t.catchUpsAdjusted_keeps _ hot)).trans
      (State.ownShift_keeps _ _ ((t.catchUpsAdjusted_stroke _).sameStation.onLine.trans hot))
  · exact ht.keepsQueue.trans (t.lateStroke_keeps _ _ hot)

/-! ### Loading at the head (R16, R17) -/

theorem serialAfter_range (n : Nat) : 1 ≤ serialAfter n ∧ serialAfter n ≤ 65535 := by
  unfold serialAfter; split <;> omega

/-- R17: a head with another next serial within R17 keeps its queue sound. -/
theorem State.setNextSerial_keeps (s : State) (n : Nat) (h : 1 ≤ n ∧ n ≤ 65535) :
    s.KeepsQueue { s with head := { s.head with nextSerial := n } } :=
  ⟨id, fun ⟨himage, hshape, htargets, hranges, _⟩ => ⟨himage, hshape, htargets, hranges, h⟩⟩

theorem State.headStroke_keeps (s : State) (ho : s.onLine = true) : s.KeepsQueue s.headStroke := by
  unfold State.headStroke
  split
  · extract_lets t src u
    have ht : SameQueue s t := by
      dsimp only [t]
      split
      · exact s.count_same _
      · exact .refl s
    have hu : s.KeepsQueue u := ht.keepsQueue.trans (t.setNextSerial_keeps _ (serialAfter_range _))
    have hou : u.onLine = true := ht.onLine.trans ho
    have hshift := (u.shift_shift synthNone (some s.newRecord)).toStrokeFrame
    have hcq := u.shift_cq synthNone (some s.newRecord)
    refine ⟨fun hn => ?_, fun hs => ?_⟩
    · have hun : (serialsOf u.cq.slots).Nodup := hu.1 hn
      unfold State.SerialsOk
      rw [hcq]
      exact CoilQueue.shifted_nodup hun _ _ _
    · have hnew (p : Nat) : s.newRecord.RangesOk p :=
        State.newRecord_rangesOk (hs.img_valid ho) hs.nextSerial_range.1 hs.nextSerial_range.2 p
      exact (hshift.keepsQueue_of_shifted hou hcq (fun _ _ hr => Option.some.inj hr ▸ hnew _)).2 (hu.2 hs)
  · exact (s.shift_shift _ _).toStrokeFrame.keepsQueue_of_shifted ho (s.shift_cq _ _) (fun _ r hr => by cases hr)

theorem State.tryStart_same (s : State) : SameQueue s s.tryStart := s.tryStart_call.sameQueue

/-- A head update that leaves the next serial. -/
theorem State.setHead_same (s : State) (x : Head) (h : x.nextSerial = s.head.nextSerial) : SameQueue s { s with head := x } :=
  .of_eq rfl rfl rfl rfl h rfl

theorem State.takePushed_keeps (s : State) (ho : s.onLine = true) : s.KeepsQueue s.takePushed := by
  unfold State.takePushed
  split
  · extract_lets t src u
    exact ((s.headStroke_keeps ho).trans (t.setHead_same _ rfl).keepsQueue).trans u.tryStart_same.keepsQueue
  · split
    · extract_lets t src u
      have hu : SameQueue t u := t.setHead_same _ rfl
      exact (s.headStroke_keeps ho).trans (hu.trans (u.count_same _)).keepsQueue
    · exact (s.count_same _).keepsQueue
  · exact (s.count_same _).keepsQueue

/-! ### The rest of the Stroke and Call Unit -/

theorem State.setTail_same (s : State) (x : Tail) : SameQueue s { s with tail := x } := (s.setTail_call x).sameQueue

theorem State.pusherTimesOut_same (s : State) : SameQueue s s.pusherTimesOut := by
  unfold State.pusherTimesOut
  extract_lets src t
  have ht : SameQueue s t := s.setHead_same _ rfl
  exact ((ht.trans (t.count_same _)).trans (State.raiseOwn_same _ _)).trans (State.deriveMode_same _)

theorem State.pressTiming_same (s : State) : SameQueue s s.pressTiming := by
  unfold State.pressTiming
  extract_lets t src
  have ht : SameQueue s t := by
    dsimp only [t]
    split
    · exact (s.removeOwn_same _).trans (State.deriveMode_same _)
    · exact .refl s
  split
  · exact ht
  · exact ht.trans (t.setTail_same _)

theorem State.takePressCall_same (s : State) : SameQueue s s.takePressCall := by
  unfold State.takePressCall
  extract_lets t src
  have ht : SameQueue s t := (s.count_same _).trans (State.pressTiming_same _)
  split
  · exact ht.trans (t.sendCall_call _).sameQueue
  · exact ht.trans (t.setTail_same _)

theorem State.callTimeout_same (s : State) : SameQueue s s.callTimeout := by
  unfold State.callTimeout
  split
  · exact (s.setTail_same _).trans (State.passCall_call _ _ _ _).sameQueue
  · exact s.setTail_same _

theorem State.fillExpires_same (s : State) : SameQueue s s.fillExpires := by
  unfold State.fillExpires
  extract_lets src t
  split
  · exact ((s.setTail_same _).trans (t.sendCall_call _).sameQueue).trans (State.count_same _ _)
  · exact s.setTail_same _

theorem State.pressIdles_same (s : State) : SameQueue s s.pressIdles := by
  unfold State.pressIdles
  extract_lets src t
  exact (((s.setTail_same _).trans (t.count_same _)).trans (State.raiseOwn_same _ _)).trans (State.deriveMode_same _)

theorem State.setTracker_same (s : State) (x : Tracker) : SameQueue s { s with tracker := x } :=
  .of_eq rfl rfl rfl rfl rfl rfl

theorem State.takeMotion_same (s : State) : SameQueue s s.takeMotion := by
  unfold State.takeMotion State.motionTaken
  split
  · split
    · extract_lets n src t
      exact (s.setTracker_same _).trans (t.count_same _)
    split
    · exact s.setTracker_same _
    · exact s.count_same _
  split
  · exact .refl s
  · exact s.count_same _

theorem State.giveUpConfirm_same (s : State) : SameQueue s s.giveUpConfirm := by
  unfold State.giveUpConfirm
  extract_lets n src t
  exact (s.setTracker_same _).trans (t.count_same _)

theorem State.stepPulse_same (s : State) : SameQueue s s.stepPulse := by
  unfold State.stepPulse
  split
  · exact .refl s
  · split
    · exact (s.setExu_exit _).sameQueue
    · exact .refl s
  · split
    · split
      · exact (s.setExu_exit _).sameQueue
      · exact (s.setExu_exit _).sameQueue
    · exact .refl s

/-! ### The Credit Unit -/

theorem State.offer_same (s : State) (p : Port) (f : Frame) : SameQueue s (s.offer p f).state := (s.offer_link p f).sameQueue

theorem State.offerCanvass_same (s : State) (p : Port) (x : Payload) : SameQueue s (s.offerCanvass p x).state := by
  unfold State.offerCanvass
  split
  · exact s.offer_same _ _
  · exact .refl s

theorem State.openCanvass_same (s : State) : SameQueue s s.openCanvass := by
  unfold State.openCanvass
  split
  · extract_lets n want src t x a b src2 src3 u
    have hb : SameQueue s b.state := ((s.setCru_same _).trans (t.offerCanvass_same _ _)).trans (State.offerCanvass_same _ _ _)
    split
    · exact (hb.trans (State.setCru_same _ _)).trans (u.count_same _)
    · exact hb.trans (State.count_same _ _)
  · exact s.count_same _

theorem State.reevaluate_same (s : State) : SameQueue s s.reevaluate := by
  unfold State.reevaluate
  split
  · exact s.openCanvass_same
  · exact .refl s

theorem State.answerCanvass_same (s : State) (origin : Byte) (n want : Half) : SameQueue s (s.answerCanvass origin n want) := by
  unfold State.answerCanvass
  split
  · exact s.count_same _
  · extract_lets ans t r src src2 u
    have hr : SameQueue s r.state := (s.count_same _).trans (t.offer_same _ _)
    split
    · exact (hr.trans (State.setCru_same _ _)).trans (u.countBy_same _ _)
    · exact hr.trans (State.count_same _ _)

theorem State.judgeClose_same (s : State) (b : Bool) : SameQueue s (s.judgeClose b) := by
  unfold State.judgeClose
  split
  · split
    · exact (s.setCru_same _).trans (State.count_same _ _)
    · exact (s.setCru_same _).trans (State.count_same _ _)
  · exact .refl s

theorem State.closeCanvass_same (s : State) (c : Canvass) (why : Counter) : SameQueue s (s.closeCanvass c why) := by
  unfold State.closeCanvass
  extract_lets src t
  exact ((s.setCru_same _).trans (t.count_same _)).trans (State.judgeClose_same _ _)

theorem State.keepWithinCredits_same (s : State) : SameQueue s s.keepWithinCredits := by
  unfold State.keepWithinCredits
  split
  · exact .refl s
  · exact s.cutPower_same

theorem State.takeLend_same (s : State) (lender : Byte) (c : Canvass) (amount : Nat) : SameQueue s (s.takeLend lender c amount) := by
  unfold State.takeLend
  extract_lets total src t u excess r src2 src3 v
  have hu : SameQueue s u := (s.setCru_same _).trans (t.countBy_same _ _)
  split
  · have hr : SameQueue s r.state := hu.trans (u.offer_same _ _)
    split
    · exact (hr.trans (State.setCru_same _ _)).trans
        (((v.count_same _).trans (State.countBy_same _ _ _)).trans (State.keepWithinCredits_same _))
    · exact hr.trans ((State.count_same _ _).trans (State.countBy_same _ _ _))
  · exact hu

theorem State.matchReply_same (s : State) (lender : Byte) (c : Canvass) (k : ReplyKind) (amount : Nat) :
    SameQueue s (s.matchReply lender c k amount) := by
  unfold State.matchReply
  extract_lets c' src t
  split
  · exact (s.setCru_same _).trans (t.count_same _)
  · exact s.setCru_same _
  · exact s.takeLend_same _ _ _

theorem State.closeIfAnswered_same (s : State) : SameQueue s s.closeIfAnswered := by
  unfold State.closeIfAnswered
  split
  · split
    · exact s.closeCanvass_same _ _
    · exact .refl s
  · exact .refl s

theorem State.lateLend_same (s : State) (lender : Byte) (n : Half) (amount : Nat) : SameQueue s (s.lateLend lender n amount) := by
  unfold State.lateLend
  extract_lets k src t r src2 src3 v u
  have ht : SameQueue s t := s.setCru_same _
  have hu : SameQueue s u := by
    dsimp only [u]
    split
    · have hr : SameQueue s r.state := ht.trans (t.offer_same _ _)
      split
      · exact hr.trans ((State.count_same _ _).trans (State.countBy_same _ _ _))
      · exact (hr.trans (State.setCru_same _ _)).trans ((v.count_same _).trans (State.countBy_same _ _ _))
    · exact ht
  exact ((hu.trans (u.count_same _)).trans (State.countBy_same _ _ _)).trans (State.countBy_same _ _ _)

theorem State.takeReply_same (s : State) (lender : Byte) (n : Half) (k : ReplyKind) (amount : Nat) :
    SameQueue s (s.takeReply lender n k amount) := by
  have hlate : SameQueue s (s.lateReply lender n k amount) := by
    unfold State.lateReply
    split
    · exact s.lateLend_same _ _ _
    · exact s.count_same _
    · exact s.count_same _
  unfold State.takeReply
  split
  · split
    · exact (s.matchReply_same _ _ _ _).trans (State.closeIfAnswered_same _)
    · exact hlate
  · exact hlate

theorem State.takeReturn_same (s : State) (amount : Nat) : SameQueue s (s.takeReturn amount) := by
  unfold State.takeReturn
  extract_lets src t
  exact ((s.setCru_same _).trans (t.count_same _)).trans (State.countBy_same _ _ _)

theorem State.hearTrim_same (s : State) (step : TrimStep) (n : Half) : SameQueue s (s.hearTrim step n) := by
  unfold State.hearTrim
  extract_lets t src u
  have ht : SameQueue s t := by
    dsimp only [t]
    split
    · split
      · exact s.countBy_same _ _
      · exact .refl s
    · exact .refl s
  have hu : SameQueue t u := .of_eq rfl rfl rfl rfl rfl rfl
  exact (ht.trans hu).trans (u.applyTrim_exit _).sameQueue

end Sys2Proof.Machine
end

section
/-!
PROOFS. The rest of the part's operations keep the coil queue sound (R1, R3, R9, R42, R184): the period end, going on line and line
discovery, the link ports, and the service port; and from these the step.
-/

namespace Sys2Proof.Machine

/-! ### The period end (R24) -/

/-- R32 to R40: the distribution leaves the station. -/
theorem State.distribute_station (s : State) (useful : Nat) : SameStation s (s.distribute useful) := by
  unfold State.distribute
  extract_lets pool shs after_ src1 src2 t t'
  split
  · have ht : SameStation s t := .of_eq rfl rfl rfl rfl rfl
    exact ht.trans ((t.countBy_same _ _).trans (State.countBy_same _ _ _)).toSameStation
  · have ht : SameStation s t' := .of_eq rfl rfl rfl rfl rfl
    exact ht.trans (t'.countBy_same _ _).toSameStation

/-- R40: the distribution brings the slots up to date in their places. -/
theorem State.distribute_slots (s : State) (useful : Nat) :
    List.Forall₂ (SlotUpdated s.img s.ivi.latchedMark) s.cq.slots (s.distribute useful).cq.slots := by
  unfold State.distribute
  extract_lets pool shs after_ src1 src2 t t'
  split
  · exact updateSlots_forall₂ _ _ _ _ _
  · exact List.forall₂_same.mpr fun _ _ => .inl rfl

theorem State.distribute_keeps (s : State) (useful : Nat) (ho : s.onLine = true) : s.KeepsQueue (s.distribute useful) := by
  have hslots := s.distribute_slots useful
  exact (s.distribute_station useful).keepsQueue ho (fun hn => by rw [serialsOf_eq_of_updated hslots]; exact hn)
    (fun _ => hslots.length_eq.symm) (fun hs => rangesOk_of_updated hslots (State.QueueSound.rangesOk hs))

theorem State.countSample_same (s : State) (x : Sample) : SameQueue s (s.countSample x) := by
  unfold State.countSample
  extract_lets t
  have ht : SameQueue s t := by
    dsimp only [t]
    split
    · exact s.count_same _
    · split
      · exact s.count_same _
      · exact .refl s
  exact ht.trans (t.countBy_same _ _)

theorem State.account_keeps (s : State) (ho : s.onLine = true) : s.KeepsQueue s.account := by
  unfold State.account
  extract_lets x t src
  have hc : SameQueue s ((s.count .periods).countSample x) := (s.count_same _).trans (State.countSample_same _ _)
  have ht : s.KeepsQueue t := hc.keepsQueue.trans (State.distribute_keeps _ _ (hc.onLine.trans ho))
  have hl : SameQueue t { t with tau := { t.tau with sample := x } } := .of_eq rfl rfl rfl rfl rfl rfl
  exact ht.trans hl.keepsQueue

theorem State.computeDemand_same (s : State) : SameQueue s s.computeDemand := by
  unfold State.computeDemand State.countDemand
  extract_lets x t1 t2 t3 src
  have h1 : SameQueue s t1 := by
    dsimp only [t1]
    split
    · exact s.count_same _
    · exact .refl s
  have h2 : SameQueue s t2 := by
    dsimp only [t2]
    split
    · exact h1.trans (t1.count_same _)
    · exact h1
  have h3 : SameQueue s t3 := by
    dsimp only [t3]
    split
    · exact h2.trans (t2.count_same _)
    · exact h2
  exact h3.trans (.of_eq rfl rfl rfl rfl rfl rfl)

theorem State.latchSetpoint_same (s : State) : SameQueue s s.latchSetpoint := .of_eq rfl rfl rfl rfl rfl rfl

theorem State.countNotReady_same (s : State) : SameQueue s s.countNotReady := by
  unfold State.countNotReady
  split
  · exact s.count_same _
  · exact .refl s

theorem State.tailAfterPeriod_same (s : State) : SameQueue s s.tailAfterPeriod := by
  unfold State.tailAfterPeriod
  split
  · exact s.preview_exit.sameQueue.trans (State.callCheck_call _).sameQueue
  · exact .refl s

theorem State.endPeriod_keeps (s : State) (ho : s.onLine = true) : s.KeepsQueue s.endPeriod := by
  have hn : SameQueue s s.nextPeriod := .of_eq rfl rfl rfl rfl rfl rfl
  have hd := (State.computeDemand_same s.nextPeriod.account).trans (State.reevaluate_same _)
  have hl := (State.countNotReady_same s.nextPeriod.account.computeDemand.reevaluate).trans
    ((State.latchSetpoint_same _).trans (State.tailAfterPeriod_same _))
  exact (hn.keepsQueue.trans (State.account_keeps _ (hn.onLine.trans ho))).trans (hd.trans hl).keepsQueue

/-! ### Going on line (R170, R172) -/

theorem serialsOf_replicate {x : Slot} (h : x.bind Record.serial = none) (k : Nat) :
    serialsOf (List.replicate k x) = [] := by
  induction k with
  | zero => rfl
  | succ k ih =>
    unfold serialsOf at ih ⊢
    rw [List.replicate_succ, List.filterMap_cons, h]
    exact ih

/-- R17, R96: the next serial a head starts with. -/
theorem Head.reset_nextSerial_range : 1 ≤ Head.reset.nextSerial ∧ Head.reset.nextSerial ≤ 65535 := by decide

/-- R1, R21, R22: a queue of K_p slots created at an on-line station with a valid image and its target table. -/
theorem State.createQueue_queueSound {s : State} {slots : List Slot} (last : Half) (himage : s.ImageOk)
    (hhas : s.svi.image.isSome = true) (ho : s.onLine = true) (hplace : s.ldu.position.isSome = true)
    (hlength : slots.length = s.slotCount) (htargets : s.tau.targets = some s.img.targetTable)
    (hranges : ∀ r, some r ∈ slots → r.RangesOk s.pos.val)
    (hnext : 1 ≤ s.head.nextSerial ∧ s.head.nextSerial ≤ 65535) : (s.createQueue slots last).QueueSound :=
  ⟨himage, ⟨fun _ => hhas, fun _ => ⟨hplace, hlength⟩, fun hf => absurd (ho.symm.trans hf) (by decide)⟩, fun _ => htargets,
    hranges, hnext⟩

theorem State.headTakesPool_same (s : State) : SameQueue s s.headTakesPool := by
  unfold State.headTakesPool
  split
  · exact s.setCru_same _
  · exact .refl s

theorem State.discoveredTail_same (s : State) : SameQueue s s.discoveredTail := by
  unfold State.discoveredTail
  split
  · exact s.setTail_same _
  · exact .refl s

theorem State.setCheck_same (s : State) (p : Port) (c : Check) (t : Option Time) : SameQueue s (s.setCheck p c t) :=
  s.setPort_same _ _

theorem State.settlePort_same (s : State) (p : Port) : SameQueue s (s.settlePort p) := by
  unfold State.settlePort
  split
  · split
    · exact s.setCheck_same _ _ _
    · exact s.raiseOwn_same _
  · exact .refl s

theorem State.settleOtherPort_same (s : State) (p : Port) : SameQueue s (s.settleOtherPort p) := by
  unfold State.settleOtherPort
  split
  · exact (s.setCheck_same _ _ _).trans (State.raiseOwn_same _ _)
  · exact .refl s

theorem State.raiseTrips_same (s : State) : SameQueue s s.raiseTrips := by
  unfold State.raiseTrips
  extract_lets t
  have ht : SameQueue s t := by
    dsimp only [t]
    split
    · exact (s.raiseOwn_same _).trans (State.count_same _ _)
    · exact .refl s
  split
  · exact ht.trans ((t.raiseOwn_same _).trans (State.count_same _ _))
  · exact ht

theorem State.openLine_same (s : State) (ho : s.onLine = true) : SameQueue s s.openLine :=
  ((s.enterMode_same _ ho).trans (State.latchSetpoint_same _)).trans (State.preview_exit _).sameQueue

/-- R170: a station in DISCOVER goes on line with a sound queue of GAPs. -/
theorem State.discover_keeps (s : State) (p : Fin 16) (n : Nat) (hd : s.ldu.state = .discover) :
    s.KeepsQueue (s.discover p n) := by
  unfold State.discover
  extract_lets t u
  have ht : SameQueue (s.createUnits p n) t := (State.headTakesPool_same _).trans (State.discoveredTail_same _)
  have hu : s.KeepsQueue u := by
    refine ⟨fun _ => ?_, fun ⟨himage, ⟨hhas, _⟩, _⟩ => State.createQueue_queueSound 0 ?_ ?_ (ht.onLine.trans rfl) ?_ ?_ ?_ ?_ ?_⟩
    · show (serialsOf (List.replicate t.slotCount none)).Nodup
      rw [serialsOf_replicate rfl]
      exact List.nodup_nil
    · exact ht.imageOk himage
    · rw [ht.image]; exact hhas (.inr hd)
    · rw [ht.position rfl]; rfl
    · exact List.length_replicate
    · rw [ht.targets rfl, ht.img]; rfl
    · intro r hr
      exact absurd (List.eq_of_mem_replicate hr) (by simp)
    · rw [ht.nextSerial]; exact Head.reset_nextSerial_range
  have hw : SameQueue u (((u.settlePort .up).settlePort .down).raiseTrips) :=
    ((u.settlePort_same .up).trans (State.settlePort_same _ _)).trans (State.raiseTrips_same _)
  have hou : u.onLine = true := ht.onLine.trans rfl
  exact hu.trans ((hw.trans (State.openLine_same _ (hw.onLine.trans hou))).trans (State.count_same _ _)).keepsQueue

theorem rejoinSerial_range (h : Hello) : 1 ≤ rejoinSerial h ∧ rejoinSerial h ≤ 65535 := by
  unfold rejoinSerial
  split
  · exact serialAfter_range _
  · exact ⟨Nat.le_refl 1, by decide⟩

/-- R22, R102: the ends of a rejoin change the head's next serial and the tail. -/
theorem State.rejoinEnds_eq (s : State) (h : Hello) : ∃ n x,
    s.rejoinEnds h = { s with head := { s.head with nextSerial := n }, tail := x } ∧
    (n = s.head.nextSerial ∨ n = rejoinSerial h) := by
  unfold State.rejoinEnds
  extract_lets src t
  have ht : ∃ n, t = { s with head := { s.head with nextSerial := n } } ∧ (n = s.head.nextSerial ∨ n = rejoinSerial h) := by
    dsimp only [t]
    split
    · exact ⟨_, rfl, .inr rfl⟩
    · exact ⟨_, rfl, .inl rfl⟩
  obtain ⟨n, hn, hcase⟩ := ht
  rw [hn]
  split
  · exact ⟨n, _, rfl, hcase⟩
  · exact ⟨n, _, rfl, hcase⟩

theorem State.nextFree_same (s : State) : SameQueue s s.nextFree := .of_eq rfl rfl rfl rfl rfl rfl

theorem State.sendHello_same (s : State) (p : Port) : SameQueue s (s.sendHello p) :=
  (s.offerCountTaken_link _ _ _).sameQueue.trans (State.nextFree_same _)

theorem State.startCheck_same (s : State) (p : Port) : SameQueue s (s.startCheck p) :=
  (s.sendHello_same p).trans (State.setCheck_same _ _ _ _)

/-- R172: a station in DISCOVER rejoins with a sound queue of placeholders. -/
theorem State.rejoin_keeps (s : State) (p : Port) (q : Fin 16) (h : Hello) (hd : s.ldu.state = .discover) :
    s.KeepsQueue (s.rejoin p q h) := by
  unfold State.rejoin
  obtain ⟨next, tail, heq, hnext⟩ := (s.createUnits q h.n.toNat).rejoinEnds_eq h
  rw [heq]
  extract_lets src t u v w
  have hv : s.KeepsQueue v := by
    refine ⟨fun _ => ?_, fun ⟨himage, ⟨hhas, _⟩, _⟩ => ?_⟩
    · show (serialsOf (List.replicate u.slotCount (some (u.placeholder none)))).Nodup
      rw [serialsOf_replicate rfl]
      exact List.nodup_nil
    · have hhas' : u.svi.image.isSome = true := hhas (.inr hd)
      obtain ⟨img, hi⟩ := Option.isSome_iff_exists.mp hhas'
      have himg : u.img = img := by unfold State.img; rw [hi]; rfl
      have hvalid : u.img.firstFailure = none := himg ▸ himage img hi
      refine State.createQueue_queueSound (s := u) _ himage hhas' rfl rfl List.length_replicate rfl (fun r hr => ?_) ?_
      · rw [Option.some.inj (List.eq_of_mem_replicate hr)]
        exact State.placeholder_rangesOk hvalid rfl none _
      · rcases hnext with rfl | rfl
        · exact Head.reset_nextSerial_range
        · exact rejoinSerial_range h
  have hx : SameQueue v (((v.setCheck p .passed none).settleOtherPort p.other).raiseTrips) :=
    ((v.setCheck_same _ _ _).trans (State.settleOtherPort_same _ _)).trans (State.raiseTrips_same _)
  have hw : SameQueue v w := hx.trans (State.openLine_same _ (hx.onLine.trans rfl))
  have hfree (y : State) : SameQueue y (y.count .rejoins).nextFree := (y.count_same .rejoins).trans (State.nextFree_same _)
  refine (hv.trans hw.keepsQueue).trans (SameQueue.trans ?_ (hfree _)).keepsQueue
  split
  · exact w.startCheck_same _
  · exact .refl w

/-! ### Line discovery (R165 to R173) -/

theorem State.onLine_of_discover {s : State} (hd : s.ldu.state = .discover) : s.onLine = false := by
  unfold State.onLine; rw [hd]; rfl

/-- Off line neither the place nor the target table is read. -/
theorem SameQueue.of_offLine {s t : State} (hs : s.onLine = false) (ht : t.onLine = false)
    (image : t.svi.image = s.svi.image) (discover : t.ldu.state = .discover → s.ldu.state = .discover)
    (nextSerial : t.head.nextSerial = s.head.nextSerial) (slots : t.cq.slots = s.cq.slots) : SameQueue s t where
  image := image
  onLine := ht.trans hs.symm
  discover := discover
  position := fun ho => absurd (hs.symm.trans ho) (by decide)
  targets := fun ho => absurd (hs.symm.trans ho) (by decide)
  nextSerial := nextSerial
  slots := slots

/-- A station in DISCOVER that changes its other items of line discovery. -/
theorem State.setLdu_same (s : State) (x : Ldu) (hd : s.ldu.state = .discover) (hx : x.state = .discover) :
    SameQueue s { s with ldu := x } :=
  .of_offLine (State.onLine_of_discover hd) (by unfold State.onLine; rw [hx]; rfl) rfl (fun _ => hd) rfl rfl

theorem State.enterFault_same (s : State) (r : FaultReason) (hd : s.ldu.state = .discover) : SameQueue s (s.enterFault r) :=
  .of_offLine (State.onLine_of_discover hd) rfl rfl (fun _ => hd) rfl rfl

theorem State.discoverOrBudget_keeps (s : State) (n : Nat) (hd : s.ldu.state = .discover) :
    s.KeepsQueue (s.discoverOrBudget n) := by
  unfold State.discoverOrBudget
  extract_lets src t
  have ht : SameQueue s t := s.setLdu_same _ hd hd
  split
  · exact (ht.trans (t.enterFault_same _ hd)).keepsQueue
  · exact ht.keepsQueue.trans (t.discover_keeps _ _ hd)

theorem State.headPos_same (s : State) : SameQueue s s.headPos := by
  unfold State.headPos
  extract_lets t src
  have ht : SameQueue s t := (s.offerCountTaken_link _ _ _).sameQueue
  exact ht.trans (.of_eq rfl rfl rfl rfl rfl rfl)

theorem State.headDecision_keeps (s : State) (hd : s.ldu.state = .discover) : s.KeepsQueue s.headDecision := by
  unfold State.headDecision State.becomeHead
  split
  · extract_lets src t
    have ht : SameQueue s t := s.setLdu_same _ hd hd
    split
    · exact (ht.trans t.headPos_same).keepsQueue
    · exact ht.keepsQueue.trans (t.discoverOrBudget_keeps _ hd)
  · exact .refl s

theorem State.acceptCount_keeps (s : State) (n : Nat) (b : Bool) (hd : s.ldu.state = .discover) :
    s.KeepsQueue (s.acceptCount n b) := by
  unfold State.acceptCount
  split
  · exact s.discoverOrBudget_keeps n hd
  · extract_lets src t
    have ht : SameQueue s t := s.setLdu_same _ hd hd
    exact (ht.trans (t.enterFault_same _ hd)).keepsQueue

theorem State.takeCount_keeps (s : State) (n : Nat) (b : Bool) : s.KeepsQueue (s.takeCount n b) := by
  unfold State.takeCount
  split
  · rename_i h
    exact s.acceptCount_keeps n b h.1
  · exact (s.count_same _).keepsQueue

theorem State.takePlace_keeps (s : State) (q : Fin 16) (recipe : Half) (version : Byte) (b : Bool)
    (hd : s.ldu.state = .discover) : s.KeepsQueue (s.takePlace q recipe version b) := by
  unfold State.takePlace
  extract_lets src t n src2 u
  have ht : SameQueue s t := s.setLdu_same _ hd hd
  split
  · exact (ht.trans (t.offerCountTaken_link _ _ _).sameQueue).keepsQueue
  · have hu : SameQueue t u := t.setLdu_same _ hd hd
    have hc : LinkFrame u (u.offerCount n b) := u.offer_link _ _
    have hdc : (u.offerCount n b).ldu.state = .discover := by rw [hc.ldu]; exact hd
    exact ((ht.trans hu).trans hc.sameQueue).keepsQueue.trans (State.acceptCount_keeps _ _ _ hdc)

theorem State.takePos_keeps (s : State) (q : Byte) (recipe : Half) (version : Byte) (b : Bool) :
    s.KeepsQueue (s.takePos q recipe version b) := by
  unfold State.takePos State.discoverPos
  split
  · rename_i hd
    split
    · exact s.takePlace_keeps _ _ _ _ hd
    · unfold State.lineTooLong
      extract_lets src t
      have ht : SameQueue s t := s.setLdu_same _ hd hd
      exact (ht.trans (t.enterFault_same _ hd)).keepsQueue
  split
  · split
    · exact ((s.offer_link _ _).sameQueue.trans (State.count_same _ _)).keepsQueue
    · exact (s.count_same _).keepsQueue
  · split
    · exact (s.offer_link _ _).sameQueue.keepsQueue
    · exact (s.count_same _).keepsQueue

theorem State.passCheck_keeps (s : State) (p : Port) (h : Hello) (ho : s.onLine = true) : s.KeepsQueue (s.passCheck p h) := by
  unfold State.passCheck
  extract_lets t
  have ht : SameQueue s t := (s.setCheck_same _ _ _).trans (State.count_same _ _)
  exact (ht.keepsQueue.trans (t.catchUps_keeps _ (ht.onLine.trans ho))).trans
    ((State.removeOwn_same _ _).trans (State.deriveMode_same _)).keepsQueue

theorem State.hearAnswerOnLine_keeps (s : State) (p : Port) (h : Hello) (ho : s.onLine = true) :
    s.KeepsQueue (s.hearAnswerOnLine p h) := by
  unfold State.hearAnswerOnLine
  split
  · split
    · exact s.passCheck_keeps p h ho
    · exact ((s.setCheck_same _ _ _).trans (State.count_same _ _)).keepsQueue
  · exact (s.count_same _).keepsQueue

theorem State.hearAnswerDiscover_keeps (s : State) (p : Port) (h : Hello) (hd : s.ldu.state = .discover) :
    s.KeepsQueue (s.hearAnswerDiscover p h) := by
  unfold State.hearAnswerDiscover
  split
  · extract_lets src t
    have ht : SameQueue s t := s.setLdu_same _ hd hd
    split
    · split
      · exact (ht.trans (t.enterFault_same _ hd)).keepsQueue
      · exact ht.keepsQueue.trans (t.rejoin_keeps _ _ _ hd)
    · exact (ht.trans (t.count_same _)).keepsQueue
  · exact (s.count_same _).keepsQueue

theorem State.takeHello_keeps (s : State) (p : Port) (h : Hello) : s.KeepsQueue (s.takeHello p h) := by
  unfold State.takeHello
  split
  · exact (((s.offer_link _ _).sameQueue.trans (State.count_same _ _)).trans (State.nextFree_same _)).keepsQueue
  split
  · rename_i ho
    exact s.hearAnswerOnLine_keeps p h ho
  split
  · rename_i hd
    exact s.hearAnswerDiscover_keeps p h hd
  · exact (s.count_same _).keepsQueue

theorem State.sendHellos_same (s : State) : SameQueue s s.sendHellos := by
  unfold State.sendHellos
  extract_lets t
  have ht : SameQueue s t := by
    dsimp only [t]
    split
    · exact s.sendHello_same _
    · exact .refl s
  split
  · exact ht.trans (t.sendHello_same _)
  · exact ht

theorem State.repeatHellos_same (s : State) : SameQueue s s.repeatHellos := by
  unfold State.repeatHellos
  extract_lets t src
  exact s.sendHellos_same.trans (.of_eq rfl rfl rfl rfl rfl rfl)

theorem State.repeatCheck_same (s : State) (p : Port) : SameQueue s (s.repeatCheck p) := by
  unfold State.repeatCheck
  split
  · exact s.startCheck_same p
  · exact s.setCheck_same _ _ _

theorem State.settled_keeps (s : State) (hd : s.ldu.state = .discover) : s.KeepsQueue s.settled := by
  unfold State.settled
  extract_lets src t
  have ht : SameQueue s t := s.setLdu_same _ hd hd
  exact ht.keepsQueue.trans (t.headDecision_keeps hd)

/-! ### The link ports (R145 to R160) -/

theorem State.unitsLinkUp_same (s : State) (p : Port) : SameQueue s (s.unitsLinkUp p) := by
  unfold State.unitsLinkUp
  split
  · split
    · exact s.startCheck_same p
    · exact s.setCheck_same _ _ _
    · exact .refl s
  · exact .refl s

theorem State.unitsLinkDown_keeps (s : State) (p : Port) : s.KeepsQueue (s.unitsLinkDown p) := by
  unfold State.unitsLinkDown
  extract_lets t
  have ht : SameQueue s t := s.setCheck_same _ _ _
  split
  · split
    · exact ((ht.trans (t.raiseOwn_same _)).trans (State.deriveMode_same _)).keepsQueue
    · exact ht.keepsQueue
  split
  · rename_i h
    have hd : t.ldu.state = .discover := by
      have hw := h.2
      simp only [State.waitsForPos, Bool.and_eq_true, beq_iff_eq] at hw
      exact hw.1.1
    exact ht.keepsQueue.trans (t.headDecision_keeps hd)
  · exact ht.keepsQueue

theorem State.endReceive_same (s : State) (p : Port) : SameQueue s (s.endReceive p) := s.setPort_same _ _

theorem State.traceDrop_same (s : State) (p : Port) (k : ErrorKind) (v : FrameView) : SameQueue s (s.traceDrop p k v) :=
  (s.traceDrop_link p k v).sameQueue

theorem State.traceAction_same (s : State) (p : Port) (a : Action) (v : FrameView) : SameQueue s (s.traceAction p a v) :=
  (s.traceAction_link p a v).sameQueue

theorem State.carry_same (s : State) (p : Port) (f : Frame) (copied : Bool) : SameQueue s (s.carry p f copied) := by
  rw [State.carry_eq]
  exact (s.setPort_same _ _).trans (.of_eq rfl rfl rfl rfl rfl rfl)

/-- R154, R156: off line only POS, COUNT and HELLO reach a unit. -/
theorem State.disposition_reaches {s : State} {p : Port} {f : Frame}
    (h : s.disposition p f = .consume ∨ s.disposition p f = .copy) :
    s.onLine = true ∨ frameKind f = .pos ∨ frameKind f = .count ∨ frameKind f = .hello := by
  unfold State.disposition at h
  split at h
  · simp at h
  split at h
  · rename_i ho
    exact .inl ho
  split at h
  · split at h <;> simp at h
  · split at h
    · rename_i hk
      exact .inr (.inl hk)
    · rename_i hk
      exact .inr (.inr (.inr hk))
    · rename_i hk
      exact .inr (.inr (.inl hk))
    · simp at h

theorem State.unitTakes_keeps (s : State) (p : Port) (f : Frame)
    (h : s.onLine = true ∨ frameKind f = .pos ∨ frameKind f = .count ∨ frameKind f = .hello) :
    s.KeepsQueue (s.unitTakes p f) := by
  unfold State.unitTakes
  unfold frameKind at h
  split
  · exact (s.hearHold_same _ _).keepsQueue
  · exact (s.hearClear_same _ _).keepsQueue
  · rename_i hf
    rw [hf] at h
    exact s.takeStroke_keeps _ _ _ (by simpa [payloadKind] using h)
  · split
    · exact (s.takeCall_call _ _).sameQueue.keepsQueue
    · exact .refl s
  · exact s.takePos_keeps _ _ _ _
  · exact s.takeCount_keeps _ _
  · exact s.takeHello_keeps _ _
  · exact (s.answerCanvass_same _ _ _).keepsQueue
  · exact (s.takeReply_same _ _ _ _).keepsQueue
  · exact (s.takeReturn_same _).keepsQueue
  · exact (s.hearTrim_same _ _).keepsQueue

theorem State.route_keeps (s : State) (p : Port) (f : Frame) : s.KeepsQueue (s.route p f) := by
  unfold State.route
  split
  · rename_i hc
    have ht := ((s.portCount_same p .framesConsumed).trans (State.traceAction_same _ p .consumed (viewOfFrame f))).trans
      (State.endReceive_same _ p)
    exact ht.keepsQueue.trans (State.unitTakes_keeps _ _ _
      ((State.disposition_reaches (.inl hc)).imp_left ht.onLine.trans))
  · rename_i hc
    have ht := s.portCount_same p .framesConsumed
    exact (ht.keepsQueue.trans (State.unitTakes_keeps _ _ _
      ((State.disposition_reaches (.inr hc)).imp_left ht.onLine.trans))).trans
        ((State.carry_same _ _ _ _).trans (State.endReceive_same _ _)).keepsQueue
  · exact ((s.carry_same _ _ _).trans (State.endReceive_same _ _)).keepsQueue
  · exact (((s.portCount_same _ _).trans (State.traceDrop_same _ _ _ _)).trans (State.endReceive_same _ _)).keepsQueue

theorem State.dropReceived_same (s : State) (p : Port) (c : PortCounter) (k : ErrorKind) (v : FrameView) :
    SameQueue s (s.dropReceived p c k v) :=
  ((s.portCount_same p c).trans (State.traceDrop_same _ _ _ _)).trans (State.endReceive_same _ _)

theorem State.receiveFrame_keeps (s : State) (p : Port) (f : Frame) : s.KeepsQueue (s.receiveFrame p f) := by
  unfold State.receiveFrame
  split
  · exact (s.portCount_same _ _).keepsQueue.trans (State.route_keeps _ _ _)
  · exact (s.dropReceived_same _ _ _ _).keepsQueue

theorem State.linkComesUp_same (s : State) (p : Port) : SameQueue s (s.linkComesUp p) :=
  (s.setPort_same _ _).trans (State.unitsLinkUp_same _ _)

theorem State.discardAll_same (s : State) (p : Port) (fs : List (Frame × Bool)) : SameQueue s (s.discardAll p fs) := by
  induction fs generalizing s with
  | nil => exact .refl s
  | cons f rest ih =>
    refine SameQueue.trans ?_ (ih (s.discard p f))
    unfold State.discard
    extract_lets t
    have ht : SameQueue s t := (s.portCount_same _ _).trans (State.traceDrop_same _ _ _ _)
    split
    · exact ht.trans (t.countBy_same _ _)
    · exact ht

theorem State.dropAssembly_same (s : State) (p : Port) : SameQueue s (s.dropAssembly p) := by
  unfold State.dropAssembly
  split
  · exact s.endReceive_same p
  · exact .refl s

theorem State.linkGoesDown_keeps (s : State) (p : Port) (c : PortCounter) : s.KeepsQueue (s.linkGoesDown p c) := by
  unfold State.linkGoesDown
  extract_lets t x u
  have ht : SameQueue s t := ((s.portCount_same _ _).trans (State.discardAll_same _ _ _)).trans (State.dropAssembly_same _ _)
  have hu : SameQueue t u := t.setPort_same _ _
  exact (ht.trans hu).keepsQueue.trans (u.unitsLinkDown_keeps p)

theorem State.setReceiver_same (s : State) (p : Port) (r : Receiver) : SameQueue s (s.setReceiver p r) := s.setPort_same _ _

theorem State.dropOpen_same (s : State) (p : Port) (got : List Byte) (c : PortCounter) (k : ErrorKind) :
    SameQueue s (s.dropOpen p got c k) := (s.setReceiver_same _ _).trans (State.dropReceived_same _ _ _ _ _)

theorem State.completeFrame_keeps (s : State) (p : Port) (got : List Byte) : s.KeepsQueue (s.completeFrame p got) := by
  unfold State.completeFrame
  extract_lets t body
  have ht : s.KeepsQueue t := (s.setReceiver_same _ _).keepsQueue
  have hdrop (c : PortCounter) (k : ErrorKind) : s.KeepsQueue (t.dropReceived p c k (viewOfBytes got)) :=
    ht.trans (t.dropReceived_same _ _ _ _).keepsQueue
  split
  · split
    · exact hdrop _ _
    · split
      · split
        · exact ht.trans (t.receiveFrame_keeps _ _)
        · exact hdrop _ _
      · exact hdrop _ _
  · exact hdrop _ _

theorem State.collect_keeps (s : State) (p : Port) (got : List Byte) (b : Byte) : s.KeepsQueue (s.collect p got b) := by
  unfold State.collect
  extract_lets got'
  split
  · split
    · exact (s.dropOpen_same _ _ _ _).keepsQueue
    split
    · exact s.completeFrame_keeps _ _
    · exact (s.setReceiver_same _ _).keepsQueue
  · exact (s.setReceiver_same _ _).keepsQueue

theorem State.receiverTakes_keeps (s : State) (p : Port) (c : CharSort) : s.KeepsQueue (s.receiverTakes p c) := by
  unfold State.receiverTakes
  split
  · exact (s.dropOpen_same _ _ _ _).keepsQueue
  · exact .refl s
  · exact ((s.dropOpen_same _ _ _ _).trans (State.setReceiver_same _ _ _)).keepsQueue
  · exact (s.setReceiver_same _ _).keepsQueue
  · exact s.collect_keeps _ _ _
  · exact (s.portCount_same _ _).keepsQueue
  · exact (s.dropOpen_same _ _ _ _).keepsQueue
  · exact .refl s

theorem State.errorChar_keeps (s : State) (p : Port) : s.KeepsQueue (s.errorChar p) := by
  unfold State.errorChar
  extract_lets t u n src v
  have ht : SameQueue s t := s.portCount_same _ _
  split
  · have hv : s.KeepsQueue v := (ht.keepsQueue.trans (t.receiverTakes_keeps _ _)).trans (u.setPort_same _ _).keepsQueue
    split
    · exact hv.trans (v.linkGoesDown_keeps _ _)
    · exact hv
  · exact (ht.trans (t.setPort_same _ _)).keepsQueue

theorem State.noteValid_same (s : State) (p : Port) : SameQueue s (s.noteValid p) := s.setPort_same _ _

theorem State.validWhileDown_same (s : State) (p : Port) (c : CharSort) : SameQueue s (s.validWhileDown p c) := by
  unfold State.validWhileDown
  extract_lets t n
  have ht : SameQueue s t := (s.noteStray_link p c).sameQueue
  split
  · exact ht
  split
  · exact ht.trans (t.linkComesUp_same _)
  · exact ht.trans (t.setPort_same _ _)

theorem State.validChar_keeps (s : State) (p : Port) (c : CharSort) : s.KeepsQueue (s.validChar p c) := by
  unfold State.validChar
  split
  · exact (s.noteValid_same p).keepsQueue.trans (State.receiverTakes_keeps _ _ _)
  · exact (s.validWhileDown_same _ _).keepsQueue

theorem State.receiveChar_keeps (s : State) (p : Port) (c : RawChar) : s.KeepsQueue (s.receiveChar p c) := by
  unfold State.receiveChar
  split
  · exact s.errorChar_keeps p
  · exact s.validChar_keeps _ _
  · exact s.validChar_keeps _ _
  · exact s.validChar_keeps _ _

theorem State.frameArrives_keeps (s : State) (a : Arrival) (x : Payload) : s.KeepsQueue (s.frameArrives a x) := by
  unfold State.frameArrives
  split
  · exact ((s.noteValid_same _).trans (State.setReceiver_same _ _ _)).keepsQueue.trans (State.receiveFrame_keeps _ _ _)
  · exact .refl s

theorem State.egress_same (s : State) (p : Port) : SameQueue s (s.egress p) := by
  unfold State.egress State.sendLocal State.sendForward
  split
  · exact s.setPort_same _ _
  · exact s.setPort_same _ _
  · exact s.setPort_same _ _
  · split
    · split
      · exact s.setPort_same _ _
      · exact (s.setPort_same _ _).trans (State.portCount_same _ _ _)
    · exact s.setPort_same _ _

theorem State.becomeFree_same (s : State) (p : Port) : SameQueue s (s.becomeFree p) := by
  have hsent : SameQueue s (s.frameSent p) := by
    unfold State.frameSent
    split
    · exact s.setPort_same _ _
    · exact .refl s
    · exact .refl s
  unfold State.becomeFree
  split
  · exact hsent.trans (State.egress_same _ _)
  · exact .refl s

/-! ### The service port (R182 to R187) -/

/-- A command of the service port keeps the coil queue sound in the states that take it. -/
def Service.KeepsQueue (c : Service) : Prop :=
  ∀ (s : State) (payload : List Byte), c.takenIn s = true → s.KeepsQueue (c.run s payload).state

theorem readService_keeps (data : State → List Byte) : (readService data).KeepsQueue := fun s _ _ => .refl s

theorem readExitLogService_keeps : readExitLogService.KeepsQueue := by
  intro s payload _
  unfold readExitLogService
  dsimp only
  split <;> exact .refl s

theorem readCountersService_keeps : readCountersService.KeepsQueue := by
  intro s payload _
  unfold readCountersService
  dsimp only
  split <;> exact .refl s

theorem readTraceService_keeps : readTraceService.KeepsQueue := by
  intro s payload _
  unfold readTraceService
  dsimp only
  split <;> exact .refl s

/-- R165, R184: a station that returns to CONFIG with the image it then holds, if that is valid. -/
theorem State.returnToConfig_keeps {s t : State} (hs : s.onLine = false) (himage : s.ImageOk → t.ImageOk)
    (hslots : t.cq.slots = s.cq.slots) (hnext : t.head.nextSerial = s.head.nextSerial) : s.KeepsQueue t.returnToConfig := by
  refine ⟨fun hn => ?_, fun ⟨hi, ⟨_, _, hoff⟩, _, _, hrange⟩ => ?_⟩
  · have : (serialsOf t.cq.slots).Nodup := by rw [hslots]; exact hn
    exact this
  · have hrange' : 1 ≤ t.head.nextSerial ∧ t.head.nextSerial ≤ 65535 := by rw [hnext]; exact hrange
    exact State.queueSound_of_offLine (s := t.returnToConfig) rfl (himage hi) (fun h => by cases h)
      (hslots.trans (hoff hs)) hrange'

theorem loadImageService_keeps : loadImageService.KeepsQueue := by
  intro s payload htaken
  have hs : s.onLine = false := by
    simp only [loadImageService, Bool.or_eq_true, beq_iff_eq] at htaken
    unfold State.onLine
    rcases htaken with h | h <;> rw [h] <;> rfl
  unfold loadImageService
  dsimp only
  split
  · rename_i hvalid
    exact State.returnToConfig_keeps hs (fun _ img h => Option.some.inj h ▸ hvalid) rfl rfl
  · exact State.returnToConfig_keeps hs (fun _ img h => by cases h) rfl rfl

theorem startService_keeps : startService.KeepsQueue := by
  intro s payload htaken
  simp only [startService, Bool.and_eq_true, beq_iff_eq] at htaken
  obtain ⟨hconfig, hhas⟩ := htaken
  have hs : s.onLine = false := by unfold State.onLine; rw [hconfig]; rfl
  show s.KeepsQueue s.startDiscovery
  unfold State.startDiscovery
  extract_lets src t
  have ht : s.KeepsQueue t :=
    ⟨id, fun ⟨hi, ⟨_, _, hoff⟩, _, _, hnext⟩ => State.queueSound_of_offLine (s := t) rfl hi (fun _ => hhas) (hoff hs) hnext⟩
  exact ht.trans t.sendHellos_same.keepsQueue

theorem clearCountersService_keeps : clearCountersService.KeepsQueue := fun s _ _ =>
  have h : SameQueue s s.zeroCounters := .of_eq rfl rfl rfl rfl rfl rfl
  (h.trans (State.count_same _ _)).keepsQueue

theorem clearResetCauseService_keeps : clearResetCauseService.KeepsQueue := fun _ _ _ =>
  SameQueue.keepsQueue (.of_eq rfl rfl rfl rfl rfl rfl)

theorem traceSetupService_keeps : traceSetupService.KeepsQueue := by
  intro s payload _
  unfold traceSetupService
  dsimp only
  split
  · exact SameQueue.keepsQueue (.of_eq rfl rfl rfl rfl rfl rfl)
  · exact .refl s

theorem traceArmService_keeps : traceArmService.KeepsQueue := fun _ _ _ =>
  SameQueue.keepsQueue (.of_eq rfl rfl rfl rfl rfl rfl)

theorem traceStopService_keeps : traceStopService.KeepsQueue := fun _ _ _ =>
  SameQueue.keepsQueue (.of_eq rfl rfl rfl rfl rfl rfl)

/-- R183, R190: every command byte names a command that keeps the coil queue sound. -/
theorem serviceOf_keeps {code : Byte} {c : Service} (h : serviceOf code = some c) : c.KeepsQueue := by
  unfold serviceOf at h
  split at h <;> cases h
  · exact readService_keeps _
  · exact loadImageService_keeps
  · exact startService_keeps
  · exact readService_keeps _
  · exact readService_keeps _
  · exact readExitLogService_keeps
  · exact readCountersService_keeps
  · exact clearCountersService_keeps
  · exact clearResetCauseService_keeps
  · exact traceSetupService_keeps
  · exact traceArmService_keeps
  · exact traceStopService_keeps
  · exact readTraceService_keeps

theorem State.answerRequest_keeps (s : State) (code : Byte) {svc : Option Service} (h : ∀ c, svc = some c → c.KeepsQueue)
    (r : Request) : s.KeepsQueue (s.answerRequest code svc r).state := by
  unfold State.answerRequest
  split
  · exact .refl s
  split
  · exact .refl s
  · rename_i c
    split
    · exact .refl s
    split
    · exact .refl s
    · rename_i htaken
      exact h c rfl s r.payload (by simpa using htaken)

theorem State.takeRequest_keeps (s : State) (code : Byte) {svc : Option Service} (h : ∀ c, svc = some c → c.KeepsQueue)
    (r : Request) : s.KeepsQueue (s.takeRequest code svc r) := by
  have hrespond (a : Answer) : SameQueue a.state (State.respond a) := by
    unfold State.respond
    refine SameQueue.trans ?_ (State.setSvcReceiver_same _ _)
    split
    · exact .refl _
    · exact State.count_same _ _
  exact ((s.count_same _).keepsQueue.trans (State.answerRequest_keeps _ code h r)).trans (hrespond _).keepsQueue

theorem State.abandonRequest_same (s : State) : SameQueue s s.abandonRequest :=
  (s.count_same _).trans (State.setSvcReceiver_same _ _)

theorem State.requestArrives_keeps (s : State) (code : Byte) {svc : Option Service} (h : ∀ c, svc = some c → c.KeepsQueue)
    (r : Request) : s.KeepsQueue (s.requestArrives code svc r) := by
  have htake : s.KeepsQueue (if 1024 < r.payload.length then s.abandonRequest else s.takeRequest code svc r) := by
    split
    · exact s.abandonRequest_same.keepsQueue
    · exact s.takeRequest_keeps code h r
  unfold State.requestArrives
  split
  · exact (s.countBy_same _ _).keepsQueue
  · exact htake
  · exact htake

theorem State.huntByte_same (s : State) (b : Byte) : SameQueue s (s.huntByte b) := by
  unfold State.huntByte
  split
  · exact s.setSvcReceiver_same _
  · exact s.count_same _

theorem State.serviceByte_keeps (s : State) (b : Byte) : s.KeepsQueue (s.serviceByte b) := by
  unfold State.serviceByte State.collectByte
  split
  · exact (s.huntByte_same b).keepsQueue
  · split
    · exact (s.abandonRequest_same.trans (State.huntByte_same _ _)).keepsQueue
    split
    · exact (s.setSvcReceiver_same _).keepsQueue
    split
    · exact s.abandonRequest_same.keepsQueue
    split
    · exact (s.setSvcReceiver_same _).keepsQueue
    · exact s.takeRequest_keeps _ (fun _ => serviceOf_keeps) _
  · exact (s.count_same _).keepsQueue

theorem State.gapExpires_same (s : State) : SameQueue s s.gapExpires := by
  unfold State.gapExpires
  split
  · split
    · exact s.abandonRequest_same
    · exact .refl s
  · exact .refl s
  · exact .refl s

theorem State.responseSent_same (s : State) : SameQueue s s.responseSent := by
  unfold State.responseSent
  split
  · exact s.setSvcReceiver_same _
  · exact .refl s
  · exact .refl s

end Sys2Proof.Machine
end

section
/-!
PROOFS. The step keeps the coil queue sound (O11), and what a reset leaves (O6, O7).
-/

namespace Sys2Proof.Machine

/-! ### Every command keeps the coil queue sound -/

/-- R20, R184: a reset leaves no slot, no image, and the first serial. -/
theorem State.afterReset_keeps (s : State) (powerOn resetPin : Bool) : s.KeepsQueue (s.afterReset powerOn resetPin) :=
  ⟨fun _ => List.nodup_nil, fun _ => State.queueSound_of_offLine rfl (fun _ h => by cases h) (fun h => by cases h) rfl
    Head.reset_nextSerial_range⟩

/-- What is presented with a command is not read by the invariants. -/
theorem State.KeepsQueue.of_observe {s t : State} {e : Env} (h : (s.observe e).KeepsQueue t) : s.KeepsQueue t :=
  (s.observe_same e).keepsQueue.trans h

/-- An event that acts under a condition alone. -/
theorem State.KeepsQueue.ite {s t : State} {p : Prop} [Decidable p] (h : p → s.KeepsQueue t) :
    s.KeepsQueue (if p then t else s) := by
  split
  · rename_i hp
    exact h hp
  · exact .refl s

theorem State.onLine_of_and {s : State} {b : Bool} (h : (s.onLine && b) = true) : s.onLine = true :=
  (Bool.and_eq_true_iff.mp h).1

theorem State.onLine_of_tracks {s : State} {b : Bool} (h : (s.tracks && b) = true) : s.onLine = true := by
  simp only [State.tracks, Bool.and_eq_true] at h
  obtain ⟨⟨⟨hon, -⟩, -⟩, -⟩ := h
  exact hon

/-- A level of a plant line is not read by the invariants. -/
theorem State.setPins_same (s : State) (x : Pins) : SameQueue s { s with pins := x } := .of_eq rfl rfl rfl rfl rfl rfl

theorem execPushed_keeps (e : Env) (s : State) : ∃ t, execPushed e s = .next t ∧ s.KeepsQueue t := by
  refine ⟨_, rfl, .of_observe (e := e) ?_⟩
  split
  · rename_i h
    exact State.takePushed_keeps _ (State.onLine_of_and h)
  · exact (State.count_same _ _).keepsQueue

theorem execSampleDeadlineExpiry_keeps (e : Env) (s : State) :
    ∃ t, execSampleDeadlineExpiry e s = .next t ∧ s.KeepsQueue t := by
  refine ⟨_, rfl, .of_observe (e := e) ?_⟩
  split
  · exact (State.takeSample_exit _ _).sameQueue.keepsQueue
  · exact .refl _

theorem execCanvassDeadlineExpiry_keeps (e : Env) (s : State) :
    ∃ t, execCanvassDeadlineExpiry e s = .next t ∧ s.KeepsQueue t := by
  refine ⟨_, rfl, .of_observe (e := e) ?_⟩
  split
  · exact (State.closeCanvass_same _ _ _).keepsQueue
  · exact .refl _

theorem State.refreshOwn_same (s : State) : SameQueue s s.refreshOwn :=
  (s.repeatOwn_link s.hlu.entries).sameQueue.trans (State.setHlu_same _ _)

theorem State.takeEstop_same (s : State) : SameQueue s s.takeEstop :=
  ((s.tripInverter_same.trans (State.raiseOwn_same _ _)).trans (State.count_same _ _)).trans (State.deriveMode_same _)

theorem State.takeFault_same (s : State) : SameQueue s s.takeFault :=
  ((s.tripInverter_same.trans (State.raiseOwn_same _ _)).trans (State.count_same _ _)).trans (State.deriveMode_same _)

theorem State.takeNotReady_same (s : State) : SameQueue s s.takeNotReady := .of_eq rfl rfl rfl rfl rfl rfl

theorem State.expireHeard_same (s : State) (c : Cause) (origin : Byte) :
    SameQueue s ((s.dropHeard c origin).count .holdExpiries).deriveMode :=
  ((s.setHlu_same _).trans (State.count_same _ .holdExpiries)).trans (State.deriveMode_same _)

theorem execLinkUp_keeps (e : Env) (p : Port) (s : State) : ∃ t, execLinkUp e p s = .next t ∧ s.KeepsQueue t := by
  refine ⟨_, rfl, .of_observe (e := e) ?_⟩
  split
  · exact .refl _
  · exact (State.linkComesUp_same _ _).keepsQueue

/-- Every command answers a state that the invariants of the coil queue pass to. -/
theorem exec_keeps (c : Instr) (s : State) : ∃ t, exec c s = .next t ∧ s.KeepsQueue t := by
  have request (e : Env) (code : Byte) {svc : Service} (r : Request) (h : svc.KeepsQueue) :
      s.KeepsQueue ((s.observe e).requestArrives code (some svc) r) :=
    .of_observe (State.requestArrives_keeps _ _ (fun _ hc => Option.some.inj hc ▸ h) r)
  cases c with
  | powerOn e => exact ⟨_, rfl, .of_observe (State.afterReset_keeps (s.observe e) _ _)⟩
  | resetPin e => exact ⟨_, rfl, .of_observe (State.afterReset_keeps (s.observe e) _ _)⟩
  | identify e r => exact ⟨_, rfl, request e _ r (readService_keeps _)⟩
  | loadImage e r => exact ⟨_, rfl, request e _ r loadImageService_keeps⟩
  | start e r => exact ⟨_, rfl, request e _ r startService_keeps⟩
  | readStatus e r => exact ⟨_, rfl, request e _ r (readService_keeps _)⟩
  | readQueue e r => exact ⟨_, rfl, request e _ r (readService_keeps _)⟩
  | readExitLog e r => exact ⟨_, rfl, request e _ r readExitLogService_keeps⟩
  | readCounters e r => exact ⟨_, rfl, request e _ r readCountersService_keeps⟩
  | clearCounters e r => exact ⟨_, rfl, request e _ r clearCountersService_keeps⟩
  | clearResetCause e r => exact ⟨_, rfl, request e _ r clearResetCauseService_keeps⟩
  | traceSetup e r => exact ⟨_, rfl, request e _ r traceSetupService_keeps⟩
  | traceArm e r => exact ⟨_, rfl, request e _ r traceArmService_keeps⟩
  | traceStop e r => exact ⟨_, rfl, request e _ r traceStopService_keeps⟩
  | readTrace e r => exact ⟨_, rfl, request e _ r readTraceService_keeps⟩
  | unknownCommand e code r =>
    exact ⟨_, rfl, .of_observe (State.requestArrives_keeps (s.observe e) _ (fun _ => serviceOf_keeps) r)⟩
  | serviceAbandoned e => exact ⟨_, rfl, .of_observe (State.gapExpires_same (s.observe e)).keepsQueue⟩
  | serviceResponseSent e => exact ⟨_, rfl, .of_observe (State.responseSent_same (s.observe e)).keepsQueue⟩
  | serviceByteReceived e b => exact ⟨_, rfl, .of_observe (State.serviceByte_keeps (s.observe e) b)⟩
  | periodEnd e => exact ⟨_, rfl, .of_observe (e := e) (.ite fun h => State.endPeriod_keeps _ (State.onLine_of_and h))⟩
  | estopAsserted e =>
    exact ⟨_, rfl, .of_observe (e := e) ((State.setPins_same _ _).keepsQueue.trans
      (.ite fun _ => (State.takeEstop_same _).keepsQueue))⟩
  | estopReleased e => exact ⟨_, rfl, .of_observe (e := e) (State.setPins_same _ _).keepsQueue⟩
  | faultHigh e =>
    exact ⟨_, rfl, .of_observe (e := e) ((State.setPins_same _ _).keepsQueue.trans
      (.ite fun _ => (State.takeFault_same _).keepsQueue))⟩
  | faultLow e => exact ⟨_, rfl, .of_observe (e := e) (State.setPins_same _ _).keepsQueue⟩
  | readyLow e =>
    exact ⟨_, rfl, .of_observe (e := e) ((State.setPins_same _ _).keepsQueue.trans
      (.ite fun _ => (State.takeNotReady_same _).keepsQueue))⟩
  | readyHigh e => exact ⟨_, rfl, .of_observe (e := e) (State.setPins_same _ _).keepsQueue⟩
  | tripReset e =>
    exact ⟨_, rfl, .of_observe (e := e) ((State.setPins_same _ _).keepsQueue.trans
      (.ite fun _ => (State.resetTrip_same _).keepsQueue))⟩
  | motionEdge e => exact ⟨_, rfl, .of_observe (State.takeMotion_same (s.observe e)).keepsQueue⟩
  | pushed e => exact execPushed_keeps e s
  | pressCall e => exact ⟨_, rfl, .of_observe (e := e) (.ite fun _ => (State.takePressCall_same _).keepsQueue)⟩
  | motionDeadlineExpiry e =>
    exact ⟨_, rfl, .of_observe (e := e) (.ite fun h => State.selfStroke_keeps _ (State.onLine_of_tracks h))⟩
  | confirmDeadlineExpiry e => exact ⟨_, rfl, .of_observe (e := e) (.ite fun _ => (State.giveUpConfirm_same _).keepsQueue)⟩
  | pusherTimeout e => exact ⟨_, rfl, .of_observe (e := e) (.ite fun _ => (State.pusherTimesOut_same _).keepsQueue)⟩
  | pushPulseEnd e => exact ⟨_, rfl, .of_observe (e := e) (.ite fun _ => (State.setHead_same _ _ rfl).keepsQueue)⟩
  | callTimerExpiry e => exact ⟨_, rfl, .of_observe (e := e) (.ite fun _ => (State.callTimeout_same _).keepsQueue)⟩
  | fillTimerExpiry e => exact ⟨_, rfl, .of_observe (e := e) (.ite fun _ => (State.fillExpires_same _).keepsQueue)⟩
  | pressIdleExpiry e => exact ⟨_, rfl, .of_observe (e := e) (.ite fun _ => (State.pressIdles_same _).keepsQueue)⟩
  | sampleDeadlineExpiry e => exact execSampleDeadlineExpiry_keeps e s
  | deliveredPulseEnd e => exact ⟨_, rfl, .of_observe (State.stepPulse_same (s.observe e)).keepsQueue⟩
  | canvassDeadlineExpiry e => exact execCanvassDeadlineExpiry_keeps e s
  | backoffExpiry e => exact ⟨_, rfl, .of_observe (e := e) (.ite fun _ => (State.setCru_same _ _).keepsQueue)⟩
  | recanvassExpiry e => exact ⟨_, rfl, .of_observe (e := e) (.ite fun _ => (State.setCru_same _ _).keepsQueue)⟩
  | refreshTimerExpiry e => exact ⟨_, rfl, .of_observe (e := e) (.ite fun _ => (State.refreshOwn_same _).keepsQueue)⟩
  | holdExpiry e cause origin =>
    exact ⟨_, rfl, .of_observe (e := e) (.ite fun _ => (State.expireHeard_same _ cause origin).keepsQueue)⟩
  | settleExpiry e =>
    exact ⟨_, rfl, .of_observe (e := e) (.ite fun h => State.settled_keeps _ (by simpa using (Bool.and_eq_true_iff.mp h).1))⟩
  | helloTimerExpiry e => exact ⟨_, rfl, .of_observe (e := e) (.ite fun _ => (State.repeatHellos_same _).keepsQueue)⟩
  | posTimerExpiry e => exact ⟨_, rfl, .of_observe (e := e) (.ite fun _ => (State.headPos_same _).keepsQueue)⟩
  | helloCheckRepeat e p => exact ⟨_, rfl, .of_observe (e := e) (.ite fun _ => (State.repeatCheck_same _ p).keepsQueue)⟩
  | linkUp e p => exact execLinkUp_keeps e p s
  | linkDownErrors e p =>
    exact ⟨_, rfl, .of_observe (e := e) (.ite fun _ =>
      (State.setPort_same _ p _).keepsQueue.trans (State.errorChar_keeps _ p))⟩
  | linkDownSilence e p => exact ⟨_, rfl, .of_observe (e := e) (.ite fun _ => State.linkGoesDown_keeps _ p _)⟩
  | breakPeriodEnd e p => exact ⟨_, rfl, .of_observe (e := e) (.ite fun _ => (State.setPort_same _ p _).keepsQueue)⟩
  | transmitterFree e p => exact ⟨_, rfl, .of_observe (State.becomeFree_same (s.observe e) p).keepsQueue⟩
  | frameDropped e p c => exact ⟨_, rfl, .of_observe (State.receiveChar_keeps (s.observe e) p c)⟩
  | characterReceived e p c => exact ⟨_, rfl, .of_observe (State.receiveChar_keeps (s.observe e) p c)⟩
  | hold e a cause origin => exact ⟨_, rfl, .of_observe (State.frameArrives_keeps (s.observe e) a _)⟩
  | clear e a cause origin => exact ⟨_, rfl, .of_observe (State.frameArrives_keeps (s.observe e) a _)⟩
  | stroke e a n synth content => exact ⟨_, rfl, .of_observe (State.frameArrives_keeps (s.observe e) a _)⟩
  | call e a kind n => exact ⟨_, rfl, .of_observe (State.frameArrives_keeps (s.observe e) a _)⟩
  | pos e a q recipe version agrees => exact ⟨_, rfl, .of_observe (State.frameArrives_keeps (s.observe e) a _)⟩
  | count e a n agrees => exact ⟨_, rfl, .of_observe (State.frameArrives_keeps (s.observe e) a _)⟩
  | hello e a h => exact ⟨_, rfl, .of_observe (State.frameArrives_keeps (s.observe e) a _)⟩
  | canvass e a origin n want => exact ⟨_, rfl, .of_observe (State.frameArrives_keeps (s.observe e) a _)⟩
  | reply e a n kind amount => exact ⟨_, rfl, .of_observe (State.frameArrives_keeps (s.observe e) a _)⟩
  | ret e a n amount => exact ⟨_, rfl, .of_observe (State.frameArrives_keeps (s.observe e) a _)⟩
  | trim e a step n => exact ⟨_, rfl, .of_observe (State.frameArrives_keeps (s.observe e) a _)⟩

theorem State.setPending_same (s : State) (cs : List Instr) : SameQueue s { s with pending := cs } :=
  .of_eq rfl rfl rfl rfl rfl rfl

/-- Settles O11: the step takes the command at the front, and every command keeps serials unique and the coil queue sound. -/
theorem stepKeepsQueueSound : Obligations.StepKeepsQueueSound := by
  intro s t h
  unfold step at h
  split at h
  · rename_i c rest _
    obtain ⟨t', ht', hkeeps⟩ := exec_keeps c { s with pending := rest }
    cases ht'.symm.trans h
    exact (s.setPending_same rest).keepsQueue.trans hkeeps
  · cases h
    exact State.KeepsQueue.refl s

/-! ### Resets -/

/-- Settles O6: either reset puts State.afterReset in place, which reads the reset values off State.reset. -/
theorem resetsGiveResetValues : Obligations.ResetsGiveResetValues := by
  intro e s c hc
  have hreset (powerOn resetPin : Bool) (p : Port) : ((s.observe e).afterReset powerOn resetPin).port p = LinkPort.reset := by
    cases p <;> rfl
  simp only [List.mem_cons, List.not_mem_nil, or_false] at hc
  rcases hc with rfl | rfl
  · exact ⟨_, rfl, rfl, rfl, rfl, rfl, rfl, rfl, rfl, rfl, rfl, rfl, rfl, rfl, rfl, rfl, hreset _ _, rfl, rfl, rfl, rfl⟩
  · exact ⟨_, rfl, rfl, rfl, rfl, rfl, rfl, rfl, rfl, rfl, rfl, rfl, rfl, rfl, rfl, rfl, hreset _ _, rfl, rfl, rfl, rfl⟩

/-- The queues of a port after a reset are empty. -/
theorem LinkPort.reset_queuesOk : LinkPort.reset.QueuesOk :=
  ⟨Nat.zero_le _, Nat.zero_le _, List.Pairwise.nil, Nat.zero_le _⟩

/-- After a reset the station is off line, so that what an invariant says of a station on line holds. -/
theorem State.reset_offLine {p : Prop} (h : State.reset.onLine = true) : p := absurd h (by decide)

/-- Settles O7: empty queues, lists and counts, zero power, and a station off line. -/
theorem resetMeetsInvariants : Obligations.ResetMeetsInvariants := by
  have hqueues : State.reset.QueuesOk := ⟨LinkPort.reset_queuesOk, LinkPort.reset_queuesOk⟩
  have hholds : State.reset.HoldListOk := ⟨Nat.zero_le _, List.Pairwise.nil, by simp [State.reset, Hlu.reset], fun _ => rfl⟩
  have henable : State.reset.EnableOk := ⟨fun h => absurd h (by decide), fun _ => rfl⟩
  have hpower : State.reset.PowerSafe :=
    ⟨State.reset_offLine, State.reset_offLine, henable, State.reset_offLine⟩
  have hring : State.reset.ltr.RingOk := ⟨by decide, rfl⟩
  have hsound : State.reset.QueueSound :=
    State.queueSound_of_offLine rfl (fun _ h => by cases h) (fun h => by cases h) rfl Head.reset_nextSerial_range
  have hcalls : State.reset.head.CallsOk := ⟨Nat.zero_le _, List.nodup_nil, by simp [State.reset, Head.reset]⟩
  have htracker : State.reset.tracker.CountsOk := ⟨Nat.zero_le _, Nat.zero_le _, by decide, by decide⟩
  have hexit : State.reset.exu.BoundsOk := ⟨Nat.zero_le _, Nat.zero_le _, Nat.zero_le _⟩
  have htrim : State.reset.tau.TrimOk := ⟨by decide, by decide⟩
  exact ⟨hqueues, hholds, hpower, hring, List.nodup_nil, hsound, hcalls, htracker, hexit, htrim, State.reset_offLine,
    State.reset_offLine⟩

end Sys2Proof.Machine
end

section
/-!
PROOFS. What the operations of a shift do exactly: the counters they move, an offer that is taken or refused, the decision of a
billet, and the call check of a line of one station (R13, R86, R97, R103 to R109, R114 to R121).
-/

namespace Sys2Proof.Machine

/-! ### The counters that an operation moves -/

/-- Every counter outside a list stands as it stood. -/
def State.CountsOnly (cs : List Counter) (s t : State) : Prop := ∀ c, c ∉ cs → t.counter c = s.counter c

theorem State.CountsOnly.trans {cs : List Counter} {s t u : State} (h : CountsOnly cs s t) (k : CountsOnly cs t u) :
    CountsOnly cs s u := fun c hc => (k c hc).trans (h c hc)

theorem State.CountsOnly.mono {cs ds : List Counter} {s t : State} (h : CountsOnly cs s t) (hsub : cs ⊆ ds) :
    CountsOnly ds s t := fun c hc => h c (fun hm => hc (hsub hm))

theorem State.CountsOnly.of_counters {cs : List Counter} {s t : State} (h : t.counters = s.counters) : CountsOnly cs s t :=
  fun c _ => by unfold State.counter; rw [h]

theorem State.CountsOnly.refl {cs : List Counter} (s : State) : CountsOnly cs s s := .of_counters rfl

theorem State.countBy_only {cs : List Counter} {c : Counter} (h : c ∈ cs) (s : State) (n : Nat) :
    CountsOnly cs s (s.countBy c n) := fun d hd => s.counter_countBy_ne c d n (fun he => hd (he ▸ h))

theorem State.count_only {cs : List Counter} {c : Counter} (h : c ∈ cs) (s : State) : CountsOnly cs s (s.count c) :=
  State.countBy_only h s 1

theorem State.counter_count (s : State) (c : Counter) : (s.count c).counter c = satAdd (s.counter c) 1 :=
  s.counter_countBy c 1

/-- A counter that is counted once, and not before or after. -/
theorem State.counter_counted {cs ds : List Counter} {s t u : State} {c : Counter} (h : CountsOnly cs s t) (hc : c ∉ cs)
    (k : CountsOnly ds (t.count c) u) (hd : c ∉ ds) : u.counter c = satAdd (s.counter c) 1 := by
  rw [k c hd, State.counter_count, h c hc]

theorem satAdd_zero (c : BitVec 32) : satAdd c 0 = c := by
  have h : min (c.toNat + 0) 4294967295 = c.toNat := by have := c.isLt; omega
  unfold satAdd
  rw [h, BitVec.ofNat_toNat, BitVec.setWidth_eq]

theorem State.countAll_only {cs ds : List Counter} (h : cs ⊆ ds) (s : State) : CountsOnly ds s (s.countAll cs) := by
  unfold State.countAll
  induction cs generalizing s with
  | nil => exact .refl s
  | cons c rest ih =>
    exact (State.count_only (h List.mem_cons_self) s).trans (ih (List.subset_of_cons_subset h) (s.count c))

/-! ### An offer to a local queue (R158, R159) -/

/-- R158: a port with room takes the offer. -/
theorem State.offer_of_hasRoom {s : State} {p : Port} (h : s.hasRoom p = true) (f : Frame) :
    s.offer p f = ⟨s.takeLocal p (s.port p).localQ f, true⟩ := by
  simp only [State.hasRoom, State.linkIsUp, Bool.and_eq_true, beq_iff_eq, bne_iff_ne, decide_eq_true_eq] at h
  obtain ⟨⟨hup, hcheck⟩, hroom⟩ := h
  have hrefuses : (s.port p).refuses f = false := by simp [LinkPort.refuses, hup, hcheck]
  unfold State.offer
  rw [if_neg (by simp [hrefuses])]
  exact if_pos hroom

/-- R158: a port whose link is DOWN refuses the offer. -/
theorem State.offer_of_linkDown {s : State} {p : Port} (h : s.linkIsUp p = false) (f : Frame) :
    s.offer p f = ⟨s.refuseLocal p f, false⟩ := by
  have hdown : (s.port p).link = .down := by
    unfold State.linkIsUp at h
    cases hl : (s.port p).link with
    | down => rfl
    | up => rw [hl] at h; exact absurd h (by decide)
  unfold State.offer
  rw [if_pos (by simp [LinkPort.refuses, hdown])]

theorem State.takeLocal_localQ (s : State) (p : Port) (q : List Frame) (f : Frame) :
    ((s.takeLocal p q f).port p).localQ = insertByClass f q := by cases p <;> rfl

theorem State.refuseLocal_localQ (s : State) (p : Port) (f : Frame) :
    ((s.refuseLocal p f).port p).localQ = (s.port p).localQ := by cases p <;> rfl

theorem State.takeLocal_counters (s : State) (p : Port) (q : List Frame) (f : Frame) :
    (s.takeLocal p q f).counters = s.counters := by cases p <;> rfl

theorem State.refuseLocal_counters (s : State) (p : Port) (f : Frame) : (s.refuseLocal p f).counters = s.counters := by
  cases p <;> rfl

/-- R81: an offer counts at most the credits a displacement restores. -/
theorem State.offer_only (s : State) (p : Port) (f : Frame) : CountsOnly [.creditsRestored] s (s.offer p f).state := by
  rcases s.offer_cases p f with h | ⟨_, _, h⟩ | ⟨g, _, _, _, h⟩
  · rw [h]; exact .of_counters (s.refuseLocal_counters p f)
  · rw [h]; exact .of_counters (s.takeLocal_counters p _ f)
  · rw [h]
    have hd : CountsOnly [.creditsRestored] s (s.displace p g) := by
      have hp : ((s.portCount p .localDisplaced).traceDrop p .localDisplaced (viewOfFrame g)).counters = s.counters := by
        cases p <;> rfl
      exact (CountsOnly.of_counters hp).trans (State.countBy_only List.mem_cons_self _ (carriedCredits g))
    exact hd.trans (.of_counters (State.takeLocal_counters _ p _ f))

theorem State.offerCounted_only (s : State) (p : Port) (f : Frame) (a b : Counter) :
    CountsOnly [.creditsRestored, a, b] s (s.offerCounted p f a b) := by
  have ho := (s.offer_only p f).mono (ds := [.creditsRestored, a, b]) (by simp)
  unfold State.offerCounted
  dsimp only
  split
  · exact ho.trans (State.count_only (by simp) _)
  · exact ho.trans (State.count_only (by simp) _)

/-! ### The start of a stroke and a call at the head (R97, R98) -/

theorem State.tryStart_eq (s : State) : s.tryStart = { s with head := s.tryStart.head, counters := s.tryStart.counters } := by
  unfold State.tryStart
  split
  · split <;> rfl
  · rfl

theorem State.tryStart_only (s : State) : CountsOnly [.pushesStarted] s s.tryStart := by
  unfold State.tryStart
  split
  · split
    · exact (CountsOnly.of_counters rfl).trans (State.count_only List.mem_cons_self _)
    · exact .refl s
  · exact .refl s

/-- R98: whether a stroke starts depends on what the station reads as head, its clock and its image. -/
theorem State.startedHead_congr {s u : State} (hhead : s.isHead = u.isHead) (hnow : s.now = u.now) (himg : s.img = u.img)
    (es : List HoldEntry) (h : Head) : s.startedHead es h = u.startedHead es h := by
  unfold State.startedHead; rw [hhead, hnow, himg]

/-- The counters of a call taken at the head (R97, R98). -/
def takeCallCounters : List Counter := [.callsRepeated, .pressCallsTaken, .selfCallsTaken, .callsDropped, .pushesStarted]

theorem State.takeCall_only (s : State) (k : CallKind) (n : Half) : CountsOnly takeCallCounters s (s.takeCall k n) := by
  unfold State.takeCall
  split
  · exact State.count_only (by decide) s
  split
  · have hk : (match k with | .press => Counter.pressCallsTaken | .self => .selfCallsTaken) ∈ takeCallCounters := by
      cases k <;> decide
    exact ((CountsOnly.of_counters rfl).trans (State.count_only hk _)).trans ((State.tryStart_only _).mono (by decide))
  · exact State.count_only (by decide) s

/-- R97: a call taken changes the head and counts. -/
theorem State.takeCall_eq (s : State) (k : CallKind) (n : Half) :
    s.takeCall k n = { s with head := (s.takeCall k n).head, counters := (s.takeCall k n).counters } := by
  unfold State.takeCall
  split
  · rfl
  split
  · extract_lets src t
    exact State.tryStart_eq (t.count (match k with | .press => .pressCallsTaken | .self => .selfCallsTaken))
  · rfl

theorem State.tryStart_count_head_of_busy (s : State) (c : Counter) (h : s.head.pusher ≠ .idle) :
    (s.count c).tryStart.head = s.head := by
  rw [State.tryStart_busy (s.count c) h]; rfl

/-- R97: a call taken while the pusher is busy joins the list at most. -/
theorem State.takeCall_head_of_busy (s : State) (k : CallKind) (n : Half) (h : s.head.pusher ≠ .idle) :
    (s.takeCall k n).head = s.head.withCall n := by
  have hholds : s.head.holds n = true ↔ s.head.lastExecuted = some n ∨ n ∈ s.head.calls := by
    simp [Head.holds]
  unfold State.takeCall Head.withCall
  split
  · rename_i hh
    rw [if_pos ((hholds.mp hh).imp_right .inl)]
    rfl
  split
  · rename_i hh hroom
    rw [if_neg (fun hc => by
      rcases hc with hc | hc | hc
      · exact hh (hholds.mpr (.inl hc))
      · exact hh (hholds.mpr (.inr hc))
      · exact absurd hroom (Nat.not_lt.mpr hc))]
    extract_lets src t
    exact t.tryStart_count_head_of_busy _ h
  · rename_i hroom
    rw [if_pos (.inr (.inr (Nat.le_of_not_lt hroom)))]
    rfl

/-! ### The call check (R105) -/

/-- The counters of a call check. -/
def callCheckCounters : List Counter := [.callsSent, .callsRefused, .creditsRestored, .selfCalls] ++ takeCallCounters

theorem State.sendCall_only (s : State) (k : CallKind) : CountsOnly callCheckCounters s (s.sendCall k) := by
  unfold State.sendCall State.passCall
  extract_lets n src t
  have ht : CountsOnly callCheckCounters s t := .of_counters rfl
  split
  · exact (ht.trans (State.count_only (by decide) t)).trans ((State.takeCall_only _ _ _).mono (by decide))
  · exact ht.trans ((State.offerCounted_only _ _ _ _ _).mono (by decide))

theorem State.callCheck_only (s : State) : CountsOnly callCheckCounters s s.callCheck := by
  rw [State.callCheck_eq]
  split
  · exact (s.sendCall_only _).trans (State.count_only (by decide) _)
  · exact (s.sendCall_only _).trans (.of_counters rfl)
  · exact .refl s

/-- R103, R105: a tail with the items `x` after the call check: a call sent is outstanding with its number and timer, and a press call
no longer waits. -/
def State.calledTail (s : State) (x : Tail) : Option CallKind → Tail
  | some k => { x with
      counter := x.counter + 1, outstanding := some (x.counter + 1, k), callTimer := some (after s.now s.img.callTimeout)
      pressWaiting := x.pressWaiting && k != .press }
  | none => x

theorem State.callCheck_tail (s : State) : s.callCheck.tail = s.calledTail s.tail (s.checkSends s.tail s.exu.preview) := by
  rw [State.callCheck_eq]
  split
  · rename_i h
    rw [h, State.count_tail, State.sendCall_tail]
    simp [State.calledTail]
  · rename_i h
    rw [h]
    dsimp only
    rw [State.sendCall_tail]
    simp [State.calledTail]
  · rename_i h
    rw [h]
    rfl

/-- R105: SELF_CALLS counts the SELF call of a call check. -/
theorem State.callCheck_selfCalls (s : State) : s.callCheck.counter .selfCalls =
    satAdd (s.counter .selfCalls) (if s.checkSends s.tail s.exu.preview = some .self then 1 else 0) := by
  have hsend (k : CallKind) : (s.sendCall k).counter .selfCalls = s.counter .selfCalls := by
    unfold State.sendCall State.passCall
    extract_lets n src t
    have ht : t.counter .selfCalls = s.counter .selfCalls := rfl
    split
    · exact (State.takeCall_only (t.count .callsSent) k n _ (by decide)).trans
        ((State.count_only (cs := [.callsSent]) (by decide) t _ (by decide)).trans ht)
    · exact (State.offerCounted_only t .up _ .callsSent .callsRefused _ (by decide)).trans ht
  rw [State.callCheck_eq]
  split
  · rename_i h
    rw [State.counter_count, hsend, h, if_pos rfl]
  · rename_i h
    rw [h, if_neg (by decide)]
    exact (hsend .press).trans (satAdd_zero _).symm
  · rename_i h
    rw [h, if_neg (by decide), satAdd_zero]

/-! ### The call check of a line of one station (R109) -/

/-- R109: the call check of a line of one station offers no frame. -/
theorem State.callCheck_eq_of_single (s : State) (h : s.isSingle = true) : s.callCheck =
    { s with head := s.callCheck.head, tail := s.callCheck.tail, counters := s.callCheck.counters } := by
  have hsend (k : CallKind) : s.sendCall k =
      { s with head := (s.sendCall k).head, tail := (s.sendCall k).tail, counters := (s.sendCall k).counters } := by
    unfold State.sendCall State.passCall
    extract_lets n src t
    rw [if_pos (show t.isSingle = true from h), State.takeCall_eq]
    rfl
  rw [State.callCheck_eq]
  split
  · rw [hsend]
    rfl
  · dsimp only
    rw [hsend]
  · rfl

/-- R97, R109: on a line of one station whose pusher is busy the call of a call check joins the head's list. -/
theorem State.callCheck_head_of_single (s : State) (h : s.isSingle = true) (hbusy : s.head.pusher ≠ .idle) :
    s.callCheck.head =
      if (s.checkSends s.tail s.exu.preview).isSome then s.head.withCall (s.tail.counter + 1) else s.head := by
  have hsend (k : CallKind) : (s.sendCall k).head = s.head.withCall (s.tail.counter + 1) := by
    unfold State.sendCall State.passCall
    extract_lets n src t
    rw [if_pos (show t.isSingle = true from h)]
    exact State.takeCall_head_of_busy (t.count .callsSent) k n hbusy
  rw [State.callCheck_eq]
  split
  · rename_i hc
    rw [hc, State.count_head, hsend]
    rfl
  · rename_i hc
    rw [hc]
    exact hsend _
  · rename_i hc
    rw [hc]
    rfl

/-- R103, R109: on a line of one station CALLS_SENT counts the call of a call check. -/
theorem State.callCheck_callsSent_of_single (s : State) (h : s.isSingle = true) : s.callCheck.counter .callsSent =
    satAdd (s.counter .callsSent) (if (s.checkSends s.tail s.exu.preview).isSome then 1 else 0) := by
  have hsend (k : CallKind) : (s.sendCall k).counter .callsSent = satAdd (s.counter .callsSent) 1 := by
    unfold State.sendCall State.passCall
    extract_lets n src t
    rw [if_pos (show t.isSingle = true from h), State.takeCall_only _ _ _ _ (by decide), State.counter_count]
    rfl
  rw [State.callCheck_eq]
  split
  · rename_i hc
    rw [hc, State.count_only (cs := [.selfCalls]) (by decide) _ _ (by decide), hsend]
    rfl
  · rename_i hc
    rw [hc]
    exact hsend _
  · rename_i hc
    rw [hc]
    exact (satAdd_zero _).symm

/-! ### The decision of a billet (R117 to R121) -/

theorem State.emitPulse_eq (s : State) : s.emitPulse =
    { s with exu := { s.exu with pulse := s.emitPulse.exu.pulse, owed := s.emitPulse.exu.owed }
             counters := s.emitPulse.counters } := by
  unfold State.emitPulse
  split
  · rfl
  · split <;> rfl

theorem State.emitPulse_only (s : State) : CountsOnly [.deliveredLost] s s.emitPulse := by
  unfold State.emitPulse
  split
  · exact .of_counters rfl
  split
  · exact .of_counters rfl
  · exact State.count_only (by decide) s

theorem State.countAll_eq (s : State) (cs : List Counter) : s.countAll cs = { s with counters := (s.countAll cs).counters } := by
  unfold State.countAll
  induction cs generalizing s with
  | nil => rfl
  | cons c rest ih =>
    rw [List.foldl_cons]
    exact ih (s.count c)

/-- R121: the exit log with its newest entry. -/
theorem State.appendLog_eq (s : State) (e : LogEntry) : s.appendLog e =
    { s with exu := { s.exu with
               log := (if s.exu.log.length < 64 then s.exu.log else s.exu.log.drop 1) ++ [e] }
             counters := (s.appendLog e).counters } := by
  have hcapacity : Config.exitLogCapacity = 64 := rfl
  unfold State.appendLog
  rw [hcapacity]
  split <;> rfl

theorem State.appendLog_counter (s : State) (e : LogEntry) :
    (s.appendLog e).counter .exitLogEntries = satAdd (s.counter .exitLogEntries) 1 := by
  unfold State.appendLog
  split
  · exact State.counter_count _ _
  · exact (State.count_only (cs := [.exitLogOverwrites]) (by decide) _ _ (by decide)).trans (State.counter_count _ _)

theorem State.appendLog_only (s : State) (e : LogEntry) : CountsOnly [.exitLogEntries, .exitLogOverwrites] s (s.appendLog e) := by
  unfold State.appendLog
  split
  · exact (CountsOnly.of_counters rfl).trans (State.count_only (by decide) _)
  · exact ((CountsOnly.of_counters rfl).trans (State.count_only (by decide) _)).trans (State.count_only (by decide) _)

theorem State.clearFill_eq (s : State) : s.clearFill = { s with tail := s.clearFill.tail } := by
  unfold State.clearFill
  split <;> rfl

/-- R108: the tail after a PASS. -/
theorem State.clearFill_tail (s : State) : s.clearFill.tail =
    if s.tail.fill then
      { s.tail with fill := false, fillTimer := none, pressIdle := some (after s.now s.img.pressIdleTimeout) }
    else s.tail := by
  unfold State.clearFill
  split <;> rfl

/-- R117, R120: what is recorded of a decision without a reading. -/
theorem State.recordDecision_none_eq (s : State) (b : Latched) (x : Reasons) : s.recordDecision b x none =
    { s with exu := { s.exu with
               log := (if s.exu.log.length < 64 then s.exu.log else s.exu.log.drop 1) ++ [logEntry s.now b x none] }
             tail := if x.pass then s.clearFill.tail else s.tail
             counters := (s.appendLog (logEntry s.now b x none)).counters } := by
  unfold State.recordDecision
  extract_lets t
  have ht := s.appendLog_eq (logEntry s.now b x none)
  have hfill : t.clearFill.tail = s.clearFill.tail := by
    have htail : t.tail = s.tail := by rw [show t = _ from ht]
    have hnow : t.now = s.now := by rw [show t = _ from ht]; rfl
    have himg : t.img = s.img := by rw [show t = _ from ht]; rfl
    rw [State.clearFill_tail, State.clearFill_tail, htail, hnow, himg]
  split
  · rw [State.clearFill_eq, hfill, show t = _ from ht]
  · exact ht

/-! ### The gate event (R117) -/

/-- The counters of the reasons of a verdict (R126). -/
def reasonCounters : List Counter :=
  [.reasonMeanLow, .reasonMeanHigh, .reasonCoreLow, .reasonSurfaceHigh, .reasonSoakOver, .reasonTrack, .reasonModel,
   .reasonPyroOut]

/-- The counters of a decision before its log entry. -/
def decisionCounters : List Counter := [.gatePass, .gateReject, .deliveredLost] ++ reasonCounters

theorem Reasons.counters_subset (x : Reasons) : x.counters ⊆ reasonCounters := by
  have one (b : Bool) {c : Counter} (h : c ∈ reasonCounters) : (if b then [c] else []) ⊆ reasonCounters := by
    cases b
    · exact List.nil_subset _
    · exact List.cons_subset.mpr ⟨h, List.nil_subset _⟩
  unfold Reasons.counters
  simp only [List.append_subset]
  exact ⟨⟨⟨⟨⟨⟨⟨one _ (by decide), one _ (by decide)⟩, one _ (by decide)⟩, one _ (by decide)⟩, one _ (by decide)⟩,
    one _ (by decide)⟩, one _ (by decide)⟩, one _ (by decide)⟩

/-- A lost record, or one without its reading, is no PASS (R112, R117). -/
theorem Reasons.not_pass {x : Reasons} (h : x.track = true ∨ x.pyroOut = true) : x.pass = false := by
  rcases h with h | h <;> simp [Reasons.pass, Reasons.members, Reasons.modelMembers, h]

/-- R117: the gate event up to its log entry. -/
def State.beforeLog (s : State) (x : Reasons) : State :=
  let t : State := { s with exu := { s.exu with gate := x.pass } }
  (if x.pass then t.emitPulse.count .gatePass else t.count .gateReject).countAll x.counters

theorem State.gateEvent_eq_recordDecision (s : State) (b : Latched) (x : Reasons) (v : Option Nat) :
    s.gateEvent b x v = (s.beforeLog x).recordDecision b x v := rfl

theorem State.beforeLog_eq (s : State) (x : Reasons) : s.beforeLog x =
    { s with exu := { s.exu with gate := x.pass, pulse := (s.beforeLog x).exu.pulse, owed := (s.beforeLog x).exu.owed }
             counters := (s.beforeLog x).counters } := by
  unfold State.beforeLog
  extract_lets src t
  rw [State.countAll_eq]
  split
  · rw [State.emitPulse_eq]
    rfl
  · rfl

/-- R117, R118: a REJECT emits no pulse. -/
theorem State.beforeLog_exu_of_reject {s : State} {x : Reasons} (h : x.pass = false) :
    (s.beforeLog x).exu = { s.exu with gate := false } := by
  unfold State.beforeLog
  rw [State.countAll_eq, if_neg (by simp [h]), h]
  rfl

theorem State.beforeLog_only (s : State) (x : Reasons) : CountsOnly decisionCounters s (s.beforeLog x) := by
  unfold State.beforeLog
  extract_lets src t
  have ht : CountsOnly decisionCounters s t := .of_counters rfl
  refine CountsOnly.trans ?_ ((State.countAll_only x.counters_subset _).mono (by decide))
  split
  · exact (ht.trans (t.emitPulse_only.mono (by decide))).trans (State.count_only (by decide) _)
  · exact ht.trans (State.count_only (by decide) _)

/-- R117: a REJECT is counted. -/
theorem State.beforeLog_gateReject {s : State} {x : Reasons} (h : x.pass = false) :
    (s.beforeLog x).counter .gateReject = satAdd (s.counter .gateReject) 1 := by
  unfold State.beforeLog
  extract_lets src t
  rw [if_neg (by simp [h])]
  exact State.counter_counted (cs := []) (.of_counters rfl) (by decide) (State.countAll_only x.counters_subset _) (by decide)

/-- R117: a decision without a reading: the gate, the pulse, the log entry, and the end of FILL by a PASS (R108). -/
theorem State.gateEvent_none_eq (s : State) (b : Latched) (x : Reasons) : s.gateEvent b x none =
    { s with exu := { s.exu with
               gate := x.pass, pulse := (s.beforeLog x).exu.pulse, owed := (s.beforeLog x).exu.owed
               log := (if s.exu.log.length < 64 then s.exu.log else s.exu.log.drop 1) ++ [logEntry s.now b x none] }
             tail := if x.pass then s.clearFill.tail else s.tail
             counters := (s.gateEvent b x none).counters } := by
  have hfill : (s.beforeLog x).clearFill.tail = s.clearFill.tail := by
    rw [State.clearFill_tail, State.clearFill_tail, State.beforeLog_eq]; rfl
  rw [State.gateEvent_eq_recordDecision, State.recordDecision_none_eq, hfill, State.beforeLog_eq]
  rfl

theorem State.recordDecision_none_counters (s : State) (b : Latched) (x : Reasons) :
    (s.recordDecision b x none).counters = (s.appendLog (logEntry s.now b x none)).counters := by
  rw [State.recordDecision_none_eq]

theorem State.gateEvent_none_only (s : State) (b : Latched) (x : Reasons) :
    CountsOnly (decisionCounters ++ [.exitLogEntries, .exitLogOverwrites]) s (s.gateEvent b x none) := by
  rw [State.gateEvent_eq_recordDecision]
  exact ((s.beforeLog_only x).mono (by decide)).trans
    (((State.appendLog_only _ _).mono (by decide)).trans (.of_counters (State.recordDecision_none_counters _ b x)))

/-- R121: a decision is one log entry. -/
theorem State.gateEvent_none_exitLogEntries (s : State) (b : Latched) (x : Reasons) :
    (s.gateEvent b x none).counter .exitLogEntries = satAdd (s.counter .exitLogEntries) 1 := by
  unfold State.counter
  rw [State.gateEvent_eq_recordDecision, State.recordDecision_none_counters]
  exact (State.appendLog_counter _ _).trans (by rw [s.beforeLog_only x _ (by decide)]; rfl)

theorem State.gateEvent_none_gateReject {s : State} (b : Latched) {x : Reasons} (h : x.pass = false) :
    (s.gateEvent b x none).counter .gateReject = satAdd (s.counter .gateReject) 1 := by
  have hlog : CountsOnly [.exitLogEntries, .exitLogOverwrites] (s.beforeLog x) (s.gateEvent b x none) :=
    (State.appendLog_only _ _).trans (.of_counters (State.recordDecision_none_counters (s.beforeLog x) b x))
  exact (hlog _ (by decide)).trans (State.beforeLog_gateReject h)

/-! ### The handover at the tail (R114, R115) -/

/-- R115, R117: a billet that still awaits its sample is decided REJECT: no pulse, and FILL stays. -/
theorem State.forceAwaiting_some_eq {s : State} {a : Awaiting} (h : s.exu.awaiting = some a) : s.forceAwaiting =
    { s with exu := { s.exu with
               gate := false, awaiting := none
               log := (if s.exu.log.length < 64 then s.exu.log else s.exu.log.drop 1) ++
                 [logEntry s.now a.billet { a.billet.reasons with pyroOut := true } none] }
             counters := s.forceAwaiting.counters } := by
  have hreject := Reasons.not_pass (x := { a.billet.reasons with pyroOut := true }) (.inr rfl)
  unfold State.forceAwaiting
  rw [h]
  dsimp only
  rw [State.gateEvent_none_eq, State.beforeLog_exu_of_reject hreject, hreject]
  rfl

theorem State.forceAwaiting_none {s : State} (h : s.exu.awaiting = none) : s.forceAwaiting = s := by
  unfold State.forceAwaiting
  rw [h]

theorem State.forceAwaiting_counters {s : State} {a : Awaiting} (h : s.exu.awaiting = some a) :
    s.forceAwaiting.counter .gateReject = satAdd (s.counter .gateReject) 1 ∧
    s.forceAwaiting.counter .pyroForced = satAdd (s.counter .pyroForced) 1 := by
  have hreject := Reasons.not_pass (x := { a.billet.reasons with pyroOut := true }) (.inr rfl)
  unfold State.forceAwaiting
  rw [h]
  dsimp only
  refine ⟨(State.count_only (cs := [.pyroForced]) (by decide) _ _ (by decide)).trans
    (State.gateEvent_none_gateReject a.billet hreject), (State.counter_count _ _).trans ?_⟩
  exact congrArg (satAdd · 1) (s.gateEvent_none_only a.billet _ _ (by decide))

theorem State.forceAwaiting_only (s : State) : CountsOnly exuCounters s s.forceAwaiting := by
  unfold State.forceAwaiting
  split
  · refine CountsOnly.trans ?_ (State.count_only (by decide) _)
    exact ((s.gateEvent_none_only _ _).mono (by decide)).trans (.of_counters rfl)
  · exact .refl s

theorem State.exitHandover_only (s : State) (r : Record) (n : Half) : CountsOnly exuCounters s (s.exitHandover r n) := by
  unfold State.exitHandover
  split
  · exact s.forceAwaiting_only.trans (.of_counters rfl)
  · exact (s.gateEvent_none_only _ _).mono (by decide)

/-- R114: the handover changes the Exit Unit, the tail and counters alone. -/
theorem State.exitHandover_eq (s : State) (r : Record) (n : Half) : s.exitHandover r n =
    { s with exu := (s.exitHandover r n).exu, tail := (s.exitHandover r n).tail
             counters := (s.exitHandover r n).counters } := by
  unfold State.exitHandover
  split
  · cases h : s.exu.awaiting with
    | none => rw [State.forceAwaiting_none h]
    | some a => rw [State.forceAwaiting_some_eq h]
  · rw [State.gateEvent_none_eq]

/-- R13: at the tail nothing is sent downstream. -/
theorem State.handOn_eq_of_tail {s : State} (h : s.isTail = true) (n : Half) (b : Byte) (x : Slot) : s.handOn n b x =
    { s with exu := (s.handOn n b x).exu, tail := (s.handOn n b x).tail, counters := (s.handOn n b x).counters } := by
  unfold State.handOn
  rw [if_pos h]
  cases x with
  | none => rfl
  | some r => exact s.exitHandover_eq r n

theorem State.handOn_only_of_tail {s : State} (h : s.isTail = true) (n : Half) (b : Byte) (x : Slot) :
    CountsOnly exuCounters s (s.handOn n b x) := by
  unfold State.handOn
  rw [if_pos h]
  cases x with
  | none => exact .refl s
  | some r => exact s.exitHandover_only r n

/-- R108, R115: FILL ends by a shift with a record that is decided PASS at once. -/
theorem State.handOn_tail_of_tail {s : State} (h : s.isTail = true) (n : Half) (b : Byte) (x : Slot) : (s.handOn n b x).tail =
    if !s.img.pyroOn && x.any (fun r => (r.judge s.img).pass) then s.clearFill.tail else s.tail := by
  unfold State.handOn
  rw [if_pos h]
  cases x with
  | none => simp
  | some r =>
    unfold State.exitHandover
    dsimp only
    split
    · rename_i hp
      rw [hp]
      cases ha : s.exu.awaiting with
      | none => rw [State.forceAwaiting_none ha]; rfl
      | some a => rw [State.forceAwaiting_some_eq ha]; rfl
    · rename_i hp
      rw [State.gateEvent_none_eq]
      simp [hp]

end Sys2Proof.Machine
end

section
/-!
PROOFS. The shift (O28): what it hands on, and what follows it at the tail (R11 to R14, R86, R105, R106, R113).
-/

namespace Sys2Proof.Machine

/-! ### The shift (R11 to R14) -/

theorem State.countExcursion_eq (s : State) : s.countExcursion = { s with counters := s.countExcursion.counters } := by
  unfold State.countExcursion
  split <;> rfl

theorem State.countExcursion_only (s : State) : CountsOnly [.excursions] s s.countExcursion := by
  unfold State.countExcursion
  split
  · exact State.count_only (by decide) s
  · exact .refl s

theorem State.countDuplicate_eq (s : State) (o : List Slot) (x : Slot) :
    s.countDuplicate o x = { s with counters := (s.countDuplicate o x).counters } := by
  unfold State.countDuplicate
  split <;> rfl

theorem State.countDuplicate_only (s : State) (o : List Slot) (x : Slot) :
    CountsOnly [.duplicateSerials] s (s.countDuplicate o x) := by
  unfold State.countDuplicate
  split
  · exact State.count_only (by decide) s
  · exact .refl s

/-- R12, R13: the state in which the lead's content has been handed on, before the slots move. -/
def State.handedOn (s : State) (b : Byte) : State := s.countExcursion.handOn (s.cq.lastStroke + 1) b s.leaving

/-- R14: once the lead is handed on, a shift moves the slots and counts. -/
theorem State.moveQueue_eq (s : State) (b : Byte) (x : Slot) : s.moveQueue b x =
    { s.handedOn b with cq := s.cq.shifted s.img.cadence s.now x, counters := (s.moveQueue b x).counters } := by
  unfold State.moveQueue
  extract_lets n t u v
  have hcq : (v.count .shifts).cq = s.cq.shifted s.img.cadence s.now x := s.moveQueue_cq b x
  have hu : u = { t with counters := u.counters } := State.countDuplicate_eq t (movedSlots t.cq.slots) x
  have hv : v.count .shifts = { u with cq := (v.count .shifts).cq, counters := (v.count .shifts).counters } := rfl
  rw [hv, hcq, hu]
  rfl

theorem State.moveQueue_only (s : State) (b : Byte) (x : Slot) :
    CountsOnly [.duplicateSerials, .shifts] (s.handedOn b) (s.moveQueue b x) := by
  unfold State.moveQueue
  extract_lets n t u v
  have hu : CountsOnly [.duplicateSerials, .shifts] t u := (State.countDuplicate_only _ _ _).mono (by decide)
  exact (hu.trans (.of_counters rfl)).trans (State.count_only (by decide) v)

theorem State.moveQueue_shifts (s : State) (b : Byte) (x : Slot) :
    (s.moveQueue b x).counter .shifts = satAdd ((s.handedOn b).counter .shifts) 1 := by
  unfold State.moveQueue
  extract_lets n t u v
  have hu : CountsOnly [.duplicateSerials] t u := State.countDuplicate_only _ _ _
  exact (State.counter_count v .shifts).trans (congrArg (satAdd · 1) (hu _ (by decide)))

/-! ### A shift at a station that is not the tail (R86) -/

theorem State.handedOn_eq_sendStroke {s : State} (h : s.isTail = false) (b : Byte) :
    s.handedOn b = s.countExcursion.sendStroke (s.cq.lastStroke + 1) b s.leaving := by
  have ht : s.countExcursion.isTail = false := s.countExcursion_link.isTail.trans h
  unfold State.handedOn State.handOn
  rw [if_neg (by simp [ht])]

theorem State.shift_eq_moveQueue {s : State} (h : s.isTail = false) (b : Byte) (x : Slot) : s.shift b x = s.moveQueue b x := by
  unfold State.shift State.tailAfterShift
  rw [if_neg (by rw [(s.moveQueue_shift b x).isTail, h]; decide)]

theorem State.handedOn_link {s : State} (h : s.isTail = false) (b : Byte) : LinkFrame s (s.handedOn b) := by
  rw [State.handedOn_eq_sendStroke h]
  exact s.countExcursion_link.trans (State.sendStroke_link _ _ _ _)

/-- The frame of a stroke (R86, R189); what has left has no place for accrued and created-at (R13). -/
def State.strokeFrame (s : State) (b : Byte) : Frame :=
  s.frame (BitVec.ofNat 8 (s.pos.val + 1))
    (.stroke (s.cq.lastStroke + 1) b ((s.cq.lead.map (Record.finish s.img s.pos)).map Record.wire))

theorem State.handedOn_eq_offerCounted {s : State} (h : s.isTail = false) (b : Byte) :
    s.handedOn b = s.countExcursion.offerCounted .down (s.strokeFrame b) .strokesSent .strokesRefused := by
  have hwire : s.leaving.map Record.wire = (s.cq.lead.map (Record.finish s.img s.pos)).map Record.wire := by
    unfold State.leaving
    cases s.cq.lead <;> rfl
  rw [State.handedOn_eq_sendStroke h]
  unfold State.sendStroke State.strokeFrame
  rw [hwire, State.countExcursion_eq]
  rfl

theorem State.handedOn_only {s : State} (h : s.isTail = false) (b : Byte) :
    CountsOnly [.excursions, .creditsRestored, .strokesSent, .strokesRefused] s (s.handedOn b) := by
  rw [State.handedOn_eq_offerCounted h]
  exact (s.countExcursion_only.mono (by decide)).trans ((State.offerCounted_only _ _ _ _ _).mono (by decide))

/-- R86, R158: a port with room takes the STROKE frame. -/
theorem State.handedOn_of_hasRoom {s : State} (h : s.isTail = false) (hroom : s.hasRoom .down = true) (b : Byte) :
    (s.handedOn b).downPort.localQ = insertByClass (s.strokeFrame b) s.downPort.localQ ∧
    (s.handedOn b).counter .strokesSent = satAdd (s.counter .strokesSent) 1 := by
  have hroom' : s.countExcursion.hasRoom .down = true := by rw [State.countExcursion_eq]; exact hroom
  rw [State.handedOn_eq_offerCounted h]
  unfold State.offerCounted
  rw [State.offer_of_hasRoom hroom']
  constructor
  · show ((s.countExcursion.takeLocal .down _ (s.strokeFrame b)).port .down).localQ = _
    rw [State.takeLocal_localQ, State.countExcursion_eq]
    rfl
  · exact State.counter_counted
      (s.countExcursion_only.trans (.of_counters (State.takeLocal_counters s.countExcursion .down _ (s.strokeFrame b))))
      (by decide) (ds := []) (.refl _) (by decide)

/-- R86, R158: a port whose link is DOWN refuses it. -/
theorem State.handedOn_of_linkDown {s : State} (h : s.isTail = false) (hdown : s.linkIsUp .down = false) (b : Byte) :
    (s.handedOn b).downPort.localQ = s.downPort.localQ ∧
    (s.handedOn b).counter .strokesRefused = satAdd (s.counter .strokesRefused) 1 := by
  have hdown' : s.countExcursion.linkIsUp .down = false := by rw [State.countExcursion_eq]; exact hdown
  rw [State.handedOn_eq_offerCounted h]
  unfold State.offerCounted
  rw [State.offer_of_linkDown hdown']
  constructor
  · show ((s.countExcursion.refuseLocal .down (s.strokeFrame b)).port .down).localQ = _
    rw [State.refuseLocal_localQ, State.countExcursion_eq]
    rfl
  · exact State.counter_counted
      (s.countExcursion_only.trans (.of_counters (State.refuseLocal_counters s.countExcursion .down (s.strokeFrame b))))
      (by decide) (ds := []) (.refl _) (by decide)

/-! ### A shift at the tail (R13, R105, R106, R113) -/

theorem State.countExcursion_isTail (s : State) : s.countExcursion.isTail = s.isTail := s.countExcursion_link.isTail

/-- R13: at the tail the handover changes the Exit Unit, the tail and counters alone. -/
theorem State.handedOn_eq_of_tail {s : State} (h : s.isTail = true) (b : Byte) : s.handedOn b =
    { s with exu := (s.handedOn b).exu, tail := (s.handedOn b).tail, counters := (s.handedOn b).counters } := by
  have ht : s.countExcursion.isTail = true := s.countExcursion_isTail.trans h
  unfold State.handedOn
  rw [State.handOn_eq_of_tail ht, State.countExcursion_eq]

theorem State.handedOn_only_of_tail {s : State} (h : s.isTail = true) (b : Byte) :
    CountsOnly (.excursions :: exuCounters) s (s.handedOn b) :=
  (s.countExcursion_only.mono (by decide)).trans
    ((State.handOn_only_of_tail (s.countExcursion_isTail.trans h) _ _ _).mono (List.subset_cons_self _ _))

/-- R106, R108: the tail's items once the lead has left and its call has ended. -/
theorem State.handedOn_tail_of_tail {s : State} (h : s.isTail = true) (b : Byte) :
    { (s.handedOn b).tail with outstanding := none, callTimer := none } = s.tailLeft := by
  have ht : s.countExcursion.isTail = true := s.countExcursion_isTail.trans h
  have himg : s.countExcursion.img = s.img := s.countExcursion_link.img
  have hnow : s.countExcursion.now = s.now := s.countExcursion_link.now
  have htail : s.countExcursion.tail = s.tail := s.countExcursion_link.tail
  unfold State.handedOn
  rw [State.handOn_tail_of_tail ht, State.clearFill_tail, himg, hnow, htail]
  unfold State.tailLeft
  have hpyro : (!s.img.pyroOn) = (s.img.pyroEnable != 1) := rfl
  rw [hpyro]
  cases s.tail.fill <;> cases s.img.pyroEnable != 1 <;>
    cases s.leaving.any (fun r => (r.judge s.img).pass) <;> rfl

/-- The tail after a shift, before its preview and call check: the call has ended. -/
def State.leftLead (s : State) (b : Byte) (x : Slot) : State := (s.moveQueue b x).endCall

theorem State.shift_eq_callCheck {s : State} (h : s.isTail = true) (b : Byte) (x : Slot) :
    s.shift b x = (s.leftLead b x).preview.callCheck := by
  unfold State.shift State.tailAfterShift State.leftLead
  rw [if_pos (by rw [(s.moveQueue_shift b x).isTail, h])]

/-- R105, R106, R113: the tail before its call check, the preview that of the new lead. -/
theorem State.leftLead_preview_eq {s : State} (h : s.isTail = true) (b : Byte) (x : Slot) : (s.leftLead b x).preview =
    { s with
      cq := s.cq.shifted s.img.cadence s.now x, tail := s.tailLeft
      exu := { (s.handedOn b).exu with
        preview := (s.cq.shifted s.img.cadence s.now x).lead.map (Record.judge s.img) }
      counters := (s.moveQueue b x).counters } := by
  have hm := s.moveQueue_eq b x
  rw [State.handedOn_eq_of_tail h] at hm
  have hl : s.leftLead b x =
      { s with
        cq := s.cq.shifted s.img.cadence s.now x, tail := s.tailLeft, exu := (s.handedOn b).exu
        counters := (s.moveQueue b x).counters } := by
    unfold State.leftLead State.endCall
    rw [← State.handedOn_tail_of_tail h b, hm]
  rw [hl]
  exact if_pos h

end Sys2Proof.Machine
end

section
/-!
PROOFS. The stroke of the head (O28): its new record, the shift, and on a line of one station the lead's decision and the call check (R16 to
R19, R86, R105, R109, R113 to R115).
-/

namespace Sys2Proof.Machine

/-! ### What becomes of the lead at the tail (R114 to R120) -/

/-- The counters that move after the lead has been handed on. -/
def afterHandOnCounters : List Counter := [.duplicateSerials, .shifts, .latePushed] ++ callCheckCounters

/-- R13, R114, R115: the handover decides the lead, where `p` is the state before it and `t` keeps what it left of the Exit Unit. -/
theorem State.leadDecided_of_handOn {s p t : State} {n : Half} {b : Byte} (htail : p.isTail = true) (hexu : p.exu = s.exu)
    (himg : p.img = s.img) (hnow : p.now = s.now) (hp : CountsOnly [.massClamps, .excursions] s p) (htau : t.tau = s.tau)
    (ht : t.exu = { (p.handOn n b s.leaving).exu with preview := t.exu.preview })
    (hcounts : CountsOnly afterHandOnCounters (p.handOn n b s.leaving) t) : s.LeadDecided t n := by
  refine ⟨htau, fun hlead => ?_, fun r left hlead hleft => ?_⟩
  · have hleaving : s.leaving = none := by unfold State.leaving; rw [hlead]; rfl
    have hhand : p.handOn n b none = p := by unfold State.handOn; rw [if_pos htail]
    rw [hleaving, hhand, hexu] at ht
    exact ht
  have hleaving : s.leaving = some left := by unfold State.leaving; rw [hlead, hleft]; rfl
  have hhand : p.handOn n b (some left) = p.exitHandover left n := by unfold State.handOn; rw [if_pos htail]
  rw [hleaving, hhand] at ht hcounts
  have hcounter {c : Counter} (hc : c ∉ [Counter.massClamps, .excursions]) : p.counter c = s.counter c := hp c hc
  refine ⟨fun hoff => ?_, fun hon => ?_⟩
  · have hpyro : p.img.pyroOn = false := by rw [himg]; simpa [Image.pyroOn] using hoff
    have hgate : p.exitHandover left n = p.gateEvent (latch s.img left n) (left.judge s.img) none := by
      unfold State.exitHandover
      rw [if_neg (by simp [hpyro]), himg]
    rw [hgate] at ht hcounts
    have hentries : t.counter .exitLogEntries = satAdd (s.counter .exitLogEntries) 1 := by
      rw [hcounts _ (by decide), State.gateEvent_none_exitLogEntries, hcounter (by decide)]
    rw [State.gateEvent_none_eq, hexu, hnow] at ht
    subst hleft
    rw [ht]
    exact ⟨rfl, rfl, rfl, fun hlost => Reasons.not_pass (.inl hlost), hentries, rfl⟩
  · have hpyro : p.img.pyroOn = true := by rw [himg]; simpa [Image.pyroOn] using hon
    have hforced : p.exitHandover left n = { p.forceAwaiting with exu := { p.forceAwaiting.exu with
        awaiting := some { billet := latch s.img left n, deadline := after s.now s.img.sampleDelay } } } := by
      have hf := p.forceAwaiting_exit.toShiftFrame
      unfold State.exitHandover
      rw [if_pos hpyro]
      dsimp only
      rw [hf.now, hf.img, himg, hnow]
    rw [hforced] at ht
    have hc : CountsOnly afterHandOnCounters p.forceAwaiting t :=
      CountsOnly.trans (.of_counters (by rw [hforced])) hcounts
    subst hleft
    refine ⟨by rw [ht]; rfl, fun hnone => ?_, fun w hsome => ?_⟩
    · have hnone' : p.exu.awaiting = none := by rw [hexu]; exact hnone
      rw [State.forceAwaiting_none hnone'] at ht hc
      refine ⟨?_, (hc _ (by decide)).trans (hcounter (by decide))⟩
      rw [hexu] at ht
      rw [ht]
    · have hsome' : p.exu.awaiting = some w := by rw [hexu]; exact hsome
      obtain ⟨hreject, hforce⟩ := State.forceAwaiting_counters hsome'
      rw [State.forceAwaiting_some_eq hsome', hexu, hnow] at ht
      refine ⟨by rw [ht], ?_, by rw [ht], by rw [ht], by rw [ht], ?_, ?_⟩
      · have hpass : Reasons.pass { w.billet.reasons with pyroOut := true } = false := Reasons.not_pass (.inr rfl)
        rw [ht]
        simp only [logEntry, hpass]
      · rw [hc _ (by decide), hreject, hcounter (by decide)]
      · rw [hc _ (by decide), hforce, hcounter (by decide)]

/-! ### What a stroke of the head leaves as it is -/

/-- All that stays when a stroke is taken at the head: the two parts R125 and R80 can reach, and the own queues of the ports, aside. -/
structure State.PushFrame (s t : State) : Prop where
  micros : t.micros = s.micros
  pins : t.pins = s.pins
  ldu : t.ldu = s.ldu
  tau : t.tau = { s.tau with trim := t.tau.trim }
  pdu : t.pdu = s.pdu
  ivi : t.ivi = s.ivi
  cru : t.cru = { s.cru with loans := t.cru.loans }
  tracker : t.tracker = s.tracker
  hlu : t.hlu = s.hlu
  port : ∀ p, t.port p = (s.port p).offered (t.port p)
  svi : t.svi = s.svi

theorem State.PushFrame.trans {s t u : State} (h : PushFrame s t) (k : PushFrame t u) : PushFrame s u :=
  { micros := k.micros.trans h.micros
    pins := k.pins.trans h.pins
    ldu := k.ldu.trans h.ldu
    tau := k.tau.trans (by rw [h.tau])
    pdu := k.pdu.trans h.pdu
    ivi := k.ivi.trans h.ivi
    cru := k.cru.trans (by rw [h.cru])
    tracker := k.tracker.trans h.tracker
    hlu := k.hlu.trans h.hlu
    port := fun p => (k.port p).trans (by rw [h.port p]; rfl)
    svi := k.svi.trans h.svi }

theorem State.PushFrame.of_head {s t : State} (h : t = { s with head := t.head, counters := t.counters }) : PushFrame s t := by
  rw [h]
  exact ⟨rfl, rfl, rfl, rfl, rfl, rfl, rfl, rfl, rfl, fun p => by cases p <;> rfl, rfl⟩

theorem ShiftFrame.toPushFrame {s t : State} (h : ShiftFrame s t) : State.PushFrame s t :=
  { micros := h.micros, pins := h.pins, ldu := h.ldu, tau := h.tau, pdu := h.pdu, ivi := h.ivi, cru := h.cru
    tracker := h.tracker, hlu := h.hlu, svi := h.svi
    port := fun
      | .up => h.upPort
      | .down => h.downPort }

theorem State.PushFrame.now {s t : State} (h : PushFrame s t) : t.now = s.now := by unfold State.now; rw [h.micros]

theorem State.PushFrame.img {s t : State} (h : PushFrame s t) : t.img = s.img := by unfold State.img; rw [h.svi]

theorem State.PushFrame.onLine {s t : State} (h : PushFrame s t) : t.onLine = s.onLine := by unfold State.onLine; rw [h.ldu]

theorem State.PushFrame.isHead {s t : State} (h : PushFrame s t) : t.isHead = s.isHead := by unfold State.isHead; rw [h.ldu]

theorem State.PushFrame.isTail {s t : State} (h : PushFrame s t) : t.isTail = s.isTail := by unfold State.isTail; rw [h.ldu]

/-! ### Loading at the head (R16 to R18) -/

/-- R16 to R18: the head with the new record's serial and clamp accounted for, before its shift. -/
def State.loaded (s : State) : State :=
  if s.pins.loaderPresent then
    let t := if s.weighClamped then s.count .massClamps else s
    { t with head := { t.head with nextSerial := serialAfter t.head.nextSerial } }
  else s

/-- R16: what enters slot 0 at a head stroke. -/
def State.loadedSlot (s : State) : Slot := if s.pins.loaderPresent then some s.newRecord else none

theorem State.headStroke_eq_shift (s : State) : s.headStroke = s.loaded.shift synthNone s.loadedSlot := by
  unfold State.headStroke State.loaded State.loadedSlot
  split <;> rfl

theorem State.loaded_eq (s : State) : s.loaded =
    { s with head := { s.head with nextSerial := s.loaded.head.nextSerial }, counters := s.loaded.counters } := by
  unfold State.loaded
  split
  · dsimp only
    split <;> rfl
  · rfl

theorem State.loaded_nextSerial (s : State) : s.loaded.head.nextSerial =
    if s.pins.loaderPresent then serialAfter s.head.nextSerial else s.head.nextSerial := by
  unfold State.loaded
  split
  · dsimp only
    split <;> rfl
  · rfl

theorem State.loaded_only (s : State) : CountsOnly [.massClamps] s s.loaded := by
  unfold State.loaded
  split
  · dsimp only
    split
    · exact (State.count_only (by decide) s).trans (.of_counters rfl)
    · exact .of_counters rfl
  · exact .refl s

theorem State.loaded_frame (s : State) : PushFrame s s.loaded := by
  refine .of_head ?_
  conv_lhs => rw [s.loaded_eq]
  rw [s.loaded_eq]

theorem State.loaded_head (s : State) : s.loaded.head = { s.head with nextSerial := s.loaded.head.nextSerial } :=
  congrArg State.head s.loaded_eq

theorem State.loaded_cq (s : State) : s.loaded.cq = s.cq := by rw [s.loaded_eq]

theorem State.loaded_tail (s : State) : s.loaded.tail = s.tail := by rw [s.loaded_eq]

theorem State.loaded_exu (s : State) : s.loaded.exu = s.exu := by rw [s.loaded_eq]

theorem State.loaded_downPort (s : State) : s.loaded.downPort = s.downPort := by rw [s.loaded_eq]

theorem State.loaded_leaving (s : State) : s.loaded.leaving = s.leaving := by rw [s.loaded_eq]; rfl

theorem State.loaded_tailLeft (s : State) : s.loaded.tailLeft = s.tailLeft := by rw [s.loaded_eq]; rfl

theorem State.loaded_hasRoom (s : State) (p : Port) : s.loaded.hasRoom p = s.hasRoom p := by rw [s.loaded_eq]; cases p <;> rfl

theorem State.loaded_linkIsUp (s : State) (p : Port) : s.loaded.linkIsUp p = s.linkIsUp p := by rw [s.loaded_eq]; cases p <;> rfl

theorem State.loaded_strokeFrame (s : State) (b : Byte) : s.loaded.strokeFrame b = s.strokeFrame b := by rw [s.loaded_eq]; rfl

/-! ### The head's stroke (R12 to R19) -/

theorem State.headStroke_frame (s : State) : PushFrame s s.headStroke := by
  rw [State.headStroke_eq_shift]
  exact s.loaded_frame.trans (State.shift_shift _ _ _).toPushFrame

theorem State.headStroke_cq (s : State) : s.headStroke.cq = s.cq.shifted s.img.cadence s.now s.loadedSlot := by
  rw [State.headStroke_eq_shift, State.shift_cq, s.loaded_cq, s.loaded_frame.img, s.loaded_frame.now]

/-- The counters of a stroke at the head, that of a late one aside. -/
def headStrokeCounters : List Counter :=
  [.massClamps, .excursions, .strokesSent, .strokesRefused, .duplicateSerials, .shifts] ++ exuCounters ++ callCheckCounters

theorem State.handedOn_any (s : State) (b : Byte) :
    CountsOnly (.excursions :: exuCounters ++ [.creditsRestored, .strokesSent, .strokesRefused]) s (s.handedOn b) := by
  cases h : s.isTail with
  | false => exact (State.handedOn_only h b).mono (by decide)
  | true => exact (State.handedOn_only_of_tail h b).mono (by decide)

theorem State.shift_after_moveQueue (s : State) (b : Byte) (x : Slot) :
    CountsOnly callCheckCounters (s.moveQueue b x) (s.shift b x) := by
  cases h : s.isTail with
  | false =>
    rw [State.shift_eq_moveQueue h]
    exact .refl _
  | true =>
    have hp : (s.leftLead b x).preview.counters = (s.moveQueue b x).counters := by rw [State.leftLead_preview_eq h]
    rw [State.shift_eq_callCheck h]
    exact (CountsOnly.of_counters hp).trans (State.callCheck_only _)

theorem State.headStroke_after_handedOn (s : State) :
    CountsOnly ([.duplicateSerials, .shifts] ++ callCheckCounters) (s.loaded.handedOn synthNone) s.headStroke := by
  rw [State.headStroke_eq_shift]
  exact ((State.moveQueue_only _ _ _).mono (by decide)).trans ((State.shift_after_moveQueue _ _ _).mono (by decide))

theorem State.headStroke_only (s : State) : CountsOnly headStrokeCounters s s.headStroke :=
  ((s.loaded_only.mono (by decide)).trans ((s.loaded.handedOn_any synthNone).mono (by decide))).trans
    (s.headStroke_after_handedOn.mono (by decide))

theorem State.headStroke_shifts (s : State) : s.headStroke.counter .shifts = satAdd (s.counter .shifts) 1 := by
  have hbefore : (s.loaded.handedOn synthNone).counter .shifts = s.counter .shifts :=
    (s.loaded.handedOn_any synthNone _ (by decide)).trans (s.loaded_only _ (by decide))
  rw [State.headStroke_eq_shift, State.shift_after_moveQueue _ _ _ _ (by decide), State.moveQueue_shifts, hbefore]

/-! ### The stroke of a head that is not the tail (R86) -/

theorem State.headStroke_eq_moveQueue {s : State} (h : s.isTail = false) :
    s.headStroke = s.loaded.moveQueue synthNone s.loadedSlot := by
  rw [State.headStroke_eq_shift, State.shift_eq_moveQueue (s.loaded_frame.isTail.trans h)]

theorem State.headStroke_untouched_of_notTail {s : State} (h : s.isTail = false) :
    s.headStroke.head = { s.head with nextSerial := s.loaded.head.nextSerial } ∧
    s.headStroke.tail = s.tail ∧ s.headStroke.exu = s.exu := by
  have hlink : LinkFrame s.loaded (s.loaded.handedOn synthNone) := State.handedOn_link (s.loaded_frame.isTail.trans h) _
  rw [State.headStroke_eq_moveQueue h, State.moveQueue_eq]
  exact ⟨hlink.head.trans s.loaded_head, hlink.tail.trans s.loaded_tail, hlink.exu.trans s.loaded_exu⟩

/-- R86, R158: the STROKE frame of the head, synthesised by none. -/
theorem State.headStroke_sends {s : State} (h : s.isTail = false) (hroom : s.hasRoom .down = true) :
    s.headStroke.downPort.localQ = insertByClass (s.strokeFrame synthNone) s.downPort.localQ ∧
    s.headStroke.counter .strokesSent = satAdd (s.counter .strokesSent) 1 := by
  obtain ⟨hq, hsent⟩ := State.handedOn_of_hasRoom (s.loaded_frame.isTail.trans h) ((s.loaded_hasRoom .down).trans hroom) synthNone
  refine ⟨?_, (s.headStroke_after_handedOn _ (by decide)).trans (hsent.trans ?_)⟩
  · rw [State.headStroke_eq_moveQueue h, State.moveQueue_eq]
    rw [s.loaded_strokeFrame, s.loaded_downPort] at hq
    exact hq
  · rw [s.loaded_only _ (by decide)]

theorem State.headStroke_refused {s : State} (h : s.isTail = false) (hdown : s.linkIsUp .down = false) :
    s.headStroke.downPort.localQ = s.downPort.localQ ∧
    s.headStroke.counter .strokesRefused = satAdd (s.counter .strokesRefused) 1 := by
  obtain ⟨hq, hrefused⟩ :=
    State.handedOn_of_linkDown (s.loaded_frame.isTail.trans h) ((s.loaded_linkIsUp .down).trans hdown) synthNone
  refine ⟨?_, (s.headStroke_after_handedOn _ (by decide)).trans (hrefused.trans ?_)⟩
  · rw [State.headStroke_eq_moveQueue h, State.moveQueue_eq]
    rw [s.loaded_downPort] at hq
    exact hq
  · rw [s.loaded_only _ (by decide)]

/-! ### The stroke on a line of one station (R109) -/

/-- R105, R109: the head and tail after its shift, before the call check. -/
def State.leadLeft (s : State) : State := (s.loaded.leftLead synthNone s.loadedSlot).preview

theorem State.headStroke_eq_callCheck {s : State} (h : s.isTail = true) : s.headStroke = s.leadLeft.callCheck := by
  rw [State.headStroke_eq_shift, State.shift_eq_callCheck (s.loaded_frame.isTail.trans h)]
  rfl

theorem State.leadLeft_eq {s : State} (h : s.isTail = true) : s.leadLeft =
    { s with
      cq := s.cq.shifted s.img.cadence s.now s.loadedSlot, tail := s.tailLeft
      head := { s.head with nextSerial := s.loaded.head.nextSerial }
      exu := { (s.loaded.handedOn synthNone).exu with
        preview := (s.cq.shifted s.img.cadence s.now s.loadedSlot).lead.map (Record.judge s.img) }
      counters := (s.loaded.moveQueue synthNone s.loadedSlot).counters } := by
  have hl := State.leftLead_preview_eq (s.loaded_frame.isTail.trans h) synthNone s.loadedSlot
  rw [s.loaded_cq, s.loaded_tailLeft, s.loaded_frame.img, s.loaded_frame.now] at hl
  refine hl.trans ?_
  have hs := s.loaded_eq
  generalize s.loaded = l at hs ⊢
  rw [hs]

theorem State.leadLeft_counter {s : State} (h : s.isTail = true) {c : Counter}
    (hc : c ∉ [Counter.massClamps, .duplicateSerials, .shifts] ++ (.excursions :: exuCounters)) :
    s.leadLeft.counter c = s.counter c := by
  have hm : CountsOnly ([Counter.massClamps, .duplicateSerials, .shifts] ++ (.excursions :: exuCounters)) s
      (s.loaded.moveQueue synthNone s.loadedSlot) :=
    ((s.loaded_only.mono (by decide)).trans
      ((State.handedOn_only_of_tail (s.loaded_frame.isTail.trans h) _).mono (by decide))).trans
      ((State.moveQueue_only _ _ _).mono (by decide))
  exact (congrArg (fun u : State => u.counter c) (State.leadLeft_eq h)).trans (hm c hc)

theorem State.checkSends_congr {s u : State} (h : s.ldu = u.ldu) (x : Tail) (preview : Option Reasons) :
    s.checkSends x preview = u.checkSends x preview := by unfold State.checkSends; rw [h]

/-! ### The head and the tail of a line of one station after its stroke (R97, R105, R109) -/

theorem State.leadLeft_isSingle {s : State} (hhead : s.isHead = true) (htail : s.isTail = true) :
    s.leadLeft.isSingle = true := by
  rw [State.leadLeft_eq htail]
  exact Bool.and_eq_true_iff.mpr ⟨hhead, htail⟩

/-- R109: what a stroke leaves on a line of one station, as far as the preview, the tail, the ports and τ go. -/
theorem State.headStroke_of_single {s : State} (hhead : s.isHead = true) (htail : s.isTail = true) :
    s.headStroke.exu = s.leadLeft.exu ∧
    s.headStroke.tail = s.calledTail s.tailLeft (s.checkSends s.tailLeft s.leadLeft.exu.preview) ∧
    s.headStroke.tau = s.tau ∧ ∀ p, s.headStroke.port p = s.port p := by
  have hsingle := State.leadLeft_isSingle hhead htail
  have hcalled := State.callCheck_tail s.leadLeft
  have heq := State.callCheck_eq_of_single s.leadLeft hsingle
  rw [State.headStroke_eq_callCheck htail]
  refine ⟨by rw [heq], ?_, ?_, fun p => ?_⟩
  · rw [hcalled, State.leadLeft_eq htail]
    rfl
  · rw [heq, State.leadLeft_eq htail]
  · rw [heq, State.leadLeft_eq htail]
    cases p <;> rfl

/-- R105, R113: the preview is that of the new lead. -/
theorem State.leadLeft_preview {s : State} (htail : s.isTail = true) :
    s.leadLeft.exu.preview = s.headStroke.cq.lead.map (Record.judge s.img) := by
  rw [State.headStroke_cq, State.leadLeft_eq htail]

theorem State.headStroke_calls {s : State} (hhead : s.isHead = true) (htail : s.isTail = true) :
    s.headStroke.counter .callsSent = satAdd (s.counter .callsSent)
      (if (s.checkSends s.tailLeft s.leadLeft.exu.preview).isSome then 1 else 0) ∧
    s.headStroke.counter .selfCalls = satAdd (s.counter .selfCalls)
      (if s.checkSends s.tailLeft s.leadLeft.exu.preview = some .self then 1 else 0) := by
  have hsingle := State.leadLeft_isSingle hhead htail
  have hsent := State.callCheck_callsSent_of_single s.leadLeft hsingle
  have hself := State.callCheck_selfCalls s.leadLeft
  have hchecks : s.leadLeft.checkSends s.leadLeft.tail s.leadLeft.exu.preview =
      s.checkSends s.tailLeft s.leadLeft.exu.preview := by
    rw [State.leadLeft_eq htail]
    rfl
  rw [hchecks, State.leadLeft_counter htail (by decide)] at hsent hself
  rw [State.headStroke_eq_callCheck htail]
  exact ⟨hsent, hself⟩

/-- R97, R109: the call of the call check joins the head's list, the pusher being busy. -/
theorem State.headStroke_head_of_single {s : State} (hhead : s.isHead = true) (htail : s.isTail = true)
    (hbusy : s.head.pusher ≠ .idle) :
    s.headStroke.head =
      if (s.checkSends s.tailLeft s.leadLeft.exu.preview).isSome then
        Head.withCall { s.head with nextSerial := s.loaded.head.nextSerial } (s.tail.counter + 1)
      else { s.head with nextSerial := s.loaded.head.nextSerial } := by
  have hsingle := State.leadLeft_isSingle hhead htail
  have hhd : s.leadLeft.head = { s.head with nextSerial := s.loaded.head.nextSerial } := by rw [State.leadLeft_eq htail]
  have htl : s.leadLeft.tail = s.tailLeft := by rw [State.leadLeft_eq htail]
  have hcounter : s.tailLeft.counter = s.tail.counter := by
    unfold State.tailLeft
    dsimp only
    split <;> rfl
  have hldu : s.leadLeft.ldu = s.ldu := by rw [State.leadLeft_eq htail]
  have hcalled := State.callCheck_head_of_single s.leadLeft hsingle (by rw [hhd]; exact hbusy)
  rw [htl, hcounter, State.checkSends_congr hldu, hhd] at hcalled
  rw [State.headStroke_eq_callCheck htail, hcalled]

end Sys2Proof.Machine
end

section
/-!
PROOFS. The PUSHED edge (O28): what it leaves of the head and the rest, and when it is spurious (R99, R110).
-/

namespace Sys2Proof.Machine

/-! ### The PUSHED edge (R99) -/

/-- R99: the pusher waits for a PUSHED edge, or is owed one. -/
def Head.TakesPush (h : Head) : Prop := h.pusher = .pushing ∨ h.pusher = .fault ∧ h.owed = true

theorem Head.TakesPush.busy {h : Head} (ht : h.TakesPush) : h.pusher ≠ .idle := by
  rcases ht with hp | ⟨hp, _⟩ <;> rw [hp] <;> decide

theorem Head.TakesPush.owed {h : Head} (ht : h.TakesPush) (hp : h.pusher = .fault) : h.owed = true := by
  rcases ht with hpushing | ⟨-, howed⟩
  · exact absurd (hp.symm.trans hpushing) (by decide)
  · exact howed

/-- R99: the head once the pulse and the timer of its push have ended. -/
def Head.pushEnded (h : Head) : Head := { h with pusher := .idle, pulse := none, timer := none }

theorem State.takePushed_of_pushing {s : State} (h : s.head.pusher = .pushing) :
    s.takePushed = ({ s.headStroke with head := s.headStroke.head.pushEnded } : State).tryStart := by
  unfold State.takePushed
  rw [h]
  rfl

theorem State.takePushed_of_owed {s : State} (h : s.head.pusher = .fault) (howed : s.head.owed = true) :
    s.takePushed = ({ s.headStroke with head := { s.headStroke.head with owed := false } } : State).count .latePushed := by
  unfold State.takePushed
  rw [h]
  exact if_pos howed

/-- R99: after the stroke only the head and counters change. -/
theorem State.takePushed_eq {s : State} (h : s.head.TakesPush) :
    s.takePushed = { s.headStroke with head := s.takePushed.head, counters := s.takePushed.counters } := by
  rcases h with hp | ⟨hp, howed⟩
  · rw [State.takePushed_of_pushing hp]
    exact State.tryStart_eq _
  · rw [State.takePushed_of_owed hp howed]
    rfl

theorem State.takePushed_only {s : State} (h : s.head.TakesPush) :
    CountsOnly [.pushesStarted, .latePushed] s.headStroke s.takePushed := by
  rcases h with hp | ⟨hp, howed⟩
  · rw [State.takePushed_of_pushing hp]
    exact (CountsOnly.of_counters rfl).trans ((State.tryStart_only _).mono (by decide))
  · rw [State.takePushed_of_owed hp howed]
    exact (CountsOnly.of_counters rfl).trans (State.count_only (by decide) _)

theorem State.takePushed_frame {s : State} (h : s.head.TakesPush) : PushFrame s s.takePushed :=
  s.headStroke_frame.trans (.of_head (State.takePushed_eq h))

theorem State.takePushed_cq {s : State} (h : s.head.TakesPush) :
    s.takePushed.cq = s.cq.shifted s.img.cadence s.now s.loadedSlot := by
  rw [State.takePushed_eq h, ← State.headStroke_cq]

theorem State.PushFrame.tryStart_head {s t : State} (hf : PushFrame s t) (hon : s.onLine = true) (h : Head) :
    ({ t with head := h } : State).tryStart.head = s.startedHead s.hlu.entries h := by
  have hstart : ({ t with head := h } : State).tryStart.head = ({ t with head := h } : State).startedHead t.hlu.entries h :=
    State.tryStart_head { t with head := h } (hf.onLine.trans hon)
  rw [hstart, hf.hlu]
  exact State.startedHead_congr hf.isHead hf.now hf.img _ _

/-- R98, R99: the pulse and the timer end, and R98 may start the next stroke. -/
theorem State.takePushed_head_of_pushing {s : State} (hon : s.onLine = true) (h : s.head.pusher = .pushing) :
    s.takePushed.head = s.startedHead s.hlu.entries s.headStroke.head.pushEnded := by
  rw [State.takePushed_of_pushing h, s.headStroke_frame.tryStart_head hon]

theorem State.takePushed_head_of_owed {s : State} (h : s.head.pusher = .fault) (howed : s.head.owed = true) :
    s.takePushed.head = { s.headStroke.head with owed := false } := by
  rw [State.takePushed_of_owed h howed]
  rfl

theorem State.takePushed_latePushed {s : State} (h : s.head.pusher = .fault) (howed : s.head.owed = true) :
    s.takePushed.counter .latePushed = satAdd (s.counter .latePushed) 1 := by
  rw [State.takePushed_of_owed h howed, State.counter_count]
  exact congrArg (satAdd · 1) (s.headStroke_only _ (by decide))

theorem State.startedHead_nextSerial (s : State) (es : List HoldEntry) (h : Head) :
    (s.startedHead es h).nextSerial = h.nextSerial := by
  unfold State.startedHead
  split
  · split <;> rfl
  · rfl

theorem State.headStroke_nextSerial (s : State) : s.headStroke.head.nextSerial = s.loaded.head.nextSerial := by
  rw [State.headStroke_eq_shift, (State.shift_shift _ _ _).head]

theorem State.takePushed_nextSerial {s : State} (hon : s.onLine = true) (h : s.head.TakesPush) :
    s.takePushed.head.nextSerial = s.loaded.head.nextSerial := by
  rw [← State.headStroke_nextSerial]
  rcases h with hp | ⟨hp, howed⟩
  · rw [State.takePushed_head_of_pushing hon hp, State.startedHead_nextSerial]
    rfl
  · rw [State.takePushed_head_of_owed hp howed]

/-- R13, R114, R115: what becomes of the lead of a line of one station. -/
theorem State.takePushed_leadDecided {s : State} (hhead : s.isHead = true) (htail : s.isTail = true) (h : s.head.TakesPush) :
    s.LeadDecided s.takePushed (s.cq.lastStroke + 1) := by
  have heq := State.takePushed_eq h
  obtain ⟨hexu, -, htau, -⟩ := State.headStroke_of_single hhead htail
  have hp : s.loaded.countExcursion = { s.loaded with counters := s.loaded.countExcursion.counters } := State.countExcursion_eq _
  have hlink : LinkFrame s.loaded s.loaded.countExcursion := State.countExcursion_link _
  have hhanded : s.loaded.handedOn synthNone = s.loaded.countExcursion.handOn (s.cq.lastStroke + 1) synthNone s.leaving := by
    unfold State.handedOn
    rw [s.loaded_cq, s.loaded_leaving]
  refine State.leadDecided_of_handOn (p := s.loaded.countExcursion) (b := synthNone)
    (hlink.isTail.trans (s.loaded_frame.isTail.trans htail)) (hlink.exu.trans s.loaded_exu) (hlink.img.trans s.loaded_frame.img)
    (hlink.now.trans s.loaded_frame.now) ((s.loaded_only.mono (by decide)).trans ((State.countExcursion_only _).mono (by decide)))
    ?_ ?_ ?_
  · rw [heq]
    exact htau
  · rw [← hhanded, heq]
    dsimp only
    rw [hexu, State.leadLeft_eq htail]
  · rw [← hhanded]
    exact (s.headStroke_after_handedOn.mono (by decide)).trans ((State.takePushed_only h).mono (by decide))

/-- R103, R105, R113: the preview and the call check of a line of one station. -/
theorem State.takePushed_tailChecked {s : State} (hhead : s.isHead = true) (htail : s.isTail = true) (h : s.head.TakesPush) :
    s.TailChecked s.takePushed s.tailLeft := by
  obtain ⟨hexu, hcalled, -, -⟩ := State.headStroke_of_single hhead htail
  obtain ⟨-, hself⟩ := State.headStroke_calls hhead htail
  have heq := State.takePushed_eq h
  have hpreview : s.takePushed.exu.preview = s.leadLeft.exu.preview := by rw [heq]; dsimp only; rw [hexu]
  unfold State.TailChecked
  rw [hpreview]
  refine ⟨?_, ?_, ?_⟩
  · rw [heq, State.leadLeft_preview htail]
  · rw [heq]
    dsimp only
    rw [hcalled]
    cases s.checkSends s.tailLeft s.leadLeft.exu.preview <;> rfl
  · rw [State.takePushed_only h _ (by decide), hself]

/-! ### The statement's own terms (R16 to R18, R98) -/

theorem Image.weighs_iff (img : Image) : img.weighs = true ↔ img.weigh = 1 := by simp [Image.weighs]

theorem State.observe_loadedSlot (s : State) (e : Env) : (s.observe e).loadedSlot =
    if e.loaderPresent then
      some { serial := some s.head.nextSerial
             mass := if s.img.weigh = 1 then clampNat e.weigh s.img.massLow s.img.massHigh else s.img.nominalMass
             h := 0, d := 0, soak := 0
             flags := { Flags.empty with
               massClamped := decide (s.img.weigh = 1 ∧ (e.weigh < s.img.massLow ∨ s.img.massHigh < e.weigh)) }
             stations := [], self := none }
    else none := by
  have hmass : (s.observe e).newMass =
      if s.img.weigh = 1 then clampNat e.weigh s.img.massLow s.img.massHigh else s.img.nominalMass := by
    unfold State.newMass
    simp only [Image.weighs_iff]
    rfl
  have hclamped : (s.observe e).weighClamped =
      decide (s.img.weigh = 1 ∧ (e.weigh < s.img.massLow ∨ s.img.massHigh < e.weigh)) := by
    unfold State.weighClamped
    rw [Bool.eq_iff_iff, Bool.and_eq_true, Image.weighs_iff, decide_eq_true_iff, decide_eq_true_iff]
    rfl
  unfold State.loadedSlot State.newRecord
  rw [hmass, hclamped]
  rfl

/-- R98: no stroke starts without a pending call, or while the hold list has an entry. -/
theorem State.startedHead_stays (s : State) {es : List HoldEntry} {h : Head} (hs : h.calls = [] ∨ es ≠ []) :
    s.startedHead es h = h := by
  rcases hs with hnil | hheld
  · exact s.startedHead_of_calls_nil es h hnil
  · unfold State.startedHead
    split
    · exact if_neg (fun hstart => hheld hstart.1)
    · rfl

theorem State.startedHead_starts {s : State} {h : Head} {n : Half} {rest : List Half} (hcalls : h.calls = n :: rest)
    (hhead : s.isHead = true) (hidle : h.pusher = .idle) : s.startedHead [] h =
      { h with
        calls := rest, lastExecuted := some n, pusher := .pushing, pulse := some (after s.now s.img.pusherPulse)
        timer := some (after s.now s.img.pusherTimeout) } := by
  unfold State.startedHead
  rw [hcalls]
  exact if_pos ⟨rfl, hhead, hidle⟩

/-- R110: any other PUSHED edge at the head. -/
theorem State.takePushed_spurious {s : State} (h : s.head.pusher = .idle ∨ s.head.pusher = .fault ∧ s.head.owed = false) :
    s.takePushed = s.count .pushedSpurious := by
  unfold State.takePushed
  rcases h with hp | ⟨hp, howed⟩
  · rw [hp]
  · rw [hp]
    exact if_neg (by simp [howed])

theorem execPushed_taken (e : Env) (s : State) (hon : s.onLine = true) (hhead : s.isHead = true) :
    exec (.pushed e) s = .next (s.observe e).takePushed := by
  have ht : ((s.observe e).onLine && (s.observe e).isHead) = true := Bool.and_eq_true_iff.mpr ⟨hon, hhead⟩
  exact congrArg Host.Outcome.next (if_pos ht)

theorem execPushed_spurious (e : Env) (s : State)
    (h : s.onLine = false ∨ s.isHead = false ∨ s.head.pusher = .idle ∨ (s.head.pusher = .fault ∧ s.head.owed = false)) :
    exec (.pushed e) s = .next ((s.observe e).count .pushedSpurious) := by
  by_cases hat : s.onLine = true ∧ s.isHead = true
  · obtain ⟨hon, hhead⟩ := hat
    have hpusher : s.head.pusher = .idle ∨ s.head.pusher = .fault ∧ s.head.owed = false := by simpa [hon, hhead] using h
    rw [execPushed_taken e s hon hhead, State.takePushed_spurious (s := s.observe e) hpusher]
  · have ht : ((s.observe e).onLine && (s.observe e).isHead) = false :=
      Bool.eq_false_iff.mpr (fun hb => hat (Bool.and_eq_true_iff.mp hb))
    exact congrArg Host.Outcome.next (if_neg (by rw [ht]; decide))

/-! ### The head after the edge, and the line of one station -/

/-- R99: the head after a push that ended in time, at a station that is not the tail. -/
theorem State.takePushed_head_of_notTail {s : State} (hon : s.onLine = true) (htail : s.isTail = false)
    (h : s.head.pusher = .pushing) : s.takePushed.head = s.startedHead s.hlu.entries
      { s.head with pusher := .idle, pulse := none, timer := none, nextSerial := s.takePushed.head.nextSerial } := by
  obtain ⟨hhead, -, -⟩ := State.headStroke_untouched_of_notTail htail
  rw [State.takePushed_nextSerial hon (.inl h), State.takePushed_head_of_pushing hon h, hhead]
  rfl

/-- R97, R99, R109: what the edge leaves of the head, tail, Exit Unit and ports of a line of one station. -/
theorem State.takePushed_of_single {s : State} (hon : s.onLine = true) (hhead : s.isHead = true) (htail : s.isTail = true)
    (h : s.head.TakesPush) :
    s.LeadDecided s.takePushed (s.cq.lastStroke + 1) ∧ s.TailChecked s.takePushed s.tailLeft ∧
    s.takePushed.counter .callsSent = satAdd (s.counter .callsSent)
      (if (s.checkSends s.tailLeft s.takePushed.exu.preview).isSome then 1 else 0) ∧
    (∀ p, s.takePushed.port p = s.port p) ∧
    (∀ x : Head, x = (if (s.checkSends s.tailLeft s.takePushed.exu.preview).isSome then
        Head.withCall { s.head with nextSerial := s.takePushed.head.nextSerial } (s.tail.counter + 1)
      else { s.head with nextSerial := s.takePushed.head.nextSerial }) →
      (s.head.pusher = .pushing →
        s.takePushed.head = s.startedHead s.hlu.entries { x with pusher := .idle, pulse := none, timer := none }) ∧
      (s.head.pusher = .fault → s.takePushed.head = { x with owed := false })) := by
  obtain ⟨hexu, -, -, hports⟩ := State.headStroke_of_single hhead htail
  obtain ⟨hsent, -⟩ := State.headStroke_calls hhead htail
  have heq := State.takePushed_eq h
  have hpreview : s.takePushed.exu.preview = s.leadLeft.exu.preview := by rw [heq]; dsimp only; rw [hexu]
  refine ⟨State.takePushed_leadDecided hhead htail h, State.takePushed_tailChecked hhead htail h, ?_, fun p => ?_, fun x hx => ?_⟩
  · rw [State.takePushed_only h _ (by decide), hsent, hpreview]
  · rw [heq, ← hports p]
    cases p <;> rfl
  · rw [hpreview, State.takePushed_nextSerial hon h, ← State.headStroke_head_of_single hhead htail h.busy] at hx
    subst hx
    refine ⟨fun hp => State.takePushed_head_of_pushing hon hp, fun hp => State.takePushed_head_of_owed hp (h.owed hp)⟩

theorem Head.withCall_pusher (h : Head) (n : Half) : (h.withCall n).pusher = h.pusher := by
  unfold Head.withCall
  split <;> rfl

/-- R98: the head's own stroke starts no other while its pusher is busy. -/
theorem State.headStroke_pusher {s : State} (hhead : s.isHead = true) (hbusy : s.head.pusher ≠ .idle) :
    s.headStroke.head.pusher = s.head.pusher := by
  cases htail : s.isTail with
  | false =>
    obtain ⟨hstroked, -, -⟩ := State.headStroke_untouched_of_notTail htail
    rw [hstroked]
  | true =>
    rw [State.headStroke_head_of_single hhead htail hbusy]
    split
    · rw [Head.withCall_pusher]
    · rfl

/-- R86, R158: the STROKE frame of the edge at a head that is not the tail. -/
theorem State.takePushed_sends {s : State} (htail : s.isTail = false) (h : s.head.TakesPush) :
    (s.hasRoom .down = true →
      s.takePushed.downPort.localQ = insertByClass (s.strokeFrame synthNone) s.downPort.localQ ∧
      s.takePushed.counter .strokesSent = satAdd (s.counter .strokesSent) 1) ∧
    (s.linkIsUp .down = false → s.takePushed.downPort.localQ = s.downPort.localQ ∧
      s.takePushed.counter .strokesRefused = satAdd (s.counter .strokesRefused) 1) := by
  have hport : s.takePushed.downPort = s.headStroke.downPort := by rw [State.takePushed_eq h]
  have hc := State.takePushed_only h
  rw [hport, hc _ (by decide), hc _ (by decide)]
  exact ⟨State.headStroke_sends htail, State.headStroke_refused htail⟩

/-- Settles O28, by the shift that the head's stroke is and what R98 and the call check do after it. -/
theorem pushedEdgeTakesTheStroke : Obligations.PushedEdgeTakesTheStroke := by
  intro e s u hu
  subst hu
  refine ⟨fun hon hhead hpush => ⟨_, execPushed_taken e s hon hhead, ?_⟩,
    fun hon hhead hfault howed => ⟨_, execPushed_taken e s hon hhead, ?_⟩, execPushed_spurious e s⟩
  · have hon' : (s.observe e).onLine = true := hon
    have hhead' : (s.observe e).isHead = true := hhead
    have htakes : (s.observe e).head.TakesPush := hpush
    have hf := State.takePushed_frame htakes
    have heq := State.takePushed_eq htakes
    have hserial := State.takePushed_nextSerial hon' htakes
    refine ⟨?_, ?_, fun htail => State.takePushed_sends (s := s.observe e) htail htakes, fun hfault => ⟨?_, fun htail => ?_⟩,
      fun hpushing htail hstays => ?_, fun hpushing htail n rest hcalls hempty => ?_, ?_, fun htail => ?_,
      fun htail => State.takePushed_of_single hon' hhead' htail htakes,
      hf.ldu, hf.hlu, hf.ivi, hf.pdu, hf.tracker, hf.svi, hf.pins, hf.tau, hf.cru, hf.port⟩
    · rw [State.takePushed_cq htakes, State.observe_loadedSlot]
      rfl
    · rw [hserial, State.loaded_nextSerial]
      rfl
    · exact State.takePushed_latePushed (s := s.observe e) hfault (htakes.owed hfault)
    · obtain ⟨hstroked, -, -⟩ := State.headStroke_untouched_of_notTail (s := s.observe e) htail
      rw [hserial, State.takePushed_head_of_owed (s := s.observe e) hfault (htakes.owed hfault), hstroked]
      rfl
    · exact (State.takePushed_head_of_notTail hon' htail hpushing).trans (State.startedHead_stays _ hstays)
    · refine (State.takePushed_head_of_notTail hon' htail hpushing).trans ?_
      rw [show (s.observe e).hlu.entries = [] from hempty]
      exact State.startedHead_starts hcalls hhead' rfl
    · exact (State.takePushed_only htakes _ (by decide)).trans (State.headStroke_shifts _)
    · obtain ⟨-, htl, hexu⟩ := State.headStroke_untouched_of_notTail (s := s.observe e) htail
      rw [heq]
      exact ⟨htl, hexu⟩
  · have htakes : (s.observe e).head.TakesPush := .inr ⟨hfault, howed⟩
    have hf := State.takePushed_frame htakes
    refine ⟨congrArg CoilQueue.lastStroke (State.takePushed_cq htakes), ?_, ?_,
      State.takePushed_latePushed (s := s.observe e) hfault howed, hf.hlu, hf.ldu, hf.ivi⟩
    · rw [State.takePushed_head_of_owed (s := s.observe e) hfault howed]
      exact (State.headStroke_pusher (s := s.observe e) hhead htakes.busy).trans hfault
    · rw [State.takePushed_head_of_owed (s := s.observe e) hfault howed]

end Sys2Proof.Machine
end

section
/-!
PROOFS. The distribution of a period's energy (O31): at a valid image every record weighs (R191), and the shares of R33 leave over less
than one unit per record.
-/

namespace Sys2Proof.Machine

/-! ### What a valid image gives the weights (R26, R191) -/

/-- R191: the weights of a valid image are above 0; row 8 stands before 38 others. -/
theorem Image.weight_pos {img : Image} (h : img.firstFailure = none) {i : Nat} (hi : i < 8) :
    0 < (img.weights[i]?).getD 0 := by
  have hc := Image.ok_of_mem_checks h (c := ⟨8, i, within ((img.weights[i]?).getD 0) 1 255⟩) (by
    unfold Image.checks
    iterate 38 apply List.mem_append_left
    exact List.mem_append_right _ (mem_checkEach (fun i => within ((img.weights[i]?).getD 0) 1 255) hi))
  simp only [within, decide_eq_true_eq] at hc
  obtain ⟨hpos, -⟩ := hc
  exact hpos

/-- R26: the coupling of each segment of a valid image is above 0; row 30 stands before 16 others. -/
theorem Image.coupling_pos {img : Image} (h : img.firstFailure = none) {k : Nat} (hk : k < img.segmentCount) :
    0 < (img.factor k).c := by
  have hn := Image.breakpointCount_range h
  have hseg : img.segmentCount = img.breakpointCount - 1 := rfl
  have hc := Image.ok_of_mem_checks h (c := ⟨30, k, img.factorOk k⟩) (by
    unfold Image.checks
    iterate 16 apply List.mem_append_left
    exact List.mem_append_right _ (mem_checkEach img.factorOk (by omega)))
  simp only [Image.factorOk, within, Bool.and_eq_true, decide_eq_true_eq] at hc
  obtain ⟨⟨⟨⟨hpos, -⟩, -⟩, -⟩, -⟩ := hc
  exact hpos

theorem Image.segmentOf_lt {img : Image} (h : img.firstFailure = none) (x : Nat) : img.segmentOf x < img.segmentCount := by
  have hn := Image.breakpointCount_range h
  have hseg : img.segmentCount = img.breakpointCount - 1 := rfl
  unfold Image.segmentOf
  omega

/-- R33: at a valid image a record weighs in each of the 8 slots. -/
theorem slotWeight_pos {img : Image} (h : img.firstFailure = none) {i : Nat} (hi : i < 8) (r : Record) :
    0 < slotWeight img i (some r) :=
  Nat.mul_pos (Image.weight_pos h hi) (Image.coupling_pos h (Image.segmentOf_lt h _))

/-! ### Weights and shares (R33) -/

theorem slotWeights_length (img : Image) (i : Nat) (slots : List Slot) : (slotWeights img i slots).length = slots.length := by
  induction slots generalizing i with
  | nil => rfl
  | cons x rest ih => exact congrArg (· + 1) (ih (i + 1))

theorem shares_length (img : Image) (pool : Nat) (slots : List Slot) : (shares img pool slots).length = slots.length := by
  unfold shares
  rw [List.length_map, slotWeights_length]

/-- R33: each slot takes the part of the pool that its weight has of all weights, rounded down. -/
theorem shares_getElem? (img : Image) (pool : Nat) (slots : List Slot) {i : Nat} (hi : i < slots.length) :
    (shares img pool slots)[i]? =
      some (pool * (slotWeights img 0 slots).getD i 0 / (slotWeights img 0 slots).sum) := by
  have hlen : i < (slotWeights img 0 slots).length := by rw [slotWeights_length]; exact hi
  unfold shares
  rw [List.getElem?_map, List.getElem?_eq_getElem hlen, List.getD_eq_getElem _ _ hlen]
  rfl

/-- R33: an occupied queue weighs at a valid image. -/
theorem slotWeights_sum_pos {img : Image} (h : img.firstFailure = none) {slots : List Slot} (ho : occupied slots = true)
    {i : Nat} (hi : i + slots.length ≤ 8) : 0 < (slotWeights img i slots).sum := by
  induction slots generalizing i with
  | nil => exact absurd ho (by decide)
  | cons x rest ih =>
    rw [List.length_cons] at hi
    rw [slotWeights, List.sum_cons]
    cases x with
    | some r => exact Nat.add_pos_left (slotWeight_pos h (by omega) r) _
    | none => exact Nat.add_pos_right _ (ih ho (by omega))

/-- Parts rounded down stay within the whole. -/
theorem sum_parts_mul_le (pool total : Nat) (ws : List Nat) :
    (ws.map (fun w => pool * w / total)).sum * total ≤ pool * ws.sum := by
  induction ws with
  | nil => exact Nat.le_of_eq (Nat.zero_mul _)
  | cons w rest ih =>
    rw [List.map_cons, List.sum_cons, List.sum_cons, Nat.add_mul, Nat.mul_add]
    exact Nat.add_le_add (Nat.div_mul_le_self _ _) ih

/-- R33: the parts of the records miss less than one `total` each; a GAP has no weight and misses nothing. -/
theorem weighed_le_sum_parts (img : Image) (pool : Nat) {total : Nat} (ht : 0 < total) (i : Nat) (slots : List Slot) :
    pool * (slotWeights img i slots).sum + (slots.filter Option.isSome).length ≤
      ((slotWeights img i slots).map (fun w => pool * w / total)).sum * total +
        (slots.filter Option.isSome).length * total := by
  induction slots generalizing i with
  | nil => exact Nat.le_of_eq (by simp [slotWeights])
  | cons x rest ih =>
    have hrest := ih (i + 1)
    rw [slotWeights, List.map_cons, List.sum_cons, List.sum_cons, Nat.mul_add, Nat.add_mul]
    cases x with
    | none =>
      rw [List.filter_cons_of_neg (by decide)]
      have hgap : pool * slotWeight img i none = 0 := Nat.mul_zero pool
      omega
    | some r =>
      rw [List.filter_cons_of_pos rfl, List.length_cons, Nat.add_mul _ 1, Nat.one_mul]
      have hpart := Nat.lt_div_mul_add (a := pool * slotWeight img i (some r)) ht
      omega

theorem length_filter_isSome_pos {slots : List Slot} (ho : occupied slots = true) :
    0 < (slots.filter Option.isSome).length := by
  obtain ⟨x, hmem, hsome⟩ := List.any_eq_true.mp ho
  exact List.length_pos_of_mem (List.mem_filter.mpr ⟨hmem, hsome⟩)

/-- Settles O31: counted in parts of the total weight, each record misses less than one unit of the pool and a GAP misses
nothing. -/
theorem sharesLeaveLessThanOnePerRecord : Obligations.SharesLeaveLessThanOnePerRecord := by
  intro img pool slots himg hlen ho
  have htotal := slotWeights_sum_pos himg ho (i := 0) (by omega)
  have hcount := length_filter_isSome_pos ho
  have hweighed := weighed_le_sum_parts img pool htotal 0 slots
  have hshares : shares img pool slots =
    (slotWeights img 0 slots).map (fun w => pool * w / (slotWeights img 0 slots).sum) := rfl
  rw [← hshares, ← Nat.add_mul] at hweighed
  have hle : (shares img pool slots).sum ≤ pool :=
    Nat.le_of_mul_le_mul_right (sum_parts_mul_le pool _ (slotWeights img 0 slots)) htotal
  have hlt : pool < (shares img pool slots).sum + (slots.filter Option.isSome).length :=
    Nat.lt_of_mul_lt_mul_right (a := (slotWeights img 0 slots).sum) (by omega)
  exact ⟨shares_length img pool slots, hle, by omega, fun i hi => shares_getElem? img pool slots hi⟩

end Sys2Proof.Machine
end

section
/-!
PROOFS. The accounting of a period end: what it makes of each slot and counter (R31 to R40).
-/

namespace Sys2Proof.Machine

/-! ### The slots after a period end (R40) -/

/-- R40: each slot is brought up to date with its own share. -/
theorem updateSlots_getElem? (img : Image) (short slot0 : Bool) {slots : List Slot} {shs : List Nat} {i share : Nat} {x : Slot}
    (hx : slots[i]? = some x) (hshare : shs[i]? = some share) :
    (updateSlots img short slot0 slots shs)[i]? =
      some (x.map (Record.periodUpdate img (slot0 && decide (i = 0)) short share)) := by
  induction slots generalizing slot0 shs i with
  | nil => exact absurd hx (by simp)
  | cons y rest ih =>
    cases shs with
    | nil => exact absurd hshare (by simp)
    | cons first shs =>
      cases i with
      | zero =>
        obtain rfl : y = x := by simpa using hx
        obtain rfl : first = share := by simpa using hshare
        cases y <;> simp [updateSlots]
      | succ i =>
        rw [List.getElem?_cons_succ] at hx hshare
        have hrest := ih false hx hshare
        cases y <;> simpa [updateSlots] using hrest

/-- R32: with an empty coil no slot changes. -/
theorem updateSlots_of_not_occupied (img : Image) (short slot0 : Bool) {slots : List Slot} (ho : occupied slots = false)
    (shs : List Nat) : updateSlots img short slot0 slots shs = slots := by
  induction slots generalizing slot0 shs with
  | nil => cases shs <;> rfl
  | cons x rest ih =>
    cases x with
    | some r => exact absurd ho (by simp [occupied])
    | none =>
      cases shs with
      | nil => rfl
      | cons share shs => exact congrArg (none :: ·) (ih false (by simpa [occupied] using ho) shs)

/-- R34, R36: the records that gained a flag, counted pair by pair. -/
theorem gained_eq_countP (flag : Flags → Bool) (xs ys : List Slot) : gained flag xs ys =
    (xs.zip ys).countP fun y => y.1.any (fun r => !flag r.flags) && y.2.any (fun r => flag r.flags) := by
  induction xs generalizing ys with
  | nil => rfl
  | cons x xs ih =>
    cases ys with
    | nil => cases x <;> rfl
    | cons y ys =>
      rw [List.zip_cons_cons, List.countP_cons, ← ih]
      cases x with
      | none => simp [gained]
      | some a =>
        cases y with
        | none => simp [gained]
        | some b => simp [gained, Nat.add_comm]

/-- A record whose flags stay gains none. -/
theorem gained_self (flag : Flags → Bool) (xs : List Slot) : gained flag xs xs = 0 := by
  induction xs with
  | nil => rfl
  | cons x xs ih =>
    cases x with
    | none => exact ih
    | some a => simp [gained, ih]

/-- R34 to R39: a record brought up to date, field by field. -/
theorem Record.periodUpdate_eq {img : Image} {slot0 : Prop} [Decidable slot0] {short : Bool} {share loss : Nat} {r x : Record}
    {f : Factors} (hf : f = img.factorsAt r.specific) (hloss : loss = f.l * r.mass / 1000)
    (hx : x = { r with
      h := (clampInt ((r.h : Int) + share - loss) 0 40000000).toNat
      d := (clampInt ((r.d : Int) - (r.d * f.d / 256 : Nat) + (share * 1000 / r.mass * f.g / 256 : Nat)) 0 400).toNat }) :
    r.periodUpdate img (decide slot0) short share = { x with
      soak := if img.soakThreshold ≤ x.mean img then min (r.soak + 1) 65535 else r.soak
      flags := { r.flags with
        modelLimit := r.flags.modelLimit || decide ((r.h : Int) + share - loss ≥ 40000000) ||
          decide (img.last.h ≤ x.specific)
        surfaceExcess := r.flags.surfaceExcess || decide (img.surfaceLimit < x.surface img)
        creditShort := r.flags.creditShort || short }
      self := if slot0 then r.self.map (fun y => { y with
        accrued := clampInt (y.accrued + share - loss) (-40000000) 40000000 }) else r.self } := by
  subst hx hloss hf
  unfold Record.periodUpdate
  simp only [decide_eq_true_eq]
  rfl

/-! ### The distribution (R32 to R40) -/

/-- The slots with the shares of a pool (R33, R40). -/
def State.updatedSlots (s : State) (pool : Nat) : List Slot :=
  updateSlots s.img s.ivi.latchedMark true s.cq.slots (shares s.img pool s.cq.slots)

/-- R34 to R40: each slot with its share; a GAP stays a GAP. -/
theorem State.updatedSlots_getElem? {s : State} {pool i share : Nat} {x : Slot} (hx : s.cq.slots[i]? = some x)
    (hshare : (shares s.img pool s.cq.slots)[i]? = some share) : (s.updatedSlots pool)[i]? =
      some (x.map (Record.periodUpdate s.img (decide (i = 0)) s.ivi.latchedMark share)) :=
  updateSlots_getElem? _ _ true hx hshare

theorem State.updatedSlots_gap {s : State} {i : Nat} (h : s.cq.slots[i]? = some none) (pool : Nat) :
    (s.updatedSlots pool)[i]? = some none := by
  obtain ⟨hi, -⟩ := List.getElem?_eq_some_iff.mp h
  exact State.updatedSlots_getElem? h (shares_getElem? _ _ _ hi)

theorem State.updatedSlots_length (s : State) (pool : Nat) : (s.updatedSlots pool).length = s.cq.slots.length :=
  (updateSlots_forall₂ _ _ _ _ _).length_eq.symm

/-- The residue that a pool leaves (R32, R33). -/
def State.leftOver (s : State) (pool : Nat) : Nat :=
  if occupied s.cq.slots then pool - (shares s.img pool s.cq.slots).sum else 0

/-- R32 to R40: the distribution brings the slots up to date, keeps the residue and counts. -/
theorem State.distribute_eq (s : State) (useful : Nat) : s.distribute useful = { s with
    cq := { s.cq with slots := s.updatedSlots (useful + s.tau.residue) }
    tau := { s.tau with residue := s.leftOver (useful + s.tau.residue) }
    counters := (s.distribute useful).counters } := by
  unfold State.distribute State.leftOver State.updatedSlots
  dsimp only
  cases ho : occupied s.cq.slots with
  | true => rfl
  | false =>
    rw [updateSlots_of_not_occupied _ _ _ ho]
    rfl

theorem State.distribute_only (s : State) (useful : Nat) :
    CountsOnly [.modelLimits, .surfaceExcesses, .energyUnplaced] s (s.distribute useful) := by
  unfold State.distribute
  dsimp only
  split
  · exact ((CountsOnly.of_counters rfl).trans (State.countBy_only (by decide) _ _)).trans (State.countBy_only (by decide) _ _)
  · exact (CountsOnly.of_counters rfl).trans (State.countBy_only (by decide) _ _)

/-- R32, R34, R36: what the distribution counts. -/
theorem State.distribute_counters (s : State) {useful pool : Nat} (hpool : pool = useful + s.tau.residue) :
    (s.distribute useful).counter .modelLimits =
      satAdd (s.counter .modelLimits) (gained Flags.modelLimit s.cq.slots (s.updatedSlots pool)) ∧
    (s.distribute useful).counter .surfaceExcesses =
      satAdd (s.counter .surfaceExcesses) (gained Flags.surfaceExcess s.cq.slots (s.updatedSlots pool)) ∧
    (s.distribute useful).counter .energyUnplaced =
      satAdd (s.counter .energyUnplaced) (if occupied s.cq.slots then 0 else pool) := by
  subst hpool
  unfold State.distribute State.updatedSlots
  dsimp only
  cases ho : occupied s.cq.slots with
  | true =>
    refine ⟨?_, ?_, ?_⟩
    · rw [if_pos rfl, State.counter_countBy_ne _ _ _ _ (by decide), State.counter_countBy]
      rfl
    · rw [if_pos rfl, State.counter_countBy, State.counter_countBy_ne _ _ _ _ (by decide)]
      rfl
    · rw [if_pos rfl, State.counter_countBy_ne _ _ _ _ (by decide), State.counter_countBy_ne _ _ _ _ (by decide), if_pos rfl,
        satAdd_zero]
      rfl
  | false =>
    rw [updateSlots_of_not_occupied _ _ _ ho, gained_self, gained_self, satAdd_zero, satAdd_zero, if_neg Bool.false_ne_true]
    refine ⟨?_, ?_, ?_⟩
    · rw [State.counter_countBy_ne _ _ _ _ (by decide)]
      rfl
    · rw [State.counter_countBy_ne _ _ _ _ (by decide)]
      rfl
    · rw [State.counter_countBy, if_neg Bool.false_ne_true]
      rfl

/-! ### The feedback sample (R31) -/

theorem State.countSample_eq (s : State) (x : Sample) :
    s.countSample x = { s with counters := (s.countSample x).counters } := by
  unfold State.countSample
  dsimp only
  split
  · rfl
  · split <;> rfl

theorem State.countSample_only (s : State) (x : Sample) :
    CountsOnly [.feedbackInvalid, .feedbackSaturated, .energyUseful] s (s.countSample x) := by
  unfold State.countSample
  dsimp only
  split
  · exact (State.count_only (by decide) s).trans (State.countBy_only (by decide) _ _)
  · split
    · exact (State.count_only (by decide) s).trans (State.countBy_only (by decide) _ _)
    · exact State.countBy_only (by decide) _ _

/-- R31: what the sample of a period end counts. -/
theorem State.countSample_counters (s : State) {x : Sample} (hx : x.substituted = !s.pins.feedbackValid) :
    (s.countSample x).counter .feedbackInvalid =
      satAdd (s.counter .feedbackInvalid) (if s.pins.feedbackValid then 0 else 1) ∧
    (s.countSample x).counter .feedbackSaturated =
      satAdd (s.counter .feedbackSaturated) (if s.pins.feedbackValid ∧ 6000 < s.pins.feedback.toNat then 1 else 0) ∧
    (s.countSample x).counter .energyUseful = satAdd (s.counter .energyUseful) x.useful := by
  unfold State.countSample
  dsimp only
  rw [hx]
  cases s.pins.feedbackValid with
  | false => simp [State.count, State.counter_countBy_ne, satAdd_zero]
  | true =>
    by_cases hsat : 6000 < s.pins.feedback.toNat <;>
      simp [hsat, State.count, State.counter_countBy_ne, satAdd_zero]

/-! ### The accounting (R24, R31 to R40) -/

/-- R32: the pool of a period end: the useful energy and the residue. -/
def State.periodPool (s : State) : Nat := s.feedbackSample.useful + s.tau.residue

/-- R31: the period and its feedback sample are counted. -/
def State.sampled (s : State) : State := (s.count .periods).countSample s.feedbackSample

theorem State.account_eq_distribute (s : State) : s.account =
    { s.sampled.distribute s.feedbackSample.useful with
      tau := { (s.sampled.distribute s.feedbackSample.useful).tau with sample := s.feedbackSample } } := rfl

theorem State.sampled_eq (s : State) : s.sampled = { s with counters := s.sampled.counters } := State.countSample_eq _ _

/-- R24, R31 to R40: the accounting in one piece. -/
theorem State.account_eq (s : State) : s.account = { s with
    cq := { s.cq with slots := s.updatedSlots s.periodPool }
    tau := { s.tau with residue := s.leftOver s.periodPool, sample := s.feedbackSample }
    counters := s.account.counters } := by
  rw [State.account_eq_distribute, State.distribute_eq, State.sampled_eq]
  rfl

/-- The counters of the feedback sample (R31). -/
def sampleCounters : List Counter := [.periods, .feedbackInvalid, .feedbackSaturated, .energyUseful]

/-- The counters of the distribution (R32 to R36). -/
def distributeCounters : List Counter := [.modelLimits, .surfaceExcesses, .energyUnplaced]

theorem State.sampled_only (s : State) : CountsOnly sampleCounters s s.sampled :=
  (State.count_only (by decide) s).trans ((State.countSample_only _ _).mono (by decide))

theorem State.account_after_sampled (s : State) : CountsOnly distributeCounters s.sampled s.account :=
  State.distribute_only _ _

theorem State.account_only (s : State) : CountsOnly (sampleCounters ++ distributeCounters) s s.account :=
  (s.sampled_only.mono (by decide)).trans (s.account_after_sampled.mono (by decide))

/-- R24, R31: what a period end counts of its feedback sample. -/
theorem State.account_sampleCounters (s : State) :
    s.account.counter .periods = satAdd (s.counter .periods) 1 ∧
    s.account.counter .feedbackInvalid = satAdd (s.counter .feedbackInvalid) (if s.pins.feedbackValid then 0 else 1) ∧
    s.account.counter .feedbackSaturated =
      satAdd (s.counter .feedbackSaturated) (if s.pins.feedbackValid ∧ 6000 < s.pins.feedback.toNat then 1 else 0) ∧
    s.account.counter .energyUseful = satAdd (s.counter .energyUseful) s.feedbackSample.useful := by
  have hafter := s.account_after_sampled
  have hcount (c : Counter) (hc : c ≠ .periods) : (s.count .periods).counter c = s.counter c :=
    s.counter_countBy_ne _ _ _ hc.symm
  obtain ⟨hinvalid, hsat, huseful⟩ := State.countSample_counters (s.count .periods) (x := s.feedbackSample) rfl
  rw [hcount _ (by decide)] at hinvalid hsat huseful
  refine ⟨?_, ?_, ?_, ?_⟩
  · exact State.counter_counted (cs := []) (.refl s) (by decide)
      (((State.countSample_only _ _).mono (by decide)).trans (hafter.mono (by decide)) :
        CountsOnly ([.feedbackInvalid, .feedbackSaturated, .energyUseful] ++ distributeCounters) _ _) (by decide)
  · exact (hafter _ (by decide)).trans hinvalid
  · exact (hafter _ (by decide)).trans hsat
  · exact (hafter _ (by decide)).trans huseful

/-- R32, R34, R36: what a period end counts of its distribution. -/
theorem State.account_distributeCounters (s : State) :
    s.account.counter .modelLimits =
      satAdd (s.counter .modelLimits) (gained Flags.modelLimit s.cq.slots (s.updatedSlots s.periodPool)) ∧
    s.account.counter .surfaceExcesses =
      satAdd (s.counter .surfaceExcesses) (gained Flags.surfaceExcess s.cq.slots (s.updatedSlots s.periodPool)) ∧
    s.account.counter .energyUnplaced =
      satAdd (s.counter .energyUnplaced) (if occupied s.cq.slots then 0 else s.periodPool) := by
  have hbefore := s.sampled_only
  have hslots : s.sampled.updatedSlots = s.updatedSlots := by rw [State.sampled_eq]; rfl
  have hcq : s.sampled.cq = s.cq := by rw [State.sampled_eq]
  have htau : s.sampled.tau = s.tau := by rw [State.sampled_eq]
  have hcounters := State.distribute_counters s.sampled (useful := s.feedbackSample.useful) (pool := s.periodPool)
    (by rw [htau]; rfl)
  rwa [hslots, hcq, hbefore _ (by decide), hbefore _ (by decide), hbefore _ (by decide)] at hcounters

end Sys2Proof.Machine
end

section
/-!
PROOFS. The call of a call check where it goes: within the part to the head of a line of one station (R97, R98, R109), or to the
local queue of the UP port (R103, R158).
-/

namespace Sys2Proof.Machine

/-! ### A local queue after an offer (R158, R159) -/

theorem insertByClass_perm (f : Frame) (q : List Frame) : (insertByClass f q).Perm (f :: q) := by
  induction q with
  | nil => exact .refl _
  | cons g rest ih =>
    unfold insertByClass
    split
    · exact (ih.cons g).trans (.swap f g rest)
    · exact .refl _

theorem mem_insertByClass (f : Frame) (q : List Frame) : f ∈ insertByClass f q :=
  (insertByClass_perm f q).mem_iff.mpr List.mem_cons_self

theorem insertByClass_length (f : Frame) (q : List Frame) : (insertByClass f q).length = q.length + 1 :=
  (insertByClass_perm f q).length_eq

/-- R158, R159: an offer makes a local queue longer by one frame at most. -/
theorem State.offer_localQ_length_le (s : State) (p : Port) (f : Frame) :
    ((s.offer p f).state.port p).localQ.length ≤ (s.port p).localQ.length + 1 := by
  rcases s.offer_cases p f with h | ⟨-, -, h⟩ | ⟨g, -, -, -, h⟩
  · rw [h, State.refuseLocal_localQ]
    omega
  · rw [h, State.takeLocal_localQ, insertByClass_length]
  · rw [h, State.takeLocal_localQ, insertByClass_length, List.length_dropLast]
    omega

theorem State.refuseLocal_other (s : State) (p : Port) (f : Frame) : (s.refuseLocal p f).port p.other = s.port p.other := by
  cases p <;> rfl

theorem State.takeLocal_other (s : State) (p : Port) (q : List Frame) (f : Frame) :
    (s.takeLocal p q f).port p.other = s.port p.other := by
  cases p <;> rfl

theorem State.displace_other (s : State) (p : Port) (g : Frame) : (s.displace p g).port p.other = s.port p.other := by
  cases p <;> rfl

/-- R158: an offer leaves the other port. -/
theorem State.offer_other (s : State) (p : Port) (f : Frame) : (s.offer p f).state.port p.other = s.port p.other := by
  rcases s.offer_cases p f with h | ⟨-, -, h⟩ | ⟨g, -, -, -, h⟩
  · rw [h, State.refuseLocal_other]
  · rw [h, State.takeLocal_other]
  · rw [h, State.takeLocal_other, State.displace_other]

/-- R158: a counted offer to a port with room. -/
theorem State.offerCounted_of_hasRoom {s : State} {p : Port} (h : s.hasRoom p = true) (f : Frame) (a b : Counter) :
    ((s.offerCounted p f a b).port p).localQ = insertByClass f (s.port p).localQ ∧
    (s.offerCounted p f a b).counter a = satAdd (s.counter a) 1 := by
  have hcount (t : State) : (t.count a).port p = t.port p := by cases p <;> rfl
  unfold State.offerCounted
  rw [State.offer_of_hasRoom h]
  refine ⟨?_, ?_⟩
  · dsimp only
    rw [if_pos rfl, hcount, State.takeLocal_localQ]
  · exact State.counter_counted (cs := []) (.of_counters (State.takeLocal_counters s p _ f)) (by simp) (ds := []) (.refl _)
      (by simp)

/-- R158: a counted offer to a port whose link is DOWN. -/
theorem State.offerCounted_of_linkDown {s : State} {p : Port} (h : s.linkIsUp p = false) (f : Frame) (a b : Counter) :
    ((s.offerCounted p f a b).port p).localQ = (s.port p).localQ ∧
    (s.offerCounted p f a b).counter b = satAdd (s.counter b) 1 := by
  have hcount (t : State) : (t.count b).port p = t.port p := by cases p <;> rfl
  unfold State.offerCounted
  rw [State.offer_of_linkDown h]
  refine ⟨?_, ?_⟩
  · dsimp only
    rw [if_neg Bool.false_ne_true, hcount, State.refuseLocal_localQ]
  · exact State.counter_counted (cs := []) (.of_counters (State.refuseLocal_counters s p f)) (by simp) (ds := []) (.refl _)
      (by simp)

/-! ### A call at the head (R97, R98) -/

theorem Head.holds_iff (h : Head) (n : Half) : h.holds n = true ↔ h.lastExecuted = some n ∨ n ∈ h.calls := by
  simp [Head.holds]

/-- R98: a stroke that starts is counted. -/
theorem State.tryStart_starts {s : State} (hon : s.onLine = true) (hhead : s.isHead = true) (hidle : s.head.pusher = .idle)
    (hempty : s.hlu.entries = []) {n : Half} {rest : List Half} (hcalls : s.head.calls = n :: rest) :
    s.tryStart.head = { s.head with
      calls := rest, lastExecuted := some n, pusher := .pushing, pulse := some (after s.now s.img.pusherPulse)
      timer := some (after s.now s.img.pusherTimeout) } ∧
    s.tryStart.counter .pushesStarted = satAdd (s.counter .pushesStarted) 1 := by
  unfold State.tryStart
  rw [hcalls]
  dsimp only
  rw [if_pos ⟨hon, hhead, hidle, hempty⟩]
  exact ⟨rfl, State.counter_count _ _⟩

/-- The counter of a call taken, by its kind (R97). -/
def callTakenCounter : CallKind → Counter
  | .press => .pressCallsTaken
  | .self => .selfCallsTaken

/-- R97: the call has joined the head's list and is counted. -/
def State.withCallTaken (s : State) (k : CallKind) (n : Half) : State :=
  ({ s with head := { s.head with calls := s.head.calls ++ [n] } } : State).count (callTakenCounter k)

theorem State.withCallTaken_only (s : State) (k : CallKind) (n : Half) :
    CountsOnly [callTakenCounter k] s (s.withCallTaken k n) :=
  (CountsOnly.of_counters rfl).trans (State.count_only List.mem_cons_self _)

theorem State.withCallTaken_counter (s : State) (k : CallKind) (n : Half) {c : Counter} :
    (s.withCallTaken k n).counter c = satAdd (s.counter c) (if callTakenCounter k = c then 1 else 0) := by
  by_cases hc : callTakenCounter k = c
  · subst hc
    rw [if_pos rfl]
    exact State.counter_count _ _
  · rw [if_neg hc, satAdd_zero]
    exact State.withCallTaken_only _ _ _ _ (by simpa using Ne.symm hc)

/-- R97: a new call that the list has room for joins it, and R98 may start a stroke. -/
theorem State.takeCall_of_room {s : State} {n : Half} (hnew : s.head.holds n = false) (hroom : s.head.calls.length < 2)
    (k : CallKind) : s.takeCall k n = (s.withCallTaken k n).tryStart := by
  unfold State.takeCall
  rw [if_neg (by simp [hnew])]
  refine (if_pos hroom).trans ?_
  cases k <;> rfl

theorem State.takeCall_of_full {s : State} {n : Half} (hnew : s.head.holds n = false) (hfull : 2 ≤ s.head.calls.length)
    (k : CallKind) : s.takeCall k n = s.count .callsDropped := by
  unfold State.takeCall
  rw [if_neg (by simp [hnew])]
  exact if_neg (Nat.not_lt.mpr hfull)

/-- R97, R98: what the head of a station on line does with a call. -/
theorem State.takeCall_headTakesCall {s : State} (hon : s.onLine = true) (hhead : s.isHead = true) (k : CallKind) (n : Half) :
    s.HeadTakesCall (s.takeCall k n) k n := by
  have hnew (h1 : s.head.lastExecuted ≠ some n) (h2 : n ∉ s.head.calls) : s.head.holds n = false :=
    Bool.eq_false_iff.mpr fun h => ((s.head.holds_iff n).mp h).elim h1 h2
  refine ⟨fun hheld => ?_, fun h1 h2 hfull => ?_, fun h1 h2 hroom => ?_⟩
  · have htake : s.takeCall k n = s.count .callsRepeated := if_pos ((s.head.holds_iff n).mpr hheld)
    rw [htake]
    exact ⟨rfl, s.counter_count _⟩
  · rw [State.takeCall_of_full (hnew h1 h2) hfull]
    exact ⟨rfl, s.counter_count _⟩
  · rw [State.takeCall_of_room (hnew h1 h2) hroom]
    have htaken (c : Counter) (hc : c ∉ [Counter.pushesStarted]) : (s.withCallTaken k n).tryStart.counter c =
        satAdd (s.counter c) (if callTakenCounter k = c then 1 else 0) := by
      rw [State.tryStart_only _ _ hc, State.withCallTaken_counter]
    refine ⟨fun hstays => ?_, fun hidle hempty m rest hcalls => ?_, ?_, ?_⟩
    · have hsame : (s.withCallTaken k n).tryStart = s.withCallTaken k n := by
        rcases hstays with hbusy | hheld
        · exact State.tryStart_busy (s.withCallTaken k n) hbusy
        · exact State.tryStart_held (s.withCallTaken k n) hheld
      rw [hsame]
      rfl
    · obtain ⟨hstarted, hcount⟩ := State.tryStart_starts (s := s.withCallTaken k n) hon hhead hidle hempty hcalls
      refine ⟨hstarted, ?_⟩
      rw [hcount, State.withCallTaken_counter, if_neg (by cases k <;> decide), satAdd_zero]
    · rw [htaken _ (by decide)]
      cases k <;> rfl
    · rw [htaken _ (by decide)]
      cases k <;> rfl

/-- R97: what a head does with a call is read from the head, the hold list, the clock, the image and the counters of R97. -/
theorem State.HeadTakesCall.congr {u u' t t' : State} {k : CallKind} {n : Half} (h : u.HeadTakesCall t k n)
    (hhead : u'.head = u.head) (hhlu : u'.hlu = u.hlu) (hnow : u'.now = u.now) (himg : u'.img = u.img)
    (hcounters : ∀ c ∈ takeCallCounters, u'.counter c = u.counter c) (htaken : t'.head = t.head)
    (htcounters : ∀ c ∈ takeCallCounters, t'.counter c = t.counter c) : u'.HeadTakesCall t' k n := by
  unfold State.HeadTakesCall at h ⊢
  rwa [hhead, hhlu, hnow, himg, htaken, hcounters _ (by decide), hcounters _ (by decide), hcounters _ (by decide),
    hcounters _ (by decide), hcounters _ (by decide), htcounters _ (by decide), htcounters _ (by decide),
    htcounters _ (by decide), htcounters _ (by decide), htcounters _ (by decide)]

/-! ### The call of a call check (R103, R105) -/

theorem State.callCheck_none {s : State} (h : s.checkSends s.tail s.exu.preview = none) : s.callCheck = s := by
  rw [State.callCheck_eq, h]

/-- R103, R105: a call check that sends does what the new call does, and counts a SELF call. -/
theorem State.callCheck_some {s : State} {k : CallKind} (h : s.checkSends s.tail s.exu.preview = some k) :
    s.callCheck = { s.sendCall k with tail := s.callCheck.tail, counters := s.callCheck.counters } ∧
    CountsOnly [.selfCalls] (s.sendCall k) s.callCheck := by
  rw [State.callCheck_eq, h]
  cases k with
  | self => exact ⟨rfl, State.count_only (by decide) _⟩
  | press => exact ⟨rfl, .of_counters rfl⟩

/-- R103: the tail has made a new call, not yet handed to the head. -/
def State.withNewCall (s : State) (k : CallKind) : State :=
  { s with
    tail := { s.tail with
      counter := s.tail.counter + 1, outstanding := some (s.tail.counter + 1, k)
      callTimer := some (after s.now s.img.callTimeout) } }

theorem State.sendCall_of_single {s : State} (h : s.isSingle = true) (k : CallKind) :
    s.sendCall k = ((s.withNewCall k).count .callsSent).takeCall k (s.tail.counter + 1) := if_pos h

theorem State.sendCall_of_longer {s : State} (h : s.isSingle = false) (k : CallKind) : s.sendCall k =
    (s.withNewCall k).offerCounted .up (s.frame 0 (.call k (s.tail.counter + 1))) .callsSent .callsRefused :=
  if_neg (Bool.eq_false_iff.mp h)

/-- R109: on a line of one station the head takes the call of the call check. -/
theorem State.callCheck_headTakesCall {s : State} (hon : s.onLine = true) (hsingle : s.isSingle = true) {k : CallKind}
    (h : s.checkSends s.tail s.exu.preview = some k) : s.HeadTakesCall s.callCheck k (s.tail.counter + 1) := by
  obtain ⟨heq, honly⟩ := State.callCheck_some h
  have hhead : s.isHead = true := (Bool.and_eq_true_iff.mp hsingle).1
  have htakes : ((s.withNewCall k).count .callsSent).HeadTakesCall (s.sendCall k) k (s.tail.counter + 1) := by
    rw [State.sendCall_of_single hsingle]
    exact State.takeCall_headTakesCall (s := (s.withNewCall k).count .callsSent) hon hhead _ _
  have hnot {c d : Counter} (hc : c ∈ takeCallCounters) (hd : d ∉ takeCallCounters) : c ≠ d := fun he => hd (he ▸ hc)
  exact htakes.congr rfl rfl rfl rfl
    (fun c hc => ((s.withNewCall k).counter_countBy_ne _ _ _ (hnot hc (by decide)).symm).symm) (by rw [heq])
    (fun c hc => honly c (by simpa using hnot hc (by decide)))

/-- R103, R158: on a longer line the call of the call check is offered to the UP port. -/
theorem State.callCheck_offers {s : State} (hsingle : s.isSingle = false) {k : CallKind}
    (h : s.checkSends s.tail s.exu.preview = some k) :
    s.callCheck.head = s.head ∧
    (s.hasRoom .up = true →
      s.frame 0 (.call k (s.tail.counter + 1)) ∈ s.callCheck.upPort.localQ ∧
      s.callCheck.counter .callsSent = satAdd (s.counter .callsSent) 1) ∧
    (s.linkIsUp .up = false → s.callCheck.upPort.localQ = s.upPort.localQ ∧
      s.callCheck.counter .callsRefused = satAdd (s.counter .callsRefused) 1) := by
  obtain ⟨heq, honly⟩ := State.callCheck_some h
  have hport : s.callCheck.upPort = (s.sendCall k).port .up := by rw [heq]; rfl
  rw [honly _ (by decide), honly _ (by decide), hport, State.sendCall_of_longer hsingle]
  refine ⟨?_, fun hroom => ?_, fun hdown => State.offerCounted_of_linkDown (s := s.withNewCall k) (p := .up) hdown _ _ _⟩
  · rw [heq, State.sendCall_of_longer hsingle]
    exact ((s.withNewCall k).offerCounted_link _ _ _ _).head
  · obtain ⟨hq, hsent⟩ := State.offerCounted_of_hasRoom (s := s.withNewCall k) (p := .up) hroom
      (s.frame 0 (.call k (s.tail.counter + 1))) .callsSent .callsRefused
    exact ⟨hq ▸ mem_insertByClass _ _, hsent⟩

/-- R103, R105, R113: a call check after the preview, of a station that is `u` in what it reads. -/
theorem State.callCheck_tailChecked {u s : State} (hldu : s.ldu = u.ldu) (hnow : s.now = u.now) (himg : s.img = u.img)
    (hpreview : s.exu.preview = s.cq.lead.map (Record.judge u.img))
    (hself : s.counter .selfCalls = u.counter .selfCalls) : u.TailChecked s.callCheck s.tail := by
  have hcall := State.callCheck_call s
  unfold State.TailChecked
  rw [hcall.exu, hcall.cq, State.callCheck_tail, State.callCheck_selfCalls, hself, ← State.checkSends_congr hldu, ← hnow,
    ← himg]
  refine ⟨himg ▸ hpreview, ?_, rfl⟩
  cases s.checkSends s.tail s.exu.preview <;> rfl

end Sys2Proof.Machine
end

section
/-!
PROOFS. The period end (O30): between the accounting and the tail's check, the demand, the canvass and the latch leave the records and
the tail; then the statement from the accounting and the call check (R24).
-/

namespace Sys2Proof.Machine

/-! ### The demand, the canvass and the latch leave (R47 to R61, R69) -/

/-- All that may differ over a period end, besides what the accounting, the tail and the head hold: the demand, the setpoint, the
credits, the preview, the own queues of the ports, the trace and the counters. -/
structure State.PeriodFrame (s t : State) : Prop where
  micros : t.micros = s.micros
  freeIndex : t.freeIndex = s.freeIndex
  pins : t.pins = s.pins
  ldu : t.ldu = s.ldu
  tracker : t.tracker = s.tracker
  exu : t.exu = { s.exu with preview := t.exu.preview }
  hlu : t.hlu = s.hlu
  port : ∀ p, t.port p = (s.port p).offered (t.port p)
  svi : t.svi = s.svi
  pending : t.pending = s.pending

/-- The accounting, the tail, the preview and the head stay as well. -/
structure State.DemandFrame (s t : State) : Prop extends PeriodFrame s t where
  cq : t.cq = s.cq
  tau : t.tau = s.tau
  head : t.head = s.head
  tail : t.tail = s.tail
  preview : t.exu.preview = s.exu.preview

theorem State.PeriodFrame.trans {s t u : State} (h : PeriodFrame s t) (k : PeriodFrame t u) : PeriodFrame s u :=
  { micros := k.micros.trans h.micros
    freeIndex := k.freeIndex.trans h.freeIndex
    pins := k.pins.trans h.pins
    ldu := k.ldu.trans h.ldu
    tracker := k.tracker.trans h.tracker
    exu := k.exu.trans (by rw [h.exu])
    hlu := k.hlu.trans h.hlu
    port := fun p => (k.port p).trans (by rw [h.port p]; rfl)
    svi := k.svi.trans h.svi
    pending := k.pending.trans h.pending }

theorem State.DemandFrame.trans {s t u : State} (h : DemandFrame s t) (k : DemandFrame t u) : DemandFrame s u :=
  { toPeriodFrame := h.toPeriodFrame.trans k.toPeriodFrame
    cq := k.cq.trans h.cq
    tau := k.tau.trans h.tau
    head := k.head.trans h.head
    tail := k.tail.trans h.tail
    preview := k.preview.trans h.preview }

theorem State.DemandFrame.sameExu {s t : State} (h : DemandFrame s t) : t.exu = s.exu := h.exu.trans (by rw [h.preview])

theorem CallFrame.toPeriodFrame {s t : State} (h : CallFrame s t) : State.PeriodFrame s t :=
  { micros := h.micros, freeIndex := h.freeIndex, pins := h.pins, ldu := h.ldu, tracker := h.tracker, exu := by rw [h.exu]
    hlu := h.hlu, svi := h.svi, pending := h.pending
    port := fun
      | .up => h.upPort
      | .down => h.downPort }

theorem LinkFrame.toDemandFrame {s t : State} (h : LinkFrame s t) : State.DemandFrame s t :=
  { toPeriodFrame := h.toCallFrame.toPeriodFrame
    cq := h.cq, tau := h.tau, head := h.head, tail := h.tail, preview := by rw [h.exu] }

theorem State.PeriodFrame.of_items {s : State} {cq : CoilQueue} {tau : Tau} {preview : Option Reasons}
    {counters : Vector (BitVec 32) 134} :
    PeriodFrame s { s with cq := cq, tau := tau, exu := { s.exu with preview := preview }, counters := counters } :=
  ⟨rfl, rfl, rfl, rfl, rfl, rfl, rfl, fun p => by cases p <;> rfl, rfl, rfl⟩

theorem State.DemandFrame.of_items {s : State} {pdu : Pdu} {ivi : Ivi} {cru : Cru} {counters : Vector (BitVec 32) 134} :
    DemandFrame s { s with pdu := pdu, ivi := ivi, cru := cru, counters := counters } :=
  ⟨⟨rfl, rfl, rfl, rfl, rfl, rfl, rfl, fun p => by cases p <;> rfl, rfl, rfl⟩, rfl, rfl, rfl, rfl, rfl⟩

/-- Nothing else differs. -/
theorem State.PeriodFrame.eq {s t : State} (h : PeriodFrame s t) : t = { s with
    tau := t.tau, cq := t.cq, pdu := t.pdu, ivi := t.ivi, cru := t.cru, head := t.head, tail := t.tail
    exu := { s.exu with preview := t.exu.preview }, upPort := t.upPort, downPort := t.downPort, ltr := t.ltr
    counters := t.counters } := by
  rw [← h.exu, ← h.micros, ← h.freeIndex, ← h.pins, ← h.ldu, ← h.tracker, ← h.hlu, ← h.svi, ← h.pending]

theorem State.PeriodFrame.now {s t : State} (h : PeriodFrame s t) : t.now = s.now := by unfold State.now; rw [h.micros]

theorem State.PeriodFrame.img {s t : State} (h : PeriodFrame s t) : t.img = s.img := by unfold State.img; rw [h.svi]

theorem State.PeriodFrame.onLine {s t : State} (h : PeriodFrame s t) : t.onLine = s.onLine := by unfold State.onLine; rw [h.ldu]

theorem State.PeriodFrame.isHead {s t : State} (h : PeriodFrame s t) : t.isHead = s.isHead := by unfold State.isHead; rw [h.ldu]

theorem State.PeriodFrame.isTail {s t : State} (h : PeriodFrame s t) : t.isTail = s.isTail := by unfold State.isTail; rw [h.ldu]

theorem State.PeriodFrame.frame {s t : State} (h : PeriodFrame s t) (dst : Byte) (x : Payload) :
    t.frame dst x = s.frame dst x := by
  unfold State.frame State.source; rw [h.ldu, h.freeIndex]

theorem State.PeriodFrame.linkIsUp {s t : State} (h : PeriodFrame s t) (p : Port) : t.linkIsUp p = s.linkIsUp p := by
  unfold State.linkIsUp; rw [h.port p]; rfl

/-- R158: a port with room keeps it while its queue stays below 8 frames. -/
theorem State.PeriodFrame.hasRoom {s t : State} (h : PeriodFrame s t) {p : Port} (hroom : s.hasRoom p = true)
    (hlt : (t.port p).localQ.length < 8) : t.hasRoom p = true := by
  have hcheck : (t.port p).check = (s.port p).check := by rw [h.port p]; rfl
  unfold State.hasRoom at hroom ⊢
  rw [h.linkIsUp, hcheck]
  simp only [Bool.and_eq_true, decide_eq_true_eq] at hroom ⊢
  obtain ⟨hpasses, -⟩ := hroom
  exact ⟨hpasses, hlt⟩

/-! ### The CANVASS of a re-evaluation (R69, R70) -/

theorem State.offerCanvass_link (s : State) (p : Port) (x : Payload) : LinkFrame s (s.offerCanvass p x).state := by
  unfold State.offerCanvass
  split
  · exact s.offer_link p _
  · exact .refl s

theorem State.offerCanvass_only (s : State) (p : Port) (x : Payload) :
    CountsOnly [.creditsRestored] s (s.offerCanvass p x).state := by
  unfold State.offerCanvass
  split
  · exact s.offer_only p _
  · exact .refl s

theorem State.offerCanvass_other (s : State) (p : Port) (x : Payload) :
    (s.offerCanvass p x).state.port p.other = s.port p.other := by
  unfold State.offerCanvass
  split
  · exact s.offer_other p _
  · rfl

theorem State.offerCanvass_localQ_length_le (s : State) (p : Port) (x : Payload) :
    ((s.offerCanvass p x).state.port p).localQ.length ≤ (s.port p).localQ.length + 1 := by
  unfold State.offerCanvass
  split
  · exact s.offer_localQ_length_le p _
  · exact Nat.le_succ _

theorem State.offerCanvass_of_linkDown {s : State} {p : Port} (h : s.linkIsUp p = false) (x : Payload) :
    (s.offerCanvass p x).state = s := by
  unfold State.offerCanvass
  rw [if_neg (Bool.eq_false_iff.mp h)]

/-- R69: the station has taken the next number for a canvass, not yet offered. -/
def State.withNewCanvass (s : State) : State := { s with cru := { s.cru with counter := s.cru.counter + 1 } }

/-- R69: the CANVASS has been offered to each port whose link is UP, under the next number. -/
def State.canvassOffered (s : State) : State :=
  let x := Payload.canvass s.originByte (s.cru.counter + 1) (BitVec.ofNat 16 (s.cru.needed - s.cru.held))
  ((s.withNewCanvass.offerCanvass .up x).state.offerCanvass .down x).state

/-- R69, R70: a canvass is not opened at all, or its CANVASS is offered and the answers decide what the Credit Unit holds. -/
theorem State.openCanvass_cases (s : State) : s.openCanvass = s.count .canvassNotOpened ∨
    ∃ cru c, (c = .canvassesOpened ∨ c = .canvassNotOpened) ∧
      s.openCanvass = ({ s.canvassOffered with cru := cru } : State).count c := by
  unfold State.openCanvass
  split
  · dsimp only
    split
    · exact .inr ⟨_, _, .inl rfl, rfl⟩
    · exact .inr ⟨_, _, .inr rfl, rfl⟩
  · exact .inl rfl

theorem State.canvassOffered_frame (s : State) : DemandFrame s s.canvassOffered :=
  (DemandFrame.of_items (s := s)).trans
    ((s.withNewCanvass.offerCanvass_link _ _).trans (State.offerCanvass_link _ _ _)).toDemandFrame

theorem State.canvassOffered_only (s : State) : CountsOnly [.creditsRestored] s s.canvassOffered :=
  (CountsOnly.of_counters (t := s.withNewCanvass) rfl).trans
    ((State.offerCanvass_only _ _ _).trans (State.offerCanvass_only _ _ _))

/-- R69, R158: the UP port's queue takes the CANVASS at most, and nothing while its link is DOWN. -/
theorem State.canvassOffered_upQueue (s : State) :
    s.canvassOffered.upPort.localQ.length ≤ s.upPort.localQ.length + 1 ∧
    (s.linkIsUp .up = false → s.canvassOffered.upPort = s.upPort) := by
  have hdown (t : State) (x : Payload) : (t.offerCanvass .down x).state.upPort = t.upPort := t.offerCanvass_other .down x
  unfold State.canvassOffered
  dsimp only
  rw [hdown]
  refine ⟨s.withNewCanvass.offerCanvass_localQ_length_le .up _, fun h => ?_⟩
  rw [State.offerCanvass_of_linkDown (s := s.withNewCanvass) (p := .up) h]
  rfl

/-- The counters that a re-evaluation moves (R69, R70, R81). -/
def reevaluateCounters : List Counter := [.canvassesOpened, .canvassNotOpened, .creditsRestored]

/-- R68 to R70: what a re-evaluation leaves. -/
theorem State.reevaluate_leaves (s : State) :
    DemandFrame s s.reevaluate ∧ CountsOnly reevaluateCounters s s.reevaluate ∧
    s.reevaluate.upPort.localQ.length ≤ s.upPort.localQ.length + 1 ∧
    (s.linkIsUp .up = false → s.reevaluate.upPort = s.upPort) := by
  unfold State.reevaluate
  split
  · rcases s.openCanvass_cases with h | ⟨cru, c, hc, h⟩
    · rw [h]
      exact ⟨(s.count_link _).toDemandFrame, State.count_only (by decide) s, Nat.le_succ _, fun _ => rfl⟩
    · rw [h]
      have hmem : c ∈ reevaluateCounters := by rcases hc with rfl | rfl <;> decide
      exact ⟨s.canvassOffered_frame.trans (DemandFrame.of_items.trans (State.count_link _ _).toDemandFrame),
        (s.canvassOffered_only.mono (by decide)).trans ((CountsOnly.of_counters rfl).trans (State.count_only hmem _)),
        s.canvassOffered_upQueue⟩
  · exact ⟨(LinkFrame.refl s).toDemandFrame, .refl s, Nat.le_succ _, fun _ => rfl⟩

/-! ### From the accounting to the latch -/

theorem State.countDemand_eq (s : State) (x : Pdu) : s.countDemand x = { s with counters := (s.countDemand x).counters } := by
  unfold State.countDemand
  dsimp only
  split <;> split <;> split <;> rfl

/-- The counters of the demand (R65). -/
def demandCounters : List Counter := [.creditClampedPeriods, .guardPeriods, .rampLimitedPeriods]

theorem State.countDemand_only (s : State) (x : Pdu) : CountsOnly demandCounters s (s.countDemand x) := by
  have hcount {p : Prop} [Decidable p] {t : State} {c : Counter} (hc : c ∈ demandCounters) :
      CountsOnly demandCounters t (if p then t.count c else t) := by
    split
    · exact State.count_only hc t
    · exact .refl t
  unfold State.countDemand
  exact ((hcount (by decide)).trans (hcount (by decide))).trans (hcount (by decide))

theorem State.countNotReady_eq (s : State) : s.countNotReady = { s with counters := s.countNotReady.counters } := by
  unfold State.countNotReady
  split <;> rfl

theorem State.countNotReady_only (s : State) : CountsOnly [.notReadyPeriods] s s.countNotReady := by
  unfold State.countNotReady
  split
  · exact State.count_only (by decide) s
  · exact .refl s

/-- R47 to R61, R69: a period end from its accounting to its latch. -/
def State.demanded (s : State) : State := s.computeDemand.reevaluate.countNotReady.latchSetpoint

/-- The counters of the demand, the canvass and the latch (R61, R65, R69). -/
def demandedCounters : List Counter :=
  demandCounters ++ reevaluateCounters ++ [.notReadyPeriods]

theorem State.computeDemand_frame (s : State) : DemandFrame s s.computeDemand := by
  unfold State.computeDemand
  dsimp only
  rw [State.countDemand_eq]
  exact .of_items

theorem State.computeDemand_only (s : State) : CountsOnly demandCounters s s.computeDemand :=
  (s.countDemand_only s.demandItems).trans (.of_counters rfl)

theorem State.computeDemand_upPort (s : State) : s.computeDemand.upPort = s.upPort := by
  unfold State.computeDemand
  dsimp only
  rw [State.countDemand_eq]

/-- R57, R61: what the latch of a period end leaves. -/
theorem State.latched_frame (s : State) : DemandFrame s s.countNotReady.latchSetpoint := by
  rw [State.countNotReady_eq]
  exact .of_items

theorem State.latched_upPort (s : State) : s.countNotReady.latchSetpoint.upPort = s.upPort := by
  rw [State.countNotReady_eq]
  rfl

theorem State.demanded_frame (s : State) : DemandFrame s s.demanded := by
  obtain ⟨hframe, -⟩ := State.reevaluate_leaves s.computeDemand
  exact (s.computeDemand_frame.trans hframe).trans (State.latched_frame _)

theorem State.demanded_only (s : State) : CountsOnly demandedCounters s s.demanded := by
  obtain ⟨-, honly, -⟩ := State.reevaluate_leaves s.computeDemand
  have hlatched : CountsOnly [.notReadyPeriods] s.computeDemand.reevaluate s.demanded :=
    (State.countNotReady_only _).trans (.of_counters rfl)
  exact ((s.computeDemand_only.mono (by decide)).trans (honly.mono (by decide))).trans (hlatched.mono (by decide))

/-- R69, R158: the UP port's queue takes a CANVASS at most, and nothing while its link is DOWN. -/
theorem State.demanded_upQueue (s : State) :
    s.demanded.upPort.localQ.length ≤ s.upPort.localQ.length + 1 ∧
    (s.linkIsUp .up = false → s.demanded.upPort = s.upPort) := by
  obtain ⟨-, -, hqueue⟩ := State.reevaluate_leaves s.computeDemand
  rwa [s.computeDemand_upPort, s.computeDemand_frame.linkIsUp, ← State.latched_upPort s.computeDemand.reevaluate] at hqueue

/-! ### The period end (R24) -/

/-- R24: a period end up to the tail's preview and call check. -/
def State.periodClosed (s : State) : State := s.nextPeriod.account.demanded

theorem State.accounted_frame (s : State) : PeriodFrame s s.nextPeriod.account := by
  rw [State.account_eq]
  exact .of_items

theorem State.periodClosed_frame (s : State) : PeriodFrame s s.periodClosed :=
  s.accounted_frame.trans s.nextPeriod.account.demanded_frame.toPeriodFrame

/-- R31 to R40: what a period end makes of the coil queue and the Thermal Accounting Unit; the head, the tail and the Exit Unit wait
for the call check. -/
theorem State.periodClosed_items (s : State) :
    s.periodClosed.cq = { s.cq with slots := s.updatedSlots s.periodPool } ∧
    s.periodClosed.tau = { s.tau with
      periodStart := s.tau.periodStart.map (after · 100)
      residue := s.leftOver s.periodPool, sample := s.feedbackSample } ∧
    s.periodClosed.head = s.head ∧ s.periodClosed.tail = s.tail ∧ s.periodClosed.exu = s.exu := by
  have hframe := s.nextPeriod.account.demanded_frame
  unfold State.periodClosed
  rw [hframe.cq, hframe.tau, hframe.head, hframe.tail, hframe.sameExu, State.account_eq]
  exact ⟨rfl, rfl, rfl, rfl, rfl⟩

theorem State.periodClosed_after_account (s : State) : CountsOnly demandedCounters s.nextPeriod.account s.periodClosed :=
  s.nextPeriod.account.demanded_only

theorem State.periodClosed_only (s : State) :
    CountsOnly (sampleCounters ++ distributeCounters ++ demandedCounters) s s.periodClosed :=
  ((CountsOnly.of_counters (t := s.nextPeriod) rfl).trans (s.nextPeriod.account_only.mono (by decide))).trans
    (s.periodClosed_after_account.mono (by decide))

/-- R43, R158: before the call check the UP port's queue has taken a CANVASS at most. -/
theorem State.periodClosed_upQueue (s : State) :
    s.periodClosed.upPort.localQ.length ≤ s.upPort.localQ.length + 1 ∧
    (s.linkIsUp .up = false → s.periodClosed.upPort = s.upPort) := by
  have hqueue := s.nextPeriod.account.demanded_upQueue
  have hport : s.nextPeriod.account.upPort = s.upPort := by rw [State.account_eq]; rfl
  have hup : s.nextPeriod.account.linkIsUp .up = s.linkIsUp .up := s.accounted_frame.linkIsUp .up
  rwa [hport, hup] at hqueue

theorem State.endPeriod_of_notTail {s : State} (h : s.isTail = false) : s.endPeriod = s.periodClosed := by
  have htail : s.periodClosed.isTail = false := s.periodClosed_frame.isTail.trans h
  exact if_neg (Bool.eq_false_iff.mp htail)

/-- R113: the tail at the end of a period with the preview of its lead, before the call check. -/
def State.periodPreviewed (s : State) : State :=
  { s.periodClosed with
    exu := { s.periodClosed.exu with preview := s.periodClosed.cq.lead.map (Record.judge s.periodClosed.img) } }

theorem State.endPeriod_of_tail {s : State} (h : s.isTail = true) : s.endPeriod = s.periodPreviewed.callCheck := by
  have htail : s.periodClosed.isTail = true := s.periodClosed_frame.isTail.trans h
  have hpreview : s.periodClosed.preview = s.periodPreviewed := if_pos htail
  rw [← hpreview]
  exact if_pos htail

theorem State.periodPreviewed_frame (s : State) : PeriodFrame s s.periodPreviewed :=
  s.periodClosed_frame.trans .of_items

/-- R24: what a period end leaves, with the tail's check. -/
theorem State.endPeriod_leaves (s : State) :
    PeriodFrame s s.endPeriod ∧ s.endPeriod.cq = s.periodClosed.cq ∧ s.endPeriod.tau = s.periodClosed.tau ∧
    CountsOnly callCheckCounters s.periodClosed s.endPeriod := by
  cases htail : s.isTail with
  | false =>
    rw [State.endPeriod_of_notTail htail]
    exact ⟨s.periodClosed_frame, rfl, rfl, .refl _⟩
  | true =>
    have hcall := State.callCheck_call s.periodPreviewed
    rw [State.endPeriod_of_tail htail]
    exact ⟨s.periodPreviewed_frame.trans hcall.toPeriodFrame, hcall.cq, hcall.tau,
      (CountsOnly.of_counters rfl).trans (State.callCheck_only _)⟩

/-- R31 to R36: after the accounting a period end moves none of its counters. -/
theorem State.endPeriod_after_account (s : State) :
    CountsOnly (demandedCounters ++ callCheckCounters) s.nextPeriod.account s.endPeriod := by
  obtain ⟨-, -, -, hcheck⟩ := s.endPeriod_leaves
  exact (s.periodClosed_after_account.mono (by decide)).trans (hcheck.mono (by decide))

/-- R105, R113: the preview and the call check of a period end at the tail. -/
theorem State.endPeriod_tailChecked {s : State} (htail : s.isTail = true) : s.TailChecked s.endPeriod s.tail := by
  obtain ⟨-, -, -, hsame, -⟩ := s.periodClosed_items
  have hframe := s.periodPreviewed_frame
  have hpreview : s.periodPreviewed.exu.preview = s.periodPreviewed.cq.lead.map (Record.judge s.img) := by
    rw [← hframe.img]; rfl
  have hchecked := State.callCheck_tailChecked hframe.ldu hframe.now hframe.img hpreview (s.periodClosed_only _ (by decide))
  rw [State.endPeriod_of_tail htail]
  rwa [show s.periodPreviewed.tail = s.tail from hsame] at hchecked

/-- R105: what the call check of a period end acts on. -/
theorem State.endPeriod_checkSends {s : State} (htail : s.isTail = true) :
    s.periodPreviewed.checkSends s.periodPreviewed.tail s.periodPreviewed.exu.preview =
      s.checkSends s.tail s.endPeriod.exu.preview := by
  obtain ⟨-, -, -, hsame, -⟩ := s.periodClosed_items
  rw [State.endPeriod_of_tail htail, (State.callCheck_call s.periodPreviewed).exu,
    State.checkSends_congr s.periodPreviewed_frame.ldu, show s.periodPreviewed.tail = s.tail from hsame]

/-- R105: a period end whose call check sends nothing leaves the head and the counters of calls. -/
theorem State.endPeriod_sendsNone {s : State} (htail : s.isTail = true)
    (hnone : s.checkSends s.tail s.endPeriod.exu.preview = none) :
    s.endPeriod.head = s.head ∧ s.endPeriod.counter .callsSent = s.counter .callsSent ∧
    s.endPeriod.counter .callsRefused = s.counter .callsRefused := by
  obtain ⟨-, -, hhead, -, -⟩ := s.periodClosed_items
  have hcheck := State.callCheck_none ((State.endPeriod_checkSends htail).trans hnone)
  rw [State.endPeriod_of_tail htail, hcheck]
  exact ⟨hhead, s.periodClosed_only _ (by decide), s.periodClosed_only _ (by decide)⟩

/-- R109: on a line of one station the head takes the call of a period end. -/
theorem State.endPeriod_headTakesCall {s : State} (hon : s.onLine = true) (hhead : s.isHead = true) (htail : s.isTail = true)
    {k : CallKind} (hsends : s.checkSends s.tail s.endPeriod.exu.preview = some k) :
    s.HeadTakesCall s.endPeriod k (s.tail.counter + 1) ∧
    s.endPeriod.counter .callsSent = satAdd (s.counter .callsSent) 1 := by
  obtain ⟨-, -, hsamehead, hsametail, -⟩ := s.periodClosed_items
  have hframe := s.periodPreviewed_frame
  have hcheck := (State.endPeriod_checkSends htail).trans hsends
  have hsingle : s.periodPreviewed.isSingle = true :=
    Bool.and_eq_true_iff.mpr ⟨hframe.isHead.trans hhead, hframe.isTail.trans htail⟩
  have htakes := State.callCheck_headTakesCall (hframe.onLine.trans hon) hsingle hcheck
  have hsent := State.callCheck_callsSent_of_single _ hsingle
  have hcounter (c : Counter) (hc : c ∉ sampleCounters ++ distributeCounters ++ demandedCounters) :
      s.periodPreviewed.counter c = s.counter c := s.periodClosed_only c hc
  rw [hcheck, hcounter _ (by decide)] at hsent
  rw [show s.periodPreviewed.tail = s.tail from hsametail] at htakes
  rw [State.endPeriod_of_tail htail]
  have hdisjoint : ∀ c ∈ takeCallCounters, c ∉ sampleCounters ++ distributeCounters ++ demandedCounters := by decide
  exact ⟨htakes.congr hsamehead.symm hframe.hlu.symm hframe.now.symm hframe.img.symm
    (fun c hc => (hcounter c (hdisjoint c hc)).symm) rfl (fun _ _ => rfl), hsent⟩

/-- R103, R158: on a longer line the call of a period end is offered to the UP port, after a CANVASS at most. -/
theorem State.endPeriod_offersCall {s : State} (hhead : s.isHead = false) (htail : s.isTail = true)
    {k : CallKind} (hsends : s.checkSends s.tail s.endPeriod.exu.preview = some k) :
    s.endPeriod.head = s.head ∧
    (s.hasRoom .up = true → s.upPort.localQ.length ≤ 6 →
      s.frame 0 (.call k (s.tail.counter + 1)) ∈ s.endPeriod.upPort.localQ ∧
      s.endPeriod.counter .callsSent = satAdd (s.counter .callsSent) 1) ∧
    (s.linkIsUp .up = false → s.endPeriod.upPort.localQ = s.upPort.localQ ∧
      s.endPeriod.counter .callsRefused = satAdd (s.counter .callsRefused) 1) := by
  obtain ⟨-, -, hsamehead, hsametail, -⟩ := s.periodClosed_items
  obtain ⟨hlength, hdown⟩ := s.periodClosed_upQueue
  have hframe := s.periodPreviewed_frame
  have hcheck := (State.endPeriod_checkSends htail).trans hsends
  have hlonger : s.periodPreviewed.isSingle = false :=
    Bool.and_eq_false_iff.mpr (.inl (hframe.isHead.trans hhead))
  have hcounter (c : Counter) (hc : c ∉ sampleCounters ++ distributeCounters ++ demandedCounters) :
      s.periodPreviewed.counter c = s.counter c := s.periodClosed_only c hc
  obtain ⟨hkept, htaken, hrefused⟩ := State.callCheck_offers hlonger hcheck
  rw [hframe.frame, show s.periodPreviewed.tail = s.tail from hsametail, hcounter _ (by decide)] at htaken
  rw [hframe.linkIsUp, hcounter _ (by decide)] at hrefused
  rw [State.endPeriod_of_tail htail]
  refine ⟨hkept.trans hsamehead, fun hroom hshort => htaken (hframe.hasRoom hroom ?_), fun hlink => ?_⟩
  · show s.periodClosed.upPort.localQ.length < 8
    omega
  · obtain ⟨hqueue, hcount⟩ := hrefused hlink
    exact ⟨hqueue.trans (congrArg LinkPort.localQ (hdown hlink)), hcount⟩

/-- Settles O30: the accounting, what the demand, the canvass and the latch leave of it, and the tail's call check. -/
theorem periodEndAccountsTheEnergy : Obligations.PeriodEndAccountsTheEnergy := by
  intro e s u pFb useful pool hu hdue hpFb huseful hpool
  subst hu hpFb huseful hpool
  have hexec : exec (.periodEnd e) s = .next (s.observe e).endPeriod := congrArg Host.Outcome.next (if_pos hdue)
  obtain ⟨hframe, hcq, htau, -⟩ := (s.observe e).endPeriod_leaves
  obtain ⟨hqueue, hunit, hhead, htail, hexu⟩ := (s.observe e).periodClosed_items
  obtain ⟨hperiods, hinvalid, hsat, hused⟩ := (s.observe e).nextPeriod.account_sampleCounters
  obtain ⟨hlimits, hexcesses, hunplaced⟩ := (s.observe e).nextPeriod.account_distributeCounters
  have hafter := (s.observe e).endPeriod_after_account
  rw [hqueue] at hcq
  have hslots : (s.observe e).endPeriod.cq.slots = (s.observe e).updatedSlots (s.observe e).periodPool := by rw [hcq]
  refine ⟨_, hexec, htau.trans hunit, ?_, ?_, ?_, ?_, ?_, ?_, (hafter _ (by decide)).trans hperiods,
    (hafter _ (by decide)).trans hused, (hafter _ (by decide)).trans hunplaced, (hafter _ (by decide)).trans hinvalid,
    (hafter _ (by decide)).trans hsat, fun hnot => ?_, fun his => ?_, hframe.port, hframe.eq⟩
  · rw [hcq]
    rfl
  · rw [hslots]
    exact State.updatedSlots_length _ _
  · intro i hgap
    rw [hslots]
    exact State.updatedSlots_gap (s := s.observe e) hgap _
  · intro i share loss h d r x f hr hshare hf hloss hh hd hx
    rw [hslots]
    subst hh hd
    exact (State.updatedSlots_getElem? (s := s.observe e) hr hshare).trans
      (congrArg (fun y => some (some y)) (Record.periodUpdate_eq hf hloss hx))
  · rw [hslots, ← gained_eq_countP]
    exact (hafter _ (by decide)).trans hlimits
  · rw [hslots, ← gained_eq_countP]
    exact (hafter _ (by decide)).trans hexcesses
  · rw [State.endPeriod_of_notTail (s := s.observe e) hnot]
    exact ⟨htail, hexu, hhead⟩
  · refine ⟨State.endPeriod_tailChecked his, State.endPeriod_sendsNone his,
      fun k hsends => ⟨fun hishead => ?_, fun hnothead => ?_⟩⟩
    · exact State.endPeriod_headTakesCall (s := s.observe e) (State.onLine_of_and hdue) hishead his hsends
    · exact State.endPeriod_offersCall (s := s.observe e) hnothead his hsends

end Sys2Proof.Machine
end

section
/-!
PROOFS. What the invariants of power read, and the operations that leave it: the offers of a unit, calls, the Exit Unit, and the
strokes of the coil queue (R58, R59, R129).
-/

namespace Sys2Proof.Machine

/-! ### What the invariants of power read -/

/-- All that the invariants of power read but for the loans. -/
structure PowerView where
  image : Option Image
  state : StationState
  position : Option (Fin 16)
  ready : Bool
  fault : Bool
  entries : List HoldEntry
  ivi : Ivi
  base : Nat
  need : Option Nat

def State.powerView (s : State) : PowerView :=
  { image := s.svi.image, state := s.ldu.state, position := s.ldu.position, ready := s.pins.ready, fault := s.pins.fault
    entries := s.hlu.entries, ivi := s.ivi, base := s.cru.base, need := s.cru.need }

/-- All that the invariants of power read is the same in both states, but for loans that may have come back (R81). -/
structure SamePower (s t : State) : Prop where
  view : t.powerView = s.powerView
  loans : s.cru.loans ≤ t.cru.loans

theorem SamePower.refl (s : State) : SamePower s s := ⟨rfl, Nat.le_refl _⟩

theorem SamePower.trans {s t u : State} (h : SamePower s t) (k : SamePower t u) : SamePower s u :=
  ⟨k.view.trans h.view, h.loans.trans k.loans⟩

/-- An event that acts under a condition alone. -/
theorem SamePower.ite {s t u : State} {p : Prop} [Decidable p] (ht : p → SamePower s t) (hu : ¬p → SamePower s u) :
    SamePower s (if p then t else u) := by
  split
  · exact ht ‹_›
  · exact hu ‹_›

theorem SamePower.image {s t : State} (h : SamePower s t) : t.svi.image = s.svi.image := congrArg PowerView.image h.view

theorem SamePower.state {s t : State} (h : SamePower s t) : t.ldu.state = s.ldu.state := congrArg PowerView.state h.view

theorem SamePower.position {s t : State} (h : SamePower s t) : t.ldu.position = s.ldu.position :=
  congrArg PowerView.position h.view

theorem SamePower.ready {s t : State} (h : SamePower s t) : t.pins.ready = s.pins.ready := congrArg PowerView.ready h.view

theorem SamePower.fault {s t : State} (h : SamePower s t) : t.pins.fault = s.pins.fault := congrArg PowerView.fault h.view

theorem SamePower.entries {s t : State} (h : SamePower s t) : t.hlu.entries = s.hlu.entries :=
  congrArg PowerView.entries h.view

theorem SamePower.ivi {s t : State} (h : SamePower s t) : t.ivi = s.ivi := congrArg PowerView.ivi h.view

theorem SamePower.base {s t : State} (h : SamePower s t) : t.cru.base = s.cru.base := congrArg PowerView.base h.view

theorem SamePower.need {s t : State} (h : SamePower s t) : t.cru.need = s.cru.need := congrArg PowerView.need h.view

theorem SamePower.onLine {s t : State} (h : SamePower s t) : t.onLine = s.onLine := congrArg StationState.online h.state

/-! ### Plain updates -/

theorem State.setHead_power (s : State) (x : Head) : SamePower s { s with head := x } := ⟨rfl, Nat.le_refl _⟩

theorem State.setTail_power (s : State) (x : Tail) : SamePower s { s with tail := x } := ⟨rfl, Nat.le_refl _⟩

theorem State.setExu_power (s : State) (x : Exu) : SamePower s { s with exu := x } := ⟨rfl, Nat.le_refl _⟩

theorem State.setTau_power (s : State) (x : Tau) : SamePower s { s with tau := x } := ⟨rfl, Nat.le_refl _⟩

theorem State.setQueue_power (s : State) (x : CoilQueue) : SamePower s { s with cq := x } := ⟨rfl, Nat.le_refl _⟩

theorem State.setTracker_power (s : State) (x : Tracker) : SamePower s { s with tracker := x } := ⟨rfl, Nat.le_refl _⟩

theorem State.countBy_power (s : State) (c : Counter) (n : Nat) : SamePower s (s.countBy c n) := ⟨rfl, Nat.le_refl _⟩

theorem State.count_power (s : State) (c : Counter) : SamePower s (s.count c) := s.countBy_power c 1

theorem State.offerTrace_power (s : State) (o : Offer) : SamePower s (s.offerTrace o) := ⟨rfl, Nat.le_refl _⟩

theorem State.setPort_power (s : State) (p : Port) (x : LinkPort) : SamePower s (s.setPort p x) := by
  cases p <;> exact ⟨rfl, Nat.le_refl _⟩

theorem State.portCount_power (s : State) (p : Port) (c : PortCounter) : SamePower s (s.portCount p c) := s.setPort_power p _

/-- A counted event, or none. -/
theorem State.countIf_power (s : State) (p : Prop) [Decidable p] (c : Counter) :
    SamePower s (if p then s.count c else s) := .ite (fun _ => s.count_power c) (fun _ => .refl s)

/-! ### The offers of a unit (R81, R158, R159) -/

theorem State.refuseLocal_power (s : State) (p : Port) (f : Frame) : SamePower s (s.refuseLocal p f) :=
  (s.portCount_power p _).trans (State.offerTrace_power _ _)

theorem State.takeLocal_power (s : State) (p : Port) (q : List Frame) (f : Frame) : SamePower s (s.takeLocal p q f) :=
  (s.setPort_power p _).trans (State.offerTrace_power _ _)

/-- R81: a displaced frame brings its credits back. -/
theorem State.displace_power (s : State) (p : Port) (g : Frame) : SamePower s (s.displace p g) := by
  unfold State.displace
  extract_lets t
  have ht : SamePower s t := ((s.portCount_power p _).trans (State.offerTrace_power _ _)).trans (State.countBy_power _ _ _)
  exact ht.trans ⟨rfl, Nat.le_add_right _ _⟩

theorem State.offer_power (s : State) (p : Port) (f : Frame) : SamePower s (s.offer p f).state := by
  rcases s.offer_cases p f with h | ⟨-, -, h⟩ | ⟨g, -, -, -, h⟩
  · rw [h]; exact s.refuseLocal_power p f
  · rw [h]; exact s.takeLocal_power p _ f
  · rw [h]; exact (s.displace_power p g).trans (State.takeLocal_power _ p _ f)

theorem State.offerCounted_power (s : State) (p : Port) (f : Frame) (a b : Counter) : SamePower s (s.offerCounted p f a b) :=
  (s.offer_power p f).trans (.ite (fun _ => State.count_power _ a) (fun _ => State.count_power _ b))

theorem State.offerCountTaken_power (s : State) (p : Port) (f : Frame) (a : Counter) : SamePower s (s.offerCountTaken p f a) :=
  (s.offer_power p f).trans (State.countIf_power _ _ a)

theorem State.offerBothCounted_power (s : State) (x : Payload) (a b : Counter) : SamePower s (s.offerBothCounted x a b) := by
  unfold State.offerBothCounted
  extract_lets t
  have ht : SamePower s t := .ite (fun _ => s.offerCounted_power _ _ _ _) (fun _ => .refl s)
  exact ht.trans (.ite (fun _ => t.offerCounted_power _ _ _ _) (fun _ => .refl t))

theorem State.repeatOwn_power (s : State) (es : List HoldEntry) : SamePower s (s.repeatOwn es) := by
  induction es generalizing s with
  | nil => exact .refl s
  | cons e rest ih => exact .ite (fun _ => (s.offerBothCounted_power _ _ _).trans (ih _)) (fun _ => ih s)

/-! ### Calls (R97 to R106) -/

theorem State.tryStart_power (s : State) : SamePower s s.tryStart := by
  rw [State.tryStart_eq]
  exact ⟨rfl, Nat.le_refl _⟩

theorem State.takeCall_power (s : State) (k : CallKind) (n : Half) : SamePower s (s.takeCall k n) := by
  rw [State.takeCall_eq]
  exact ⟨rfl, Nat.le_refl _⟩

theorem State.passCall_power (s : State) (k : CallKind) (n : Half) (c : Counter) : SamePower s (s.passCall k n c) :=
  .ite (fun _ => (s.count_power c).trans (State.takeCall_power _ k n)) (fun _ => s.offerCounted_power _ _ _ _)

theorem State.sendCall_power (s : State) (k : CallKind) : SamePower s (s.sendCall k) :=
  (s.setTail_power _).trans (State.passCall_power _ _ _ _)

theorem State.callCheck_power (s : State) : SamePower s s.callCheck := by
  rw [State.callCheck_eq]
  split
  · exact (s.sendCall_power .self).trans (State.count_power _ _)
  · exact (s.sendCall_power .press).trans (State.setTail_power _ _)
  · exact .refl s

/-! ### The Exit Unit (R114 to R125) -/

theorem State.applyTrim_power (s : State) (n : Int) : SamePower s (s.applyTrim n) := by
  unfold State.applyTrim
  extract_lets v src t u
  have hu : SamePower s u := (s.setTau_power _).trans (t.count_power _)
  exact hu.trans (u.countIf_power _ _)

theorem State.sendTrim_power (s : State) (x : TrimStep) : SamePower s (s.sendTrim x) := by
  unfold State.sendTrim
  extract_lets n src t r
  have ht : SamePower s t := s.setExu_power _
  have hr : SamePower s r.state := ht.trans (t.offer_power _ _)
  have happly (y : State) (c : Counter) : SamePower y ((y.applyTrim (trimStepValue x)).count c) :=
    (y.applyTrim_power _).trans (State.count_power _ c)
  exact .ite (fun _ => ht.trans (happly t _))
    (fun _ => .ite (fun _ => hr.trans (happly _ _)) (fun _ => hr.trans (State.count_power _ _)))

theorem State.sampleTrim_power (s : State) (n : Int) : SamePower s (s.sampleTrim n) := by
  unfold State.sampleTrim
  extract_lets es t src1 u src2 v
  have ht : SamePower s t := s.count_power _
  have hu : SamePower t u := by
    dsimp only [u]
    split
    · exact t.sendTrim_power _
    · exact .refl t
  exact .ite (fun _ => ht.trans (t.setExu_power _))
    (fun _ => ht.trans (hu.trans ((u.setExu_power _).trans (v.count_power _))))

theorem State.recordDecision_power (s : State) (b : Latched) (x : Reasons) (v : Option Nat) :
    SamePower s (s.recordDecision b x v) := by
  have hlog : SamePower s (s.appendLog (logEntry s.now b x v)) := by
    rw [State.appendLog_eq]
    exact ⟨rfl, Nat.le_refl _⟩
  have hfill (y : State) : SamePower y y.clearFill := by
    rw [State.clearFill_eq]
    exact y.setTail_power _
  unfold State.recordDecision
  extract_lets t
  split
  · split
    · exact (hlog.trans (hfill t)).trans (State.sampleTrim_power _ _)
    · exact hlog.trans (hfill t)
  · exact hlog

/-- R117: a gate event, by way of what it does before the log entry. -/
theorem State.gateEvent_power (s : State) (b : Latched) (x : Reasons) (v : Option Nat) : SamePower s (s.gateEvent b x v) := by
  have hbefore : SamePower s (s.beforeLog x) := by
    rw [State.beforeLog_eq]
    exact ⟨rfl, Nat.le_refl _⟩
  rw [State.gateEvent_eq_recordDecision]
  exact hbefore.trans (State.recordDecision_power _ _ _ _)

theorem State.forceAwaiting_power (s : State) : SamePower s s.forceAwaiting := by
  unfold State.forceAwaiting
  split
  · exact ((s.gateEvent_power _ _ _).trans (State.setExu_power _ _)).trans (State.count_power _ _)
  · exact .refl s

theorem State.exitHandover_power (s : State) (r : Record) (n : Half) : SamePower s (s.exitHandover r n) :=
  .ite (fun _ => s.forceAwaiting_power.trans (State.setExu_power _ _)) (fun _ => s.gateEvent_power _ _ _)

theorem State.takeSample_power (s : State) (a : Awaiting) : SamePower s (s.takeSample a) := by
  unfold State.takeSample
  extract_lets src t
  have ht : SamePower s t := s.setExu_power _
  split
  · exact (ht.trans (t.count_power _)).trans (State.gateEvent_power _ _ _ _)
  · exact ht.trans (t.gateEvent_power _ _ _)

theorem State.preview_power (s : State) : SamePower s s.preview := .ite (fun _ => s.setExu_power _) (fun _ => .refl s)

theorem State.hearTrim_power (s : State) (step : TrimStep) (n : Half) : SamePower s (s.hearTrim step n) := by
  unfold State.hearTrim
  extract_lets t src u
  have ht : SamePower s t := by
    dsimp only [t]
    split
    · exact .ite (fun _ => s.countBy_power _ _) (fun _ => .refl s)
    · exact .refl s
  exact (ht.trans (t.setTau_power _)).trans (u.applyTrim_power _)

/-! ### Shifts of the coil queue (R11 to R14) -/

theorem State.countExcursion_power (s : State) : SamePower s s.countExcursion := s.countIf_power _ _

theorem State.countDuplicate_power (s : State) (o : List Slot) (x : Slot) : SamePower s (s.countDuplicate o x) :=
  s.countIf_power _ _

theorem State.handOn_power (s : State) (n : Half) (b : Byte) (x : Slot) : SamePower s (s.handOn n b x) := by
  unfold State.handOn
  split
  · split
    · exact s.exitHandover_power _ _
    · exact .refl s
  · exact s.offerCounted_power _ _ _ _

theorem State.shift_power (s : State) (b : Byte) (x : Slot) : SamePower s (s.shift b x) := by
  have hmove : SamePower s (s.moveQueue b x) :=
    ((s.countExcursion_power.trans (State.handOn_power _ _ _ _)).trans (State.countDuplicate_power _ _ _)).trans
      ((State.setQueue_power _ _).trans (State.count_power _ _))
  exact hmove.trans (.ite
    (fun _ => ((State.setTail_power _ _).trans (State.preview_power _)).trans (State.callCheck_power _)) (fun _ => .refl _))

theorem State.catchUp_power (s : State) : SamePower s s.catchUp :=
  ((s.count_power _).trans (State.shift_power _ _ _)).trans (State.count_power _ _)

theorem State.catchUps_power (s : State) (k : Nat) : SamePower s (s.catchUps k) := by
  induction k generalizing s with
  | zero => exact .refl s
  | succ k ih => exact s.catchUp_power.trans (ih _)

/-! ### The tracker and the STROKE frame (R87 to R94) -/

theorem State.frameAdjust_power (s : State) : SamePower s s.frameAdjust :=
  .ite (fun _ => .ite (fun _ => s.setTracker_power _)
    (fun _ => .ite (fun _ => s.setTracker_power _) (fun _ => s.count_power _))) (fun _ => .refl s)

theorem State.selfStroke_power (s : State) : SamePower s s.selfStroke :=
  (((s.count_power _).trans (State.shift_power _ _ _)).trans (State.setTracker_power _ _)).trans (State.count_power _ _)

theorem State.countRepair_power (s : State) (w : WireRecord) : SamePower s (s.countRepair w) := s.countIf_power _ _

theorem State.ownShift_power (s : State) (x : Option WireRecord) : SamePower s (s.ownShift x) := by
  have hpayload : SamePower s (s.countPayload x) := by
    cases x with
    | none => exact .refl s
    | some w => exact s.countRepair_power w
  exact (hpayload.trans (State.shift_power _ _ _)).trans (State.frameAdjust_power _)

theorem State.catchUpsAdjusted_power (s : State) (k : Nat) : SamePower s (s.catchUpsAdjusted k) := by
  induction k generalizing s with
  | zero => exact .refl s
  | succ k ih => exact (s.catchUp_power.trans (State.frameAdjust_power _)).trans (ih _)

theorem State.lateStroke_power (s : State) (n : Half) (x : Option WireRecord) : SamePower s (s.lateStroke n x) := by
  have hmerge (w : WireRecord) (held : Record) (ss : SelfStroke) : SamePower s (s.mergeLate w held ss) := by
    unfold State.mergeLate
    extract_lets o m t src u v
    have hv : SamePower s v := ((s.countRepair_power w).trans (State.countDuplicate_power _ _ _)).trans
      ((t.setQueue_power _).trans (u.count_power _))
    exact hv.trans (.ite (fun _ => v.preview_power) (fun _ => .refl v))
  unfold State.lateStroke
  split
  · exact hmerge _ _ _
  · exact s.count_power _

theorem State.takeStroke_power (s : State) (n : Half) (b : Byte) (x : Option WireRecord) : SamePower s (s.takeStroke n b x) := by
  unfold State.takeStroke
  extract_lets t
  have ht : SamePower s t := s.countIf_power _ _
  exact ht.trans (.ite (fun _ => t.count_power _) (fun _ => .ite
    (fun _ => (t.catchUpsAdjusted_power _).trans (State.ownShift_power _ _)) (fun _ => t.lateStroke_power _ _)))

/-! ### The head and the tail's timers (R99 to R109) -/

theorem State.headStroke_power (s : State) : SamePower s s.headStroke :=
  .ite (fun _ => (s.countIf_power _ _).trans ((State.setHead_power _ _).trans (State.shift_power _ _ _)))
    (fun _ => s.shift_power _ _)

theorem State.takePushed_power (s : State) : SamePower s s.takePushed := by
  unfold State.takePushed
  split
  · exact (s.headStroke_power.trans (State.setHead_power _ _)).trans (State.tryStart_power _)
  · exact .ite (fun _ => (s.headStroke_power.trans (State.setHead_power _ _)).trans (State.count_power _ _))
      (fun _ => s.count_power _)
  · exact s.count_power _

theorem State.callTimeout_power (s : State) : SamePower s s.callTimeout := by
  unfold State.callTimeout
  split
  · exact (s.setTail_power _).trans (State.passCall_power _ _ _ _)
  · exact s.setTail_power _

theorem State.fillExpires_power (s : State) : SamePower s s.fillExpires :=
  .ite (fun _ => ((s.setTail_power _).trans (State.sendCall_power _ _)).trans (State.count_power _ _))
    (fun _ => s.setTail_power _)

theorem State.takeMotion_power (s : State) : SamePower s s.takeMotion :=
  .ite (fun _ => .ite (fun _ => (s.setTracker_power _).trans (State.count_power _ _))
      (fun _ => .ite (fun _ => s.setTracker_power _) (fun _ => s.count_power _)))
    (fun _ => .ite (fun _ => .refl s) (fun _ => s.count_power _))

theorem State.giveUpConfirm_power (s : State) : SamePower s s.giveUpConfirm :=
  (s.setTracker_power _).trans (State.count_power _ _)

theorem State.stepPulse_power (s : State) : SamePower s s.stepPulse := by
  unfold State.stepPulse
  split
  · exact .refl s
  · exact .ite (fun _ => s.setExu_power _) (fun _ => .refl s)
  · exact .ite (fun _ => .ite (fun _ => s.setExu_power _) (fun _ => s.setExu_power _)) (fun _ => .refl s)

end Sys2Proof.Machine
end

section
/-!
PROOFS. What an event other than a boundary leaves of power: the setpoint stays or falls, and the invariants of power hold on (R58,
R59, R129). The raise and the removal of causes, with the mode that follows them.
-/

namespace Sys2Proof.Machine

/-! ### Events that do not raise power -/

/-- R57, R59: the latched setpoint stays; enable and the setpoint in force stay, or are cut together. -/
def Ivi.FallsTo (x y : Ivi) : Prop :=
  y.latched = x.latched ∧ y.latchedMark = x.latchedMark ∧
  (y.enable = x.enable ∧ y.inForce = x.inForce ∨ y.enable = false ∧ y.inForce = 0)

theorem Ivi.FallsTo.refl (x : Ivi) : x.FallsTo x := ⟨rfl, rfl, .inl ⟨rfl, rfl⟩⟩

theorem Ivi.FallsTo.trans {x y z : Ivi} (h : x.FallsTo y) (k : y.FallsTo z) : x.FallsTo z := by
  obtain ⟨hlatched, hmark, hxy⟩ := h
  obtain ⟨klatched, kmark, hyz⟩ := k
  refine ⟨klatched.trans hlatched, kmark.trans hmark, ?_⟩
  rcases hyz with ⟨hen, hin⟩ | hcut
  · rw [hen, hin]
    exact hxy
  · exact .inr hcut

theorem Ivi.FallsTo.cut (x : Ivi) : x.FallsTo { x with inForce := 0, enable := false } := ⟨rfl, rfl, .inr ⟨rfl, rfl⟩⟩

/-- A fall does not raise the setpoint in force. -/
theorem Ivi.FallsTo.inForce_le {x y : Ivi} (h : x.FallsTo y) : y.inForce ≤ x.inForce := by
  obtain ⟨-, -, ⟨-, hin⟩ | ⟨-, hin⟩⟩ := h <;> omega

/-- What an event other than a boundary does to power. -/
structure PowerStep (s t : State) : Prop where
  safe : s.PowerSafe → t.PowerSafe
  covered : s.CreditsCover → t.CreditsCover
  onLine : s.onLine = true → t.onLine = true
  falls : s.onLine = true → s.ivi.FallsTo t.ivi

theorem PowerStep.trans {s t u : State} (h : PowerStep s t) (k : PowerStep t u) : PowerStep s u :=
  { safe := fun x => k.safe (h.safe x)
    covered := fun x => k.covered (h.covered x)
    onLine := fun x => k.onLine (h.onLine x)
    falls := fun x => (h.falls x).trans (k.falls (h.onLine x)) }

/-- The station stays in its place, its credits do not fall, and its setpoint does not rise. -/
structure SamePlace (s t : State) : Prop where
  onLine : t.onLine = s.onLine
  image : t.svi.image = s.svi.image
  position : t.ldu.position = s.ldu.position
  base : t.cru.base = s.cru.base
  need : t.cru.need = s.cru.need
  loans : s.cru.loans ≤ t.cru.loans
  falls : s.ivi.FallsTo t.ivi

/-- A station that stays in its place keeps power safe where its mode, its FAULT cause and its drive conditions stand. -/
structure PowerChange (s t : State) : Prop extends SamePlace s t where
  mode : s.ModeOk → t.ModeOk
  held : s.FaultHeld → t.FaultHeld
  drives : s.ModeOk → s.FaultHeld → t.ivi.enable = true → s.ldu.state = .run ∨ s.ldu.state = .hold → s.pins.ready = true →
    (t.ldu.state = .run ∨ t.ldu.state = .hold) ∧ t.pins.ready = true

theorem SamePlace.img {s t : State} (h : SamePlace s t) : t.img = s.img := by unfold State.img; rw [h.image]

theorem SamePlace.pos {s t : State} (h : SamePlace s t) : t.pos = s.pos := by unfold State.pos; rw [h.position]

theorem SamePlace.trans {s t u : State} (h : SamePlace s t) (k : SamePlace t u) : SamePlace s u :=
  { onLine := k.onLine.trans h.onLine
    image := k.image.trans h.image
    position := k.position.trans h.position
    base := k.base.trans h.base
    need := k.need.trans h.need
    loans := h.loans.trans k.loans
    falls := h.falls.trans k.falls }

theorem SamePower.samePlace {s t : State} (h : SamePower s t) : SamePlace s t :=
  ⟨h.onLine, h.image, h.position, h.base, h.need, h.loans, by rw [h.ivi]; exact .refl _⟩

/-- R58: credits that do not fall cover a setpoint that does not rise. -/
theorem SamePlace.covered {s t : State} (h : SamePlace s t) (hs : s.CreditsCover) : t.CreditsCover := by
  intro hon
  obtain ⟨hheld, hneed⟩ := hs (h.onLine.symm.trans hon)
  have hcredits := Nat.mul_le_mul_right (s.img.creditKw * 10) (Nat.add_le_add_left h.loans s.cru.base)
  rw [h.img, h.base, h.need]
  exact ⟨(h.falls.inForce_le.trans hheld).trans hcredits, h.falls.inForce_le.trans hneed⟩

theorem SamePlace.rating {s t : State} (h : SamePlace s t) (hs : s.RatingOk) : t.RatingOk := fun hon => by
  rw [h.img, h.pos]
  exact h.falls.inForce_le.trans (hs (h.onLine.symm.trans hon))

theorem PowerChange.step {s t : State} (h : PowerChange s t) : PowerStep s t where
  safe := fun ⟨hmode, hheld, ⟨hhigh, hlow⟩, hrating⟩ => by
    refine ⟨h.mode hmode, h.held hheld, ⟨fun hen => ?_, fun hen => ?_⟩, h.rating hrating⟩
    · obtain ⟨hlatched, -, ⟨hsame, hin⟩ | ⟨hcut, -⟩⟩ := h.falls
      · obtain ⟨hstate, hready, hforce⟩ := hhigh (hsame.symm.trans hen)
        obtain ⟨hstate', hready'⟩ := h.drives hmode hheld hen hstate hready
        exact ⟨hstate', hready', hin.trans (hforce.trans hlatched.symm)⟩
      · exact absurd (hcut.symm.trans hen) (by decide)
    · obtain ⟨-, -, ⟨hsame, hin⟩ | ⟨-, hzero⟩⟩ := h.falls
      · exact hin.trans (hlow (hsame.symm.trans hen))
      · exact hzero
  covered := h.covered
  onLine := h.onLine.trans
  falls := fun _ => h.falls

theorem SamePower.step {s t : State} (h : SamePower s t) : PowerStep s t :=
  PowerChange.step
    { toSamePlace := h.samePlace
      mode := fun hs hon => by rw [h.state, h.entries]; exact hs (h.onLine.symm.trans hon)
      held := fun hs hon hfault => by
        unfold Hlu.hasOwn
        rw [h.entries]
        exact hs (h.onLine.symm.trans hon) (h.fault.symm.trans hfault)
      drives := fun _ _ _ hstate hready => by rw [h.state, h.ready]; exact ⟨hstate, hready⟩ }

theorem PowerStep.refl (s : State) : PowerStep s s := (SamePower.refl s).step

/-- An event that acts under a condition alone. -/
theorem PowerStep.ite {s t : State} {p : Prop} [Decidable p] (h : p → PowerStep s t) : PowerStep s (if p then t else s) := by
  split
  · exact h ‹_›
  · exact .refl s

/-! ### The mode of a list (R129) -/

theorem modeOf_eq_tripped_iff (x : Hlu) :
    modeOf x.entries = .tripped ↔ x.hasOwn .estop = true ∨ x.hasOwn .inverterFault = true := by
  have hany : x.entries.any (fun e => e.own && (e.cause == .estop || e.cause == .inverterFault)) =
      (x.hasOwn .estop || x.hasOwn .inverterFault) := by
    unfold Hlu.hasOwn
    rw [Bool.eq_iff_iff]
    simp only [Bool.or_eq_true, List.any_eq_true, Bool.and_eq_true, and_or_left, exists_or]
  unfold modeOf
  rw [hany, ← Bool.or_eq_true]
  split
  · simp_all
  · split <;> simp_all

theorem modeOf_cases (es : List HoldEntry) : modeOf es = .tripped ∨ modeOf es = .run ∨ modeOf es = .hold := by
  unfold modeOf
  split
  · exact .inl rfl
  · split
    · exact .inr (.inl rfl)
    · exact .inr (.inr rfl)

/-- R129, R98: the derivation changes the station state, and the head that may start. -/
theorem State.deriveMode_eq (s : State) : s.deriveMode =
    { s with ldu := { s.ldu with state := if s.onLine then modeOf s.hlu.entries else s.ldu.state }
             head := s.deriveMode.head, counters := s.deriveMode.counters } := by
  unfold State.deriveMode
  split
  · rw [State.tryStart_eq]
    split
    · rename_i hm
      rw [hm]
    · rfl
  · rfl

/-- The station's place after the derivation. -/
theorem State.deriveMode_place (s : State) : SamePlace s s.deriveMode := by
  rw [State.deriveMode_eq]
  refine ⟨?_, rfl, rfl, rfl, rfl, Nat.le_refl _, .refl _⟩
  show StationState.online (if s.onLine then modeOf s.hlu.entries else s.ldu.state) = s.onLine
  split
  · rename_i hon
    exact (modeOf_online _).trans hon.symm
  · rfl

/-! ### A change of the hold cause list, and the mode that follows it -/

/-- An event up to the derivation of the mode: it trips the station only where that is TRIPPED or power is cut, and holds the cause of
a FAULT. -/
structure ListChange (s m : State) : Prop extends SamePlace s m where
  state : m.ldu.state = s.ldu.state
  ready : m.pins.ready = s.pins.ready
  trips : s.onLine = true → s.ModeOk → modeOf m.hlu.entries = .tripped → s.ldu.state = .tripped ∨ m.ivi.enable = false
  held : s.onLine = true → s.FaultHeld → m.FaultHeld

theorem ListChange.trans_power {s m t : State} (h : ListChange s m) (k : SamePower m t) : ListChange s t :=
  { toSamePlace := h.toSamePlace.trans k.samePlace
    state := k.state.trans h.state
    ready := k.ready.trans h.ready
    trips := by rw [k.entries, k.ivi]; exact h.trips
    held := fun hon hs => by
      unfold State.FaultHeld Hlu.hasOwn
      rw [k.onLine, k.fault, k.entries]
      exact h.held hon hs }

theorem ListChange.derive {s m : State} (h : ListChange s m) : PowerStep s m.deriveMode := by
  have hplace := h.toSamePlace.trans m.deriveMode_place
  refine PowerChange.step ⟨hplace, fun _ hon => ?_, fun hs hon => ?_, fun hmode _ hen hstate hready => ?_⟩
  · rw [State.deriveMode_hlu]
    exact State.deriveMode_state _ (m.deriveMode_place.onLine.symm.trans hon)
  · have hheld := h.held (hplace.onLine.symm.trans hon) hs (m.deriveMode_place.onLine.symm.trans hon)
    rwa [State.deriveMode_eq]
  · have hivi : m.deriveMode.ivi = m.ivi := m.deriveMode_hold.ivi
    have hpins : m.deriveMode.pins = m.pins := m.deriveMode_hold.pins
    have hons : s.onLine = true := by unfold State.onLine; rcases hstate with hst | hst <;> rw [hst] <;> rfl
    rw [hpins, h.ready, State.deriveMode_state _ (h.onLine.trans hons)]
    refine ⟨?_, hready⟩
    rcases modeOf_cases m.hlu.entries with htrip | hdrive
    · rcases h.trips hons hmode htrip with hst | hcut
      · exact absurd hstate (by rw [hst]; decide)
      · rw [hivi, hcut] at hen
        cases hen
    · exact hdrive

/-! ### Causes of the line (R134 to R137) -/

/-- A list with the same own causes. -/
theorem State.setHlu_list (s : State) (x : Hlu) (h : ∀ c, x.hasOwn c = s.hlu.hasOwn c) : ListChange s { s with hlu := x } where
  onLine := rfl
  image := rfl
  position := rfl
  base := rfl
  need := rfl
  loans := Nat.le_refl _
  falls := .refl _
  state := rfl
  ready := rfl
  trips := fun hon hmode htrip => .inl ((hmode hon).trans ((modeOf_eq_tripped_iff _).mpr (by
    rw [← h, ← h]; exact (modeOf_eq_tripped_iff x).mp htrip)))
  held := fun _ hs hon hfault => (h _).trans (hs hon hfault)

theorem ListChange.refl (s : State) : ListChange s s := s.setHlu_list s.hlu (fun _ => rfl)

theorem State.deriveMode_step (s : State) : PowerStep s s.deriveMode := (ListChange.refl s).derive

/-- Removing or refreshing heard entries leaves the own causes. -/
theorem any_filter_of_imp {α : Type} {p q : α → Bool} (es : List α) (h : ∀ e, q e = true → p e = true) :
    (es.filter p).any q = es.any q := by
  rw [List.any_filter]
  refine congrArg (List.any es) (funext fun e => ?_)
  cases hq : q e with
  | false => exact Bool.and_false _
  | true => rw [h e hq]; rfl

theorem State.dropHeard_list (s : State) (c : Cause) (origin : Byte) : ListChange s (s.dropHeard c origin) := by
  refine s.setHlu_list _ (fun d => any_filter_of_imp _ fun e he => ?_)
  obtain ⟨hown, -⟩ := Bool.and_eq_true_iff.mp he
  rw [hown]
  rfl

theorem State.hearHold_step (s : State) (code origin : Byte) : PowerStep s (s.hearHold code origin) := by
  unfold State.hearHold
  extract_lets t
  have ht : PowerStep s t := (s.count_power _).step
  split
  · exact ht.trans (t.count_power _).step
  split
  · exact ht.trans (t.count_power _).step
  split
  · refine ht.trans (t.setHlu_list _ fun d => ?_).derive
    unfold Hlu.hasOwn
    rw [List.any_map]
    refine congrArg (List.any t.hlu.entries) (funext fun e => ?_)
    dsimp only [Function.comp]
    split <;> rfl
  split
  · refine ht.trans (t.setHlu_list _ fun d => ?_).derive
    unfold Hlu.hasOwn
    rw [List.any_append]
    exact Bool.or_false _
  · exact (ht.trans (t.count_power _).step).trans (State.deriveMode_step _)

theorem State.hearClear_step (s : State) (code origin : Byte) : PowerStep s (s.hearClear code origin) := by
  unfold State.hearClear
  extract_lets t
  have ht : PowerStep s t := (s.count_power _).step
  split
  · exact ht.trans (t.count_power _).step
  split
  · exact ht.trans (t.count_power _).step
  split
  · exact ht.trans (t.dropHeard_list _ _).derive
  · exact ht.trans (t.count_power _).step

theorem State.refreshOwn_power (s : State) : SamePower s s.refreshOwn :=
  (s.repeatOwn_power s.hlu.entries).trans ⟨rfl, Nat.le_refl _⟩

/-! ### Own causes (R130 to R133) -/

theorem any_eraseP_of_disjoint {α : Type} {p q : α → Bool} (es : List α) (h : ∀ e, p e = true → q e = false) :
    (es.eraseP p).any q = es.any q := by
  induction es with
  | nil => rfl
  | cons e rest ih =>
    cases hp : p e with
    | true => rw [List.eraseP_cons_of_pos hp, List.any_cons, h e hp, Bool.false_or]
    | false => rw [List.eraseP_cons_of_neg (by simp [hp]), List.any_cons, List.any_cons, ih]

/-- R130: room is made by a heard entry. -/
theorem State.makeRoom_hasOwn (s : State) (c : Cause) : s.makeRoom.hlu.hasOwn c = s.hlu.hasOwn c := by
  unfold State.makeRoom
  split
  · rfl
  · refine any_eraseP_of_disjoint _ fun e he => ?_
    obtain ⟨hheard, -⟩ := Bool.and_eq_true_iff.mp he
    rw [(Bool.not_eq_true' _).mp hheard]
    rfl

theorem State.raiseOwn_hasOwn_eq (s : State) (c d : Cause) :
    (s.raiseOwn c).hlu.hasOwn d = (s.hlu.hasOwn d || c == d) := by
  cases h : s.hlu.hasOwn c with
  | true =>
    unfold State.raiseOwn
    rw [if_pos h]
    cases hcd : c == d with
    | true => rw [← eq_of_beq hcd, h]; rfl
    | false => exact (Bool.or_false _).symm
  | false =>
    unfold Hlu.hasOwn
    rw [s.raiseOwn_entries c h, List.any_append]
    exact congrArg₂ or (s.makeRoom_hasOwn d) (by simp)

/-- The station's place after an own cause is raised. -/
theorem State.raiseOwn_place (s : State) (c : Cause) : SamePlace s (s.raiseOwn c) := by
  have hframe := s.raiseOwn_hold c
  have hroom : s.makeRoom.cru = s.cru := by unfold State.makeRoom; split <;> rfl
  have hoffer (t : State) : SamePower t (t.offerHold c) := .ite (fun _ => .refl t) (fun _ => t.offerBothCounted_power _ _ _)
  refine ⟨?_, by rw [hframe.svi], by rw [s.raiseOwn_ldu c], by rw [hframe.cru], by rw [hframe.cru], ?_,
    by rw [hframe.ivi]; exact .refl _⟩
  · unfold State.onLine
    rw [s.raiseOwn_ldu c]
  · unfold State.raiseOwn
    split
    · exact Nat.le_refl _
    · extract_lets r src t u src2 v
      have hcru : t.cru = s.cru := hroom
      have hloans : t.cru.loans ≤ u.cru.loans := (hoffer t).loans
      rw [hcru] at hloans
      exact hloans

/-- A raised cause that does not trip: the station is TRIPPED already, power is cut, or the cause is another. -/
theorem State.raiseOwn_list {s m : State} (c : Cause) (h : SamePlace s m) (hstate : m.ldu.state = s.ldu.state)
    (hready : m.pins.ready = s.pins.ready) (hentries : m.hlu = s.hlu)
    (htrip : s.ldu.state = .tripped ∨ m.ivi.enable = false ∨ c ≠ .estop ∧ c ≠ .inverterFault)
    (hfault : c = .inverterFault ∨ m.pins.fault = s.pins.fault) : ListChange s (m.raiseOwn c) := by
  have hframe := m.raiseOwn_hold c
  have howns (d : Cause) : (m.raiseOwn c).hlu.hasOwn d = (s.hlu.hasOwn d || c == d) := by
    rw [m.raiseOwn_hasOwn_eq c d, hentries]
  refine { toSamePlace := h.trans (m.raiseOwn_place c), state := by rw [m.raiseOwn_ldu c, hstate]
           ready := by rw [hframe.pins, hready], trips := fun hon hmode ht => ?_, held := fun hon hs _ hf => ?_ }
  · rw [hframe.ivi]
    rcases htrip with hs | hcut | ⟨hestop, hinverter⟩
    · exact .inl hs
    · exact .inr hcut
    · rw [modeOf_eq_tripped_iff, howns, howns, beq_eq_false_iff_ne.mpr hestop, beq_eq_false_iff_ne.mpr hinverter,
        Bool.or_false, Bool.or_false, ← modeOf_eq_tripped_iff] at ht
      exact .inl ((hmode hon).trans ht)
  · rw [howns]
    rcases hfault with rfl | hpins
    · exact Bool.or_true _
    · rw [hs hon (by rw [← hpins, ← hframe.pins]; exact hf)]
      rfl

/-- A cause of the line or of the pusher is raised. -/
theorem State.raiseOther_list (s : State) {c : Cause} (h : c ≠ .estop ∧ c ≠ .inverterFault) : ListChange s (s.raiseOwn c) :=
  s.raiseOwn_list c (SamePower.refl s).samePlace rfl rfl rfl (.inr (.inr h)) (.inr rfl)

/-! ### Trips (R62, R63) -/

theorem State.tripInverter_eq (s : State) : s.tripInverter = { s with ivi := s.tripInverter.ivi } := by
  unfold State.tripInverter
  split <;> rfl

theorem State.tripInverter_ivi (s : State) : s.tripInverter.ivi =
    if s.ldu.state = .tripped then s.ivi else { s.ivi with inForce := 0, enable := false } := by
  unfold State.tripInverter
  split <;> rfl

theorem State.tripInverter_falls (s : State) : s.ivi.FallsTo s.tripInverter.ivi := by
  rw [State.tripInverter_ivi]
  split
  · exact .refl _
  · exact .cut _

/-- The trip cuts power unless the station is TRIPPED. -/
theorem State.tripInverter_cuts (s : State) : s.ldu.state = .tripped ∨ s.tripInverter.ivi.enable = false := by
  rw [State.tripInverter_ivi]
  split
  · exact .inl ‹_›
  · exact .inr rfl

/-- R62, R63: a trip edge, from the state before its line stands. -/
theorem State.trip_step (s : State) (x : Pins) (c : Cause) (k : Counter) (hready : x.ready = s.pins.ready)
    (hfault : c = .inverterFault ∨ x.fault = s.pins.fault) :
    PowerStep s ((({ s with pins := x } : State).tripInverter.raiseOwn c).count k).deriveMode := by
  have hivi := State.tripInverter_falls { s with pins := x }
  have hcuts := State.tripInverter_cuts { s with pins := x }
  refine ListChange.derive (.trans_power (m := ({ s with pins := x } : State).tripInverter.raiseOwn c) ?_ (State.count_power _ k))
  rw [State.tripInverter_eq]
  exact State.raiseOwn_list c ⟨rfl, rfl, rfl, rfl, rfl, Nat.le_refl _, hivi⟩ rfl hready rfl (hcuts.imp_right .inl) hfault

/-! ### The removal of own causes (R133, R140) -/

/-- The station's place after an own cause is removed. -/
theorem State.removeOwn_place (s : State) (c : Cause) : SamePlace s (s.removeOwn c) := by
  have hframe := s.removeOwn_hold c
  refine ⟨?_, by rw [hframe.svi], by rw [s.removeOwn_ldu c], by rw [hframe.cru], by rw [hframe.cru], ?_,
    by rw [hframe.ivi]; exact .refl _⟩
  · unfold State.onLine
    rw [s.removeOwn_ldu c]
  · unfold State.removeOwn
    split
    · extract_lets es src t
      exact ((t.offerBothCounted_power _ _ _).trans (State.count_power _ _)).loans
    · exact Nat.le_refl _

theorem State.removeListed_place (s : State) (w : Cause → Bool) (es : List HoldEntry) :
    SamePlace s (s.removeListed w es) ∧ (s.removeListed w es).ldu = s.ldu := by
  induction es generalizing s with
  | nil => exact ⟨(SamePower.refl s).samePlace, rfl⟩
  | cons e rest ih =>
    unfold State.removeListed
    split
    · obtain ⟨hplace, hldu⟩ := ih (s.removeOwn e.cause)
      exact ⟨(s.removeOwn_place e.cause).trans hplace, hldu.trans (s.removeOwn_ldu e.cause)⟩
    · exact ih s

/-- R133: the list after the wanted own causes of `es` were removed. -/
theorem State.removeListed_entries (s : State) (w : Cause → Bool) (es : List HoldEntry) :
    (s.removeListed w es).hlu.entries = s.hlu.entries.filter (fun e =>
      !(e.own && (w e.cause && es.any (fun x => x.own && x.cause == e.cause)))) := by
  induction es generalizing s with
  | nil => exact (List.filter_eq_self.mpr fun e _ => by simp).symm
  | cons x rest ih =>
    unfold State.removeListed
    split
    · rename_i hx
      obtain ⟨hown, hwanted⟩ := Bool.and_eq_true_iff.mp hx
      rw [ih, s.removeOwn_entries, List.filter_filter]
      refine List.filter_congr fun e _ => ?_
      rw [List.any_cons, hown]
      cases hcause : x.cause == e.cause with
      | true => rw [← eq_of_beq hcause, hwanted]; cases e.own <;> simp
      | false => rw [show (e.cause == x.cause) = false from Bool.beq_comm.trans hcause]; simp
    · rename_i hx
      rw [ih]
      refine List.filter_congr fun e _ => ?_
      rw [List.any_cons]
      cases hcause : x.cause == e.cause with
      | true => rw [← eq_of_beq hcause]; cases hw : w x.cause <;> simp_all
      | false => simp

/-- An own cause that is not wanted stays, and none comes. -/
theorem State.removeListed_hasOwn (s : State) (w : Cause → Bool) (es : List HoldEntry) (c : Cause) :
    (s.removeListed w es).hlu.hasOwn c =
      (s.hlu.hasOwn c && !(w c && es.any (fun x => x.own && x.cause == c))) := by
  unfold Hlu.hasOwn
  rw [s.removeListed_entries, List.any_filter]
  generalize hgone : (w c && es.any (fun x => x.own && x.cause == c)) = gone
  rw [show (fun e : HoldEntry => !(e.own && (w e.cause && es.any (fun x => x.own && x.cause == e.cause))) && (e.own && e.cause == c)) =
    (fun e => (e.own && e.cause == c) && !gone) from funext fun e => ?_]
  · induction s.hlu.entries with
    | nil => rfl
    | cons e rest ih => rw [List.any_cons, List.any_cons, ih, Bool.and_or_distrib_right]
  · cases hown : e.own with
    | false => simp
    | true =>
      cases hcause : e.cause == c with
      | false => simp
      | true => rw [eq_of_beq hcause, hgone]; simp

/-- R133: own causes are removed, but for that of a FAULT that stands. -/
theorem State.removeListed_list (s : State) (w : Cause → Bool) (es : List HoldEntry)
    (h : s.pins.fault = true → w .inverterFault = false) : ListChange s (s.removeListed w es) := by
  obtain ⟨hplace, hldu⟩ := s.removeListed_place w es
  have hframe := s.removeListed_hold w es
  refine { toSamePlace := hplace, state := by rw [hldu], ready := by rw [hframe.pins], trips := fun hon hmode ht => ?_
           held := fun hon hs _ hf => ?_ }
  · rw [modeOf_eq_tripped_iff, s.removeListed_hasOwn, s.removeListed_hasOwn] at ht
    exact .inl ((hmode hon).trans ((modeOf_eq_tripped_iff _).mpr
      (ht.imp (fun x => (Bool.and_eq_true_iff.mp x).1) (fun x => (Bool.and_eq_true_iff.mp x).1))))
  · rw [hframe.pins] at hf
    rw [s.removeListed_hasOwn, hs hon hf, h hf]
    rfl

theorem State.removeListed_single (s : State) (c : Cause) :
    s.removeListed (· == c) [{ cause := c, origin := 0, own := true, refreshed := 0 }] = s.removeOwn c :=
  if_pos (beq_self_eq_true c)

/-- A cause of the line is removed. -/
theorem State.removeOther_list (s : State) {c : Cause} (h : c ≠ .inverterFault) : ListChange s (s.removeOwn c) := by
  rw [← State.removeListed_single]
  exact s.removeListed_list _ _ (fun _ => beq_eq_false_iff_ne.mpr h.symm)

theorem State.countTripReset_power (s : State) : SamePower s s.countTripReset :=
  .ite (fun _ => .ite (fun _ => s.count_power _) (fun _ => .refl s)) (fun _ => s.count_power _)

theorem State.resetPusher_power (s : State) : SamePower s s.resetPusher :=
  .ite (fun _ => (s.setHead_power _).trans (State.count_power _ _)) (fun _ => .refl s)

theorem State.resetTrip_step (s : State) : PowerStep s s.resetTrip := by
  have ht : SamePower s s.countTripReset.resetPusher := s.countTripReset_power.trans (State.resetPusher_power _)
  refine ht.step.trans (State.removeListed_list _ _ _ fun hf => ?_).derive
  rw [ht.fault] at hf
  show s.tripClear = false
  unfold State.tripClear
  rw [hf]
  exact Bool.and_false _

end Sys2Proof.Machine
end

section
/-!
PROOFS. The rest of the part's events but the period end keep power safe and do not raise it (R57 to R63): the calls of the tail, the
credits, line discovery, the link ports and the service port.
-/

namespace Sys2Proof.Machine

/-! ### Press calls and the pusher (R99 to R107) -/

theorem State.pusherTimesOut_step (s : State) : PowerStep s s.pusherTimesOut := by
  unfold State.pusherTimesOut
  extract_lets src t
  have ht : SamePower s (t.count .pusherTimeouts) := (s.setHead_power _).trans (t.count_power _)
  exact ht.step.trans (State.raiseOther_list _ (by decide)).derive

theorem State.pressIdles_step (s : State) : PowerStep s s.pressIdles := by
  unfold State.pressIdles
  extract_lets src t
  have ht : SamePower s (t.count .pressIdleHolds) := (s.setTail_power _).trans (t.count_power _)
  exact ht.step.trans (State.raiseOther_list _ (by decide)).derive

theorem State.pressTiming_step (s : State) : PowerStep s s.pressTiming := by
  unfold State.pressTiming
  extract_lets t src
  have ht : PowerStep s t := .ite fun _ => (s.removeOther_list (by decide)).derive
  split
  · exact ht
  · exact ht.trans (t.setTail_power _).step

theorem State.takePressCall_step (s : State) : PowerStep s s.takePressCall := by
  unfold State.takePressCall
  extract_lets t src
  have ht : PowerStep s t := (s.count_power _).step.trans (State.pressTiming_step _)
  split
  · exact ht.trans (t.sendCall_power _).step
  · exact ht.trans (t.setTail_power _).step

/-! ### The credits (R69 to R80) -/

/-- An update of the Credit Unit that leaves the setpoint in force covered. -/
theorem State.setCru_step (s : State) (x : Cru) (hneed : x.need = s.cru.need)
    (hcover : s.CreditsCover → s.onLine = true → s.ivi.inForce ≤ (x.base + x.loans) * (s.img.creditKw * 10)) :
    PowerStep s { s with cru := x } where
  safe := id
  covered := fun hs hon => ⟨hcover hs hon, by
    obtain ⟨-, hneeds⟩ := hs hon
    show _ ≤ x.need.getD 0 * _
    rw [hneed]
    exact hneeds⟩
  onLine := id
  falls := fun _ => .refl _

theorem State.setIvi_step (s : State) (x : Ivi) (h : s.ivi.FallsTo x) : PowerStep s { s with ivi := x } :=
  PowerChange.step ⟨⟨rfl, rfl, rfl, rfl, rfl, Nat.le_refl _, h⟩, id, id, fun _ _ _ hstate hready => ⟨hstate, hready⟩⟩

theorem State.reevaluate_power (s : State) : SamePower s s.reevaluate := by
  have hoffer (t : State) (p : Port) (x : Payload) : SamePower t (t.offerCanvass p x).state := by
    unfold State.offerCanvass
    split
    · exact t.offer_power _ _
    · exact .refl t
  have hopen : SamePower s s.openCanvass := by
    unfold State.openCanvass
    split
    · extract_lets n want src t x a b src2 src3 u
      have ht : SamePower s t := ⟨rfl, Nat.le_refl _⟩
      have hb : SamePower s b.state := (ht.trans (hoffer t _ _)).trans (hoffer _ _ _)
      have hu : SamePower b.state u := ⟨rfl, Nat.le_refl _⟩
      exact .ite (fun _ => (hb.trans hu).trans (u.count_power _)) (fun _ => hb.trans (State.count_power _ _))
    · exact s.count_power _
  exact .ite (fun _ => hopen) (fun _ => .refl s)

/-- R71, R72: a reply lends nothing, or the credits left still cover the last demand. -/
theorem State.answerOf_covers (s : State) (want : Half) {n : Nat} (h : s.cru.loans ≤ n) :
    (s.answerOf want).2 = 0 ∨ s.cru.needed ≤ s.cru.base + (n - (s.answerOf want).2) := by
  unfold State.answerOf
  split
  · exact .inl rfl
  split
  · right
    unfold Cru.surplus at *
    dsimp only
    omega
  · exact .inl rfl

theorem State.answerCanvass_step (s : State) (origin : Byte) (n want : Half) : PowerStep s (s.answerCanvass origin n want) := by
  unfold State.answerCanvass
  split
  · exact (s.count_power _).step
  · extract_lets ans t r src src2 u
    have hr : SamePower s r.state := (s.count_power _).trans (t.offer_power _ _)
    split
    · have hu : PowerStep r.state u := State.setCru_step _ _ rfl fun hcover hon => by
        obtain ⟨hheld, hneeds⟩ := hcover hon
        rcases s.answerOf_covers want hr.loans with hnone | hkept
        · show _ ≤ (r.state.cru.base + (r.state.cru.loans - (s.answerOf want).2)) * _
          rw [hnone]
          exact hheld
        · refine hneeds.trans (Nat.mul_le_mul_right _ ?_)
          rw [hr.need, hr.base]
          exact hkept
      exact (hr.step.trans hu).trans (u.countBy_power _ _).step
    · exact (hr.trans (State.count_power _ _)).step

theorem State.closeCanvass_power (s : State) (c : Canvass) (why : Counter) : SamePower s (s.closeCanvass c why) := by
  unfold State.closeCanvass
  extract_lets src t
  have hjudge (y : State) (b : Bool) : SamePower y (y.judgeClose b) :=
    .ite (fun _ => .ite (fun _ => ⟨rfl, Nat.le_refl _⟩) (fun _ => ⟨rfl, Nat.le_refl _⟩)) (fun _ => .refl y)
  have ht : SamePower s t := ⟨rfl, Nat.le_refl _⟩
  exact (ht.trans (t.count_power _)).trans (hjudge _ _)

/-- R58, R74: whatever credits are left, the withdrawal leaves a setpoint that they cover. -/
theorem State.keepWithinCredits_step {s t : State} (n : Nat) (x : Option Canvass)
    (ht : t = { s with cru := { s.cru with loans := n, tracker := x }, counters := t.counters }) :
    PowerStep s t.keepWithinCredits := by
  have hcovers := t.keepWithinCredits_covers
  have hfalls : s.ivi.FallsTo t.keepWithinCredits.ivi := by
    have hivi : t.ivi = s.ivi := by rw [ht]
    rw [State.keepWithinCredits_ivi, hivi]
    split
    · exact .refl _
    · exact .cut _
  have hlowered : PowerStep { s with ivi := t.keepWithinCredits.ivi }
      { s with ivi := t.keepWithinCredits.ivi, cru := { s.cru with loans := n, tracker := x } } :=
    State.setCru_step _ _ rfl fun _ _ => by
      rw [ht] at hcovers ⊢
      exact hcovers
  rw [State.keepWithinCredits_eq]
  generalize t.keepWithinCredits.ivi = y at *
  rw [ht]
  exact ((s.setIvi_step y hfalls).trans hlowered).trans (SamePower.step ⟨rfl, Nat.le_refl _⟩)

theorem State.takeLend_step (s : State) (lender : Byte) (c : Canvass) (amount : Nat) : PowerStep s (s.takeLend lender c amount) := by
  unfold State.takeLend
  extract_lets total src t u excess r src2 src3 v
  have hu : SamePower s u := ⟨rfl, Nat.le_add_right _ _⟩
  split
  · have hr : SamePower s r.state := hu.trans (u.offer_power _ _)
    split
    · exact hr.step.trans (State.keepWithinCredits_step (r.state.cru.loans - excess) (some { c with total := c.want }) rfl)
    · exact (hr.trans ((State.count_power _ _).trans (State.countBy_power _ _ _))).step
  · exact hu.step

theorem State.matchReply_step (s : State) (lender : Byte) (c : Canvass) (k : ReplyKind) (amount : Nat) :
    PowerStep s (s.matchReply lender c k amount) := by
  unfold State.matchReply
  extract_lets c' src t
  split
  · exact SamePower.step ⟨rfl, Nat.le_refl _⟩
  · exact SamePower.step ⟨rfl, Nat.le_refl _⟩
  · exact s.takeLend_step _ _ _

theorem State.closeIfAnswered_power (s : State) : SamePower s s.closeIfAnswered := by
  unfold State.closeIfAnswered
  split
  · exact .ite (fun _ => s.closeCanvass_power _ _) (fun _ => .refl s)
  · exact .refl s

theorem State.lateLend_power (s : State) (lender : Byte) (n : Half) (amount : Nat) : SamePower s (s.lateLend lender n amount) := by
  unfold State.lateLend
  extract_lets k src t r src2 src3 v u
  have ht : SamePower s t := ⟨rfl, Nat.le_add_right _ _⟩
  have hu : SamePower s u := by
    dsimp only [u]
    split
    · have hr : SamePower s r.state := ht.trans (t.offer_power _ _)
      split
      · exact hr.trans ((State.count_power _ _).trans (State.countBy_power _ _ _))
      · have hv : SamePower r.state v := ⟨rfl, Nat.le_add_right _ _⟩
        exact (hr.trans hv).trans ((v.count_power _).trans (State.countBy_power _ _ _))
    · exact ht
  exact ((hu.trans (u.count_power _)).trans (State.countBy_power _ _ _)).trans (State.countBy_power _ _ _)

theorem State.takeReply_step (s : State) (lender : Byte) (n : Half) (k : ReplyKind) (amount : Nat) :
    PowerStep s (s.takeReply lender n k amount) := by
  have hlate : SamePower s (s.lateReply lender n k amount) := by
    unfold State.lateReply
    split
    · exact s.lateLend_power _ _ _
    · exact s.count_power _
    · exact s.count_power _
  unfold State.takeReply
  split
  · split
    · exact (s.matchReply_step _ _ _ _).trans (State.closeIfAnswered_power _).step
    · exact hlate.step
  · exact hlate.step

theorem State.takeReturn_power (s : State) (amount : Nat) : SamePower s (s.takeReturn amount) := ⟨rfl, Nat.le_add_right _ _⟩

/-! ### Off line, and going on line (R170, R172) -/

/-- A station off line drives nothing, and stays safe with the inverter's items. -/
theorem PowerStep.of_offLine {s t : State} (hs : s.onLine = false) (ht : t.onLine = false) (hivi : t.ivi = s.ivi) :
    PowerStep s t := by
  have hoff {p : Prop} (h : t.onLine = true) : p := absurd (ht.symm.trans h) (by decide)
  refine ⟨fun ⟨_, _, ⟨hhigh, hlow⟩, _⟩ => ⟨hoff, hoff, ⟨fun hen => ?_, ?_⟩, hoff⟩, fun _ => hoff,
    fun hon => absurd (hs.symm.trans hon) (by decide), fun hon => absurd (hs.symm.trans hon) (by decide)⟩
  · obtain ⟨hstate, -⟩ := hhigh (hivi ▸ hen)
    unfold State.onLine at hs
    rcases hstate with h | h <;> rw [h] at hs <;> cases hs
  · rw [hivi]
    exact hlow

/-- R57, R59: a station that has gone on line and drives nothing yet. -/
structure State.Started (s : State) : Prop where
  safe : s.PowerSafe
  zero : s.ivi.inForce = 0

theorem State.Started.covered {s : State} (h : s.Started) : s.CreditsCover := fun _ => by
  rw [h.zero]
  exact ⟨Nat.zero_le _, Nat.zero_le _⟩

theorem State.Started.of_power {s t : State} (h : s.Started) (k : SamePower s t) : t.Started :=
  ⟨k.step.safe h.safe, by rw [k.ivi]; exact h.zero⟩

theorem State.Started.step {s t : State} (h : t.Started) (hs : s.onLine = false) : PowerStep s t :=
  ⟨fun _ => h.safe, fun _ => h.covered, fun hon => absurd (hs.symm.trans hon) (by decide),
    fun hon => absurd (hs.symm.trans hon) (by decide)⟩

/-- R58: P_next lies within the rating, the credits held, and the credits the last demand needs. -/
structure State.NextWithin (s : State) : Prop where
  rating : s.pdu.pNext ≤ s.img.pMax.get s.pos
  held : s.pdu.pNext ≤ (s.cru.base + s.cru.loans) * (s.img.creditKw * 10)
  need : s.pdu.pNext ≤ s.cru.need.getD 0 * (s.img.creditKw * 10)

theorem State.latchSetpoint_inForce_le (s : State) : s.latchSetpoint.ivi.inForce ≤ s.pdu.pNext := by
  show (if s.mayDrive then s.pdu.pNext else 0) ≤ _
  split
  · exact Nat.le_refl _
  · exact Nat.zero_le _

theorem State.latchSetpoint_covered {s : State} (h : s.NextWithin) : s.latchSetpoint.CreditsCover := fun _ =>
  ⟨s.latchSetpoint_inForce_le.trans h.held, s.latchSetpoint_inForce_le.trans h.need⟩

/-- R57 to R59: a boundary that latches a P_next within its bounds leaves power safe. -/
theorem State.latchSetpoint_safe {s : State} (h : s.NextWithin) (hmode : s.ModeOk) (hheld : s.FaultHeld) :
    s.latchSetpoint.PowerSafe := by
  refine ⟨hmode, hheld, ⟨fun hen => ?_, fun hen => ?_⟩, fun _ => s.latchSetpoint_inForce_le.trans h.rating⟩
  · have hdrive : s.mayDrive = true := hen
    obtain ⟨hstate, hready⟩ := Bool.and_eq_true_iff.mp hdrive
    rw [Bool.or_eq_true, beq_iff_eq, beq_iff_eq] at hstate
    exact ⟨hstate, hready, if_pos hdrive⟩
  · exact if_neg (Bool.eq_false_iff.mp hen)

/-- R57, R129: the line is opened with no setpoint, and a FAULT that stands has its cause. -/
theorem State.openLine_started {s : State} (hnext : s.pdu.pNext = 0) (hheld : s.pins.fault = true → s.hlu.hasOwn .inverterFault = true) :
    s.openLine.Started := by
  have hwithin : (s.enterMode (modeOf s.hlu.entries)).NextWithin :=
    ⟨hnext.trans_le (Nat.zero_le _), hnext.trans_le (Nat.zero_le _), hnext.trans_le (Nat.zero_le _)⟩
  have hsafe := State.latchSetpoint_safe hwithin (fun _ => rfl) (fun _ => hheld)
  have hlatched : (s.enterMode (modeOf s.hlu.entries)).latchSetpoint.Started :=
    ⟨hsafe, Nat.le_zero.mp ((State.latchSetpoint_inForce_le _).trans_eq hnext)⟩
  exact hlatched.of_power (State.preview_power _)

theorem State.raiseTrips_hold (s : State) : HoldFrame s s.raiseTrips := by
  have hraise (t : State) (b : Bool) (c : Cause) (k : Counter) : HoldFrame t (if b then (t.raiseOwn c).count k else t) := by
    split
    · exact (t.raiseOwn_hold c).trans (State.count_link _ k).toHoldFrame
    · exact .refl t
  exact (hraise s _ _ _).trans (hraise _ _ _ _)

/-- R63: a FAULT that stands has its cause once the trips are raised. -/
theorem State.raiseTrips_held (s : State) (h : s.raiseTrips.pins.fault = true) : s.raiseTrips.hlu.hasOwn .inverterFault = true := by
  rw [s.raiseTrips_hold.pins] at h
  unfold State.raiseTrips
  extract_lets t
  have hpins : t.pins = s.pins := by
    dsimp only [t]
    split
    · exact (s.raiseOwn_hold _).pins
    · rfl
  rw [hpins, if_pos h]
  exact t.raiseOwn_hasOwn .inverterFault

/-- R57, R63: the trips are raised and the line is opened. -/
theorem State.raiseTrips_openLine_started {s : State} (h : s.pdu.pNext = 0) : s.raiseTrips.openLine.Started :=
  State.openLine_started (by rw [s.raiseTrips_hold.pdu]; exact h) s.raiseTrips_held

theorem State.settlePort_pdu (s : State) (p : Port) : (s.settlePort p).pdu = s.pdu := by
  unfold State.settlePort
  split
  · split
    · exact s.setPort_pdu p _
    · exact (s.raiseOwn_hold _).pdu
  · rfl

theorem State.settleOtherPort_pdu (s : State) (p : Port) : (s.settleOtherPort p).pdu = s.pdu := by
  unfold State.settleOtherPort
  split
  · exact (State.raiseOwn_hold _ _).pdu.trans (s.setPort_pdu p _)
  · rfl

theorem State.discover_started (s : State) (p : Fin 16) (n : Nat) : (s.discover p n).Started := by
  unfold State.discover
  extract_lets t u
  have hpdu : u.pdu = Pdu.reset := by
    show t.pdu = _
    dsimp only [t]
    unfold State.discoveredTail State.headTakesPool
    split <;> split <;> rfl
  refine (State.raiseTrips_openLine_started ?_).of_power (State.count_power _ _)
  rw [State.settlePort_pdu, State.settlePort_pdu, hpdu]
  rfl

theorem State.nextFree_power (s : State) : SamePower s s.nextFree := ⟨rfl, Nat.le_refl _⟩

theorem State.sendHello_power (s : State) (p : Port) : SamePower s (s.sendHello p) :=
  (s.offerCountTaken_power _ _ _).trans (State.nextFree_power _)

theorem State.setCheck_power (s : State) (p : Port) (c : Check) (x : Option Time) : SamePower s (s.setCheck p c x) :=
  s.setPort_power p _

theorem State.startCheck_power (s : State) (p : Port) : SamePower s (s.startCheck p) :=
  (s.sendHello_power p).trans (State.setCheck_power _ _ _ _)

theorem State.rejoin_started (s : State) (p : Port) (q : Fin 16) (h : Hello) : (s.rejoin p q h).Started := by
  unfold State.rejoin
  obtain ⟨next, tail, heq, -⟩ := (s.createUnits q h.n.toNat).rejoinEnds_eq h
  rw [heq]
  extract_lets src t u v w
  have hw : w.Started := by
    refine State.raiseTrips_openLine_started ?_
    rw [State.settleOtherPort_pdu]
    exact congrArg Pdu.pNext (v.setPort_pdu p _)
  refine hw.of_power (SamePower.trans ?_ ((State.count_power _ _).trans (State.nextFree_power _)))
  exact .ite (fun _ => w.startCheck_power _) (fun _ => .refl w)

/-! ### Line discovery (R165 to R173) -/

/-- A station in DISCOVER that changes its other items of line discovery. -/
theorem State.setLdu_step (s : State) (x : Ldu) (hs : s.onLine = false) (hx : x.state.online = false) :
    PowerStep s { s with ldu := x } := .of_offLine hs hx rfl

theorem State.discoverOrBudget_step (s : State) (n : Nat) (hs : s.onLine = false) : PowerStep s (s.discoverOrBudget n) := by
  unfold State.discoverOrBudget
  extract_lets src t
  split
  · exact .of_offLine hs rfl rfl
  · exact (t.discover_started _ _).step hs

theorem State.headPos_step (s : State) (hs : s.onLine = false) : PowerStep s s.headPos :=
  have hoffer := s.offerCountTaken_power .down
    (s.frame dstAll (.pos 0 (BitVec.ofNat 16 s.img.recipeId) (BitVec.ofNat 8 s.img.version) true)) .posSent
  .of_offLine hs (hoffer.onLine.trans hs) hoffer.ivi

theorem State.headDecision_step (s : State) (hs : s.onLine = false) : PowerStep s s.headDecision := by
  unfold State.headDecision State.becomeHead
  refine .ite fun _ => ?_
  extract_lets src t
  have ht : PowerStep s t := s.setLdu_step _ hs hs
  split
  · exact ht.trans (t.headPos_step hs)
  · exact ht.trans (t.discoverOrBudget_step _ hs)

theorem State.acceptCount_step (s : State) (n : Nat) (b : Bool) (hs : s.onLine = false) : PowerStep s (s.acceptCount n b) := by
  unfold State.acceptCount
  split
  · exact s.discoverOrBudget_step n hs
  · exact .of_offLine hs rfl rfl

theorem State.takeCount_step (s : State) (n : Nat) (b : Bool) : PowerStep s (s.takeCount n b) := by
  unfold State.takeCount
  split
  · rename_i h
    exact s.acceptCount_step n b (State.onLine_of_discover h.1)
  · exact (s.count_power _).step

theorem State.takePlace_step (s : State) (q : Fin 16) (recipe : Half) (version : Byte) (b : Bool) (hs : s.onLine = false) :
    PowerStep s (s.takePlace q recipe version b) := by
  unfold State.takePlace
  extract_lets src t n src2 u
  have ht : PowerStep s t := s.setLdu_step _ hs hs
  split
  · exact ht.trans (t.offerCountTaken_power _ _ _).step
  · have hu : PowerStep t u := t.setLdu_step _ hs hs
    have hc : SamePower u (u.offerCount n b) := u.offer_power _ _
    exact (ht.trans (hu.trans hc.step)).trans (State.acceptCount_step _ _ _ (hc.onLine.trans hs))

theorem State.takePos_step (s : State) (q : Byte) (recipe : Half) (version : Byte) (b : Bool) :
    PowerStep s (s.takePos q recipe version b) := by
  unfold State.takePos State.discoverPos
  split
  · rename_i hd
    have hs := State.onLine_of_discover hd
    split
    · exact s.takePlace_step _ _ _ _ hs
    · exact .of_offLine hs rfl rfl
  split
  · split
    · exact ((s.offer_power _ _).trans (State.count_power _ _)).step
    · exact (s.count_power _).step
  · split
    · exact (s.offer_power _ _).step
    · exact (s.count_power _).step

theorem State.passCheck_step (s : State) (p : Port) (h : Hello) : PowerStep s (s.passCheck p h) := by
  unfold State.passCheck
  extract_lets t
  have ht : SamePower s t := (s.setCheck_power _ _ _).trans (State.count_power _ _)
  exact (ht.trans (t.catchUps_power _)).step.trans (State.removeOther_list _ (by cases p <;> decide)).derive

theorem State.takeHello_step (s : State) (p : Port) (h : Hello) : PowerStep s (s.takeHello p h) := by
  unfold State.takeHello
  split
  · exact (((s.offer_power _ _).trans (State.count_power _ _)).trans (State.nextFree_power _)).step
  split
  · unfold State.hearAnswerOnLine
    split
    · split
      · exact s.passCheck_step p h
      · exact ((s.setCheck_power _ _ _).trans (State.count_power _ _)).step
    · exact (s.count_power _).step
  split
  · rename_i hd
    have hs := State.onLine_of_discover hd
    unfold State.hearAnswerDiscover
    split
    · extract_lets src t
      split
      · split
        · exact .of_offLine hs rfl rfl
        · exact (t.rejoin_started _ _ _).step hs
      · have ht : PowerStep s t := s.setLdu_step _ hs hs
        exact ht.trans (t.count_power _).step
    · exact (s.count_power _).step
  · exact (s.count_power _).step

theorem State.sendHellos_power (s : State) : SamePower s s.sendHellos := by
  unfold State.sendHellos
  extract_lets t
  have ht : SamePower s t := .ite (fun _ => s.sendHello_power _) (fun _ => .refl s)
  exact ht.trans (.ite (fun _ => t.sendHello_power _) (fun _ => .refl t))

theorem State.repeatHellos_power (s : State) : SamePower s s.repeatHellos := s.sendHellos_power.trans ⟨rfl, Nat.le_refl _⟩

theorem State.repeatCheck_power (s : State) (p : Port) : SamePower s (s.repeatCheck p) :=
  .ite (fun _ => s.startCheck_power p) (fun _ => s.setCheck_power _ _ _)

theorem State.settled_step (s : State) (hs : s.onLine = false) : PowerStep s s.settled := by
  unfold State.settled
  extract_lets src t
  have ht : PowerStep s t := s.setLdu_step _ hs hs
  exact ht.trans (t.headDecision_step hs)

/-! ### The link ports (R145 to R160) -/

theorem State.linkComesUp_power (s : State) (p : Port) : SamePower s (s.linkComesUp p) := by
  refine (s.setPort_power p _).trans (.ite (fun _ => ?_) (fun _ => .refl _))
  split
  · exact State.startCheck_power _ p
  · exact State.setCheck_power _ _ _ _
  · exact .refl _

theorem State.unitsLinkDown_step (s : State) (p : Port) : PowerStep s (s.unitsLinkDown p) := by
  unfold State.unitsLinkDown
  extract_lets t
  have ht : PowerStep s t := (s.setCheck_power _ _ _).step
  split
  · exact ht.trans (.ite fun _ => (t.raiseOther_list (by cases p <;> decide)).derive)
  · rename_i hoff
    exact ht.trans (.ite fun _ => t.headDecision_step (by simpa using hoff))

theorem State.carry_power (s : State) (p : Port) (f : Frame) (copied : Bool) : SamePower s (s.carry p f copied) := by
  rw [State.carry_eq]
  exact (s.setPort_power _ _).trans ⟨rfl, Nat.le_refl _⟩

theorem State.endReceive_power (s : State) (p : Port) : SamePower s (s.endReceive p) := s.setPort_power p _

theorem State.unitTakes_step (s : State) (p : Port) (f : Frame) : PowerStep s (s.unitTakes p f) := by
  unfold State.unitTakes
  split
  · exact s.hearHold_step _ _
  · exact s.hearClear_step _ _
  · exact (s.takeStroke_power _ _ _).step
  · exact .ite fun _ => (s.takeCall_power _ _).step
  · exact s.takePos_step _ _ _ _
  · exact s.takeCount_step _ _
  · exact s.takeHello_step _ _
  · exact s.answerCanvass_step _ _ _
  · exact s.takeReply_step _ _ _ _
  · exact (s.takeReturn_power _).step
  · exact (s.hearTrim_power _ _).step

theorem State.route_step (s : State) (p : Port) (f : Frame) : PowerStep s (s.route p f) := by
  unfold State.route
  split
  · exact (((s.portCount_power p _).trans (State.offerTrace_power _ _)).trans (State.endReceive_power _ p)).step.trans
      (State.unitTakes_step _ p f)
  · exact ((s.portCount_power p _).step.trans (State.unitTakes_step _ p f)).trans
      ((State.carry_power _ _ _ _).trans (State.endReceive_power _ _)).step
  · exact ((s.carry_power _ _ _).trans (State.endReceive_power _ _)).step
  · exact (((s.portCount_power _ _).trans (State.offerTrace_power _ _)).trans (State.endReceive_power _ _)).step

theorem State.dropReceived_power (s : State) (p : Port) (c : PortCounter) (k : ErrorKind) (v : FrameView) :
    SamePower s (s.dropReceived p c k v) :=
  ((s.portCount_power p c).trans (State.offerTrace_power _ _)).trans (State.endReceive_power _ _)

theorem State.receiveFrame_step (s : State) (p : Port) (f : Frame) : PowerStep s (s.receiveFrame p f) := by
  unfold State.receiveFrame
  split
  · exact (s.portCount_power _ _).step.trans (State.route_step _ _ _)
  · exact (s.dropReceived_power _ _ _ _).step

theorem State.linkGoesDown_step (s : State) (p : Port) (c : PortCounter) : PowerStep s (s.linkGoesDown p c) := by
  have hdiscard (fs : List (Frame × Bool)) (t : State) : SamePower t (t.discardAll p fs) := by
    induction fs generalizing t with
    | nil => exact .refl t
    | cons f rest ih =>
      refine SamePower.trans ?_ (ih (t.discard p f))
      exact ((t.portCount_power _ _).trans (State.offerTrace_power _ _)).trans
        (.ite (fun _ => State.countBy_power _ _ _) (fun _ => .refl _))
  have hassembly (t : State) : SamePower t (t.dropAssembly p) := by
    unfold State.dropAssembly
    split
    · exact t.endReceive_power p
    · exact .refl t
  exact ((((s.portCount_power p c).trans (hdiscard _ _)).trans (hassembly _)).trans (State.setPort_power _ p _)).step.trans
    (State.unitsLinkDown_step _ p)

theorem State.setReceiver_power (s : State) (p : Port) (r : Receiver) : SamePower s (s.setReceiver p r) := s.setPort_power _ _

theorem State.dropOpen_power (s : State) (p : Port) (got : List Byte) (c : PortCounter) (k : ErrorKind) :
    SamePower s (s.dropOpen p got c k) := (s.setReceiver_power _ _).trans (State.dropReceived_power _ _ _ _ _)

theorem State.completeFrame_step (s : State) (p : Port) (got : List Byte) : PowerStep s (s.completeFrame p got) := by
  unfold State.completeFrame
  extract_lets t body
  have ht : SamePower s t := s.setReceiver_power _ _
  have hdrop (c : PortCounter) (k : ErrorKind) : PowerStep s (t.dropReceived p c k (viewOfBytes got)) :=
    (ht.trans (t.dropReceived_power _ _ _ _)).step
  split
  · split
    · exact hdrop _ _
    · split
      · split
        · exact ht.step.trans (t.receiveFrame_step _ _)
        · exact hdrop _ _
      · exact hdrop _ _
  · exact hdrop _ _

theorem State.receiverTakes_step (s : State) (p : Port) (c : CharSort) : PowerStep s (s.receiverTakes p c) := by
  unfold State.receiverTakes
  split
  · exact (s.dropOpen_power _ _ _ _).step
  · exact .refl s
  · exact ((s.dropOpen_power _ _ _ _).trans (State.setReceiver_power _ _ _)).step
  · exact (s.setReceiver_power _ _).step
  · unfold State.collect
    extract_lets got'
    split
    · split
      · exact (s.dropOpen_power _ _ _ _).step
      split
      · exact s.completeFrame_step _ _
      · exact (s.setReceiver_power _ _).step
    · exact (s.setReceiver_power _ _).step
  · exact (s.portCount_power _ _).step
  · exact (s.dropOpen_power _ _ _ _).step
  · exact .refl s

theorem State.errorChar_step (s : State) (p : Port) : PowerStep s (s.errorChar p) := by
  unfold State.errorChar
  extract_lets t u n src v
  have ht : SamePower s t := s.portCount_power _ _
  split
  · have hv : PowerStep s v := (ht.step.trans (t.receiverTakes_step _ _)).trans (u.setPort_power _ _).step
    split
    · exact hv.trans (v.linkGoesDown_step _ _)
    · exact hv
  · exact (ht.trans (t.setPort_power _ _)).step

theorem State.validChar_step (s : State) (p : Port) (c : CharSort) : PowerStep s (s.validChar p c) := by
  unfold State.validChar
  split
  · exact (s.setPort_power p _).step.trans (State.receiverTakes_step _ _ _)
  · unfold State.validWhileDown
    extract_lets t n
    have ht : SamePower s t := by
      dsimp only [t]
      unfold State.noteStray
      split
      · exact s.portCount_power _ _
      all_goals exact .refl s
    exact (ht.trans (.ite (fun _ => .refl t)
      (fun _ => .ite (fun _ => t.linkComesUp_power p) (fun _ => t.setPort_power _ _)))).step

theorem State.receiveChar_step (s : State) (p : Port) (c : RawChar) : PowerStep s (s.receiveChar p c) := by
  unfold State.receiveChar
  split
  · exact s.errorChar_step p
  · exact s.validChar_step _ _
  · exact s.validChar_step _ _
  · exact s.validChar_step _ _

theorem State.frameArrives_step (s : State) (a : Arrival) (x : Payload) : PowerStep s (s.frameArrives a x) :=
  .ite fun _ => ((s.setPort_power _ _).trans (State.setReceiver_power _ _ _)).step.trans (State.receiveFrame_step _ _ _)

theorem State.becomeFree_power (s : State) (p : Port) : SamePower s (s.becomeFree p) := by
  have hsent : SamePower s (s.frameSent p) := by
    unfold State.frameSent
    split
    · exact s.setPort_power _ _
    · exact .refl s
    · exact .refl s
  have hegress (t : State) : SamePower t (t.egress p) := by
    unfold State.egress
    split
    · exact t.setPort_power _ _
    · exact t.setPort_power _ _
    · exact t.setPort_power _ _
    · exact .ite (fun _ => .ite (fun _ => t.setPort_power _ _)
        (fun _ => (t.setPort_power _ _).trans (State.portCount_power _ _ _))) (fun _ => t.setPort_power _ _)
  exact .ite (fun _ => hsent.trans (hegress _)) (fun _ => .refl s)

/-! ### The service port (R182 to R187) -/

theorem State.setSvcReceiver_power (s : State) (x : SvcReceiver) : SamePower s (s.setSvcReceiver x) := ⟨rfl, Nat.le_refl _⟩

/-- A command of the service port keeps power safe in the states that take it. -/
def Service.KeepsPower (c : Service) : Prop :=
  ∀ (s : State) (payload : List Byte), c.takenIn s = true → PowerStep s (c.run s payload).state

theorem readService_power (data : State → List Byte) : (readService data).KeepsPower := fun s _ _ => .refl s

/-- R184: an image is loaded off line only. -/
theorem loadImageService_power : loadImageService.KeepsPower := by
  intro s payload htaken
  have hs : s.onLine = false := by
    simp only [loadImageService, Bool.or_eq_true, beq_iff_eq] at htaken
    unfold State.onLine
    rcases htaken with h | h <;> rw [h] <;> rfl
  unfold loadImageService
  dsimp only
  split
  · exact .of_offLine hs rfl rfl
  · exact .of_offLine hs rfl rfl

theorem startService_power : startService.KeepsPower := by
  intro s payload htaken
  simp only [startService, Bool.and_eq_true, beq_iff_eq] at htaken
  have hs : s.onLine = false := by unfold State.onLine; rw [htaken.1]; rfl
  exact (s.setLdu_step _ hs rfl).trans (State.sendHellos_power _).step

/-- R183, R190: every command byte names a command that keeps power safe. -/
theorem serviceOf_power {code : Byte} {c : Service} (h : serviceOf code = some c) : c.KeepsPower := by
  have hquiet {s t : State} (hview : t.powerView = s.powerView) (hcru : t.cru = s.cru) : PowerStep s t :=
    SamePower.step ⟨hview, by rw [hcru]⟩
  unfold serviceOf at h
  split at h <;> cases h
  · exact readService_power _
  · exact loadImageService_power
  · exact startService_power
  · exact readService_power _
  · exact readService_power _
  · intro s payload _
    unfold readExitLogService
    dsimp only
    split <;> exact .refl s
  · intro s payload _
    unfold readCountersService
    dsimp only
    split <;> exact .refl s
  · exact fun _ _ _ => hquiet rfl rfl
  · exact fun _ _ _ => hquiet rfl rfl
  · intro s payload _
    unfold traceSetupService
    dsimp only
    split
    · exact hquiet rfl rfl
    · exact .refl s
  · exact fun _ _ _ => hquiet rfl rfl
  · exact fun _ _ _ => hquiet rfl rfl
  · intro s payload _
    unfold readTraceService
    dsimp only
    split <;> exact .refl s

theorem State.takeRequest_step (s : State) (code : Byte) {svc : Option Service} (h : ∀ c, svc = some c → c.KeepsPower)
    (r : Request) : PowerStep s (s.takeRequest code svc r) := by
  have hrespond (a : Answer) : SamePower a.state (State.respond a) :=
    SamePower.trans (.ite (fun _ => .refl _) (fun _ => State.count_power _ _)) (State.setSvcReceiver_power _ _)
  have hanswer (t : State) : PowerStep t (t.answerRequest code svc r).state := by
    unfold State.answerRequest
    split
    · exact .refl t
    split
    · exact .refl t
    · split
      · exact .refl t
      split
      · exact .refl t
      · rename_i htaken
        exact h _ rfl t r.payload (by simpa using htaken)
  exact ((s.count_power _).step.trans (hanswer _)).trans (hrespond _).step

theorem State.abandonRequest_power (s : State) : SamePower s s.abandonRequest :=
  (s.count_power _).trans (State.setSvcReceiver_power _ _)

theorem State.requestArrives_step (s : State) (code : Byte) {svc : Option Service} (h : ∀ c, svc = some c → c.KeepsPower)
    (r : Request) : PowerStep s (s.requestArrives code svc r) := by
  have htake : PowerStep s (if 1024 < r.payload.length then s.abandonRequest else s.takeRequest code svc r) := by
    split
    · exact s.abandonRequest_power.step
    · exact s.takeRequest_step code h r
  unfold State.requestArrives
  split
  · exact (s.countBy_power _ _).step
  · exact htake
  · exact htake

theorem State.serviceByte_step (s : State) (b : Byte) : PowerStep s (s.serviceByte b) := by
  have hhunt (t : State) : SamePower t (t.huntByte b) := .ite (fun _ => t.setSvcReceiver_power _) (fun _ => t.count_power _)
  unfold State.serviceByte State.collectByte
  split
  · exact (hhunt s).step
  · split
    · exact (s.abandonRequest_power.trans (hhunt _)).step
    split
    · exact (s.setSvcReceiver_power _).step
    split
    · exact s.abandonRequest_power.step
    split
    · exact (s.setSvcReceiver_power _).step
    · exact s.takeRequest_step _ (fun _ => serviceOf_power) _
  · exact (s.count_power _).step

theorem State.gapExpires_power (s : State) : SamePower s s.gapExpires := by
  unfold State.gapExpires
  split
  · exact .ite (fun _ => s.abandonRequest_power) (fun _ => .refl s)
  · exact .refl s
  · exact .refl s

theorem State.responseSent_power (s : State) : SamePower s s.responseSent := by
  unfold State.responseSent
  split
  · exact s.setSvcReceiver_power _
  · exact .refl s
  · exact .refl s

end Sys2Proof.Machine
end

section
/-!
PROOFS. The period end sets power within its bounds (R52 to R58), and from all events: the step keeps power safe (O10), and between
boundaries power only falls (O4).
-/

namespace Sys2Proof.Machine

/-! ### The period end (R24, R47 to R58) -/

theorem State.account_power (s : State) : SamePower s s.account := by
  rw [State.account_eq]
  exact ⟨rfl, Nat.le_refl _⟩

theorem State.computeDemand_eq (s : State) : s.computeDemand =
    { s with pdu := s.demandItems, cru := { s.cru with need := some (s.img.creditsFor s.demandItems.pDem) }
             counters := (s.countDemand s.demandItems).counters } := by
  unfold State.computeDemand
  dsimp only
  rw [State.countDemand_eq]

theorem State.countNotReady_power (s : State) : SamePower s s.countNotReady := s.countIf_power _ _

theorem State.reevaluate_pdu (s : State) : s.reevaluate.pdu = s.pdu := by
  unfold State.reevaluate
  split
  · rcases s.openCanvass_cases with h | ⟨cru, c, -, h⟩
    · rw [h, State.count_pdu]
    · rw [h, State.count_pdu]
      exact ((s.withNewCanvass.offerCanvass_link _ _).trans (State.offerCanvass_link _ _ _)).pdu
  · rfl

/-- R55: the ramp gives at most its target. -/
theorem rampTo_le (target prev ramp : Nat) : rampTo target prev ramp ≤ target := by
  unfold rampTo
  split
  · exact min_le_left _ _
  · exact Nat.le_refl _

/-- R52, R54, R55: P_next is at most P_dem, what the credits allow, and the rating. -/
theorem State.demandItems_bounds (s : State) : s.demandItems.pNext ≤ s.demandItems.pDem ∧
    s.demandItems.pNext ≤ s.available ∧ s.demandItems.pNext ≤ s.img.pMax.get s.pos :=
  have hramp : s.demandItems.pNext ≤ min s.demand s.available := rampTo_le _ _ _
  have hdemand := hramp.trans (min_le_left _ _)
  ⟨hdemand, hramp.trans (min_le_right _ _), hdemand.trans (min_le_right _ _)⟩

/-- R53: the credits a power needs cover it, where a credit stands for any power. -/
theorem Image.le_creditsFor (img : Image) (p : Nat) (h : 0 < img.creditKw * 10) :
    p ≤ img.creditsFor p * (img.creditKw * 10) := by
  unfold Image.creditsFor ceilDiv
  have hdiv := Nat.div_add_mod (p + img.creditKw * 10 - 1) (img.creditKw * 10)
  have hmod := Nat.mod_lt (p + img.creditKw * 10 - 1) h
  rw [Nat.mul_comm]
  omega

/-- R52 to R55, R58: the demand leaves a P_next within its bounds. -/
theorem State.computeDemand_nextWithin (s : State) : s.computeDemand.NextWithin := by
  obtain ⟨hdemand, havailable, hrating⟩ := s.demandItems_bounds
  rw [State.computeDemand_eq]
  refine ⟨hrating, havailable, ?_⟩
  show s.demandItems.pNext ≤ s.img.creditsFor s.demandItems.pDem * (s.img.creditKw * 10)
  rcases Nat.eq_zero_or_pos (s.img.creditKw * 10) with hzero | hpos
  · unfold State.available at havailable
    rw [hzero, Nat.mul_zero] at havailable ⊢
    exact havailable
  · exact hdemand.trans (s.img.le_creditsFor _ hpos)

theorem State.NextWithin.of_power {s t : State} (h : s.NextWithin) (k : SamePower s t) (hpdu : t.pdu = s.pdu) : t.NextWithin := by
  have hcredits := Nat.mul_le_mul_right (s.img.creditKw * 10) (Nat.add_le_add_left k.loans s.cru.base)
  constructor
  · rw [hpdu, k.samePlace.img, k.samePlace.pos]
    exact h.rating
  · rw [hpdu, k.samePlace.img, k.base]
    exact h.held.trans hcredits
  · rw [hpdu, k.samePlace.img, k.need]
    exact h.need

theorem State.tailAfterPeriod_power (s : State) : SamePower s s.tailAfterPeriod :=
  .ite (fun _ => s.preview_power.trans (State.callCheck_power _)) (fun _ => .refl s)

/-- R57, R58: a period end leaves power safe and covered. -/
theorem State.endPeriod_safe (s : State) : (s.PowerSafe → s.endPeriod.PowerSafe) ∧ s.endPeriod.CreditsCover := by
  have hsame : SamePower s.nextPeriod.account.computeDemand s.nextPeriod.account.computeDemand.reevaluate.countNotReady :=
    (State.reevaluate_power _).trans (State.countNotReady_power _)
  have hpdu : s.nextPeriod.account.computeDemand.reevaluate.countNotReady.pdu = s.nextPeriod.account.computeDemand.pdu := by
    rw [State.countNotReady_eq]
    exact State.reevaluate_pdu _
  have hwithin := s.nextPeriod.account.computeDemand_nextWithin.of_power hsame hpdu
  refine ⟨fun hs => (State.tailAfterPeriod_power _).step.safe ?_,
    (State.tailAfterPeriod_power _).step.covered (State.latchSetpoint_covered hwithin)⟩
  have hdemand : s.nextPeriod.account.computeDemand.PowerSafe := by
    rw [State.computeDemand_eq]
    exact s.nextPeriod.account_power.step.safe hs
  obtain ⟨hmode, hheld, -⟩ := hsame.step.safe hdemand
  exact State.latchSetpoint_safe hwithin hmode hheld

/-! ### The plant lines (R61 to R63) -/

/-- A level of a plant line that leaves READY up and no FAULT that has no cause. -/
theorem State.setPins_step (s : State) (x : Pins) (hready : s.pins.ready = true → x.ready = true)
    (hfault : x.fault = true → s.pins.fault = true) : PowerStep s { s with pins := x } :=
  PowerChange.step ⟨⟨rfl, rfl, rfl, rfl, rfl, Nat.le_refl _, .refl _⟩, id, fun hs hon hf => hs hon (hfault hf),
    fun _ _ _ hstate hup => ⟨hstate, hready hup⟩⟩

theorem State.observe_step (s : State) (e : Env) : PowerStep s (s.observe e) := SamePower.step ⟨rfl, Nat.le_refl _⟩

/-- R61, R63: READY low cuts power, or finds it cut by a FAULT. -/
theorem execReadyLow_step (e : Env) (s : State) : ∃ t, execReadyLow e s = .next t ∧ PowerStep s t := by
  refine ⟨_, rfl, (s.observe_step e).trans ?_⟩
  generalize s.observe e = u
  split
  · exact PowerChange.step ⟨⟨rfl, rfl, rfl, rfl, rfl, Nat.le_refl _, rfl, rfl, .inr ⟨rfl, rfl⟩⟩, id, id,
      fun _ _ hen => by cases hen⟩
  · rename_i h
    refine PowerChange.step ⟨⟨rfl, rfl, rfl, rfl, rfl, Nat.le_refl _, .refl _⟩, id, id, fun hmode hheld _ hstate _ => ?_⟩
    have hon : u.onLine = true := by unfold State.onLine; rcases hstate with hst | hst <;> rw [hst] <;> rfl
    have hfault : u.pins.fault = true := by
      by_contra hlow
      exact h (Bool.and_eq_true_iff.mpr ⟨hon, Bool.not_eq_true' _ ▸ Bool.eq_false_iff.mpr hlow⟩)
    have htripped := (hmode hon).trans ((modeOf_eq_tripped_iff _).mpr (.inr (hheld hon hfault)))
    rw [htripped] at hstate
    simp at hstate

/-- R62, R63: a trip edge on line, and off line a level alone. -/
theorem execEstopAsserted_step (e : Env) (s : State) : ∃ t, execEstopAsserted e s = .next t ∧ PowerStep s t := by
  refine ⟨_, rfl, (s.observe_step e).trans ?_⟩
  split
  · exact State.trip_step _ _ _ _ rfl (.inr rfl)
  · exact State.setPins_step _ _ id id

theorem execFaultHigh_step (e : Env) (s : State) : ∃ t, execFaultHigh e s = .next t ∧ PowerStep s t := by
  refine ⟨_, rfl, (s.observe_step e).trans ?_⟩
  split
  · exact State.trip_step _ _ _ _ rfl (.inl rfl)
  · rename_i hoff
    have hoff' : (s.observe e).onLine = false := Bool.eq_false_iff.mpr hoff
    exact .of_offLine hoff' hoff' rfl

/-- R64: a trip reset edge on line, and off line a level alone. -/
theorem execTripReset_step (e : Env) (s : State) : ∃ t, execTripReset e s = .next t ∧ PowerStep s t := by
  refine ⟨_, rfl, (s.observe_step e).trans ?_⟩
  have hlevel : PowerStep (s.observe e) ((s.observe e).setTripReset true) := State.setPins_step _ _ id id
  exact hlevel.trans (.ite fun _ => State.resetTrip_step _)

/-! ### Every event -/

/-- An event that acts under a condition alone, once its time has passed. -/
theorem PowerStep.observeIte {s : State} {e : Env} {t : State} {p : Prop} [Decidable p] (h : p → PowerStep (s.observe e) t) :
    PowerStep s (if p then t else s.observe e) := (s.observe_step e).trans (.ite h)

theorem execPushed_step (e : Env) (s : State) : ∃ t, execPushed e s = .next t ∧ PowerStep s t := by
  refine ⟨_, rfl, (s.observe_step e).trans ?_⟩
  split
  · exact (State.takePushed_power _).step
  · exact (State.count_power _ _).step

theorem execSampleDeadlineExpiry_step (e : Env) (s : State) :
    ∃ t, execSampleDeadlineExpiry e s = .next t ∧ PowerStep s t := by
  refine ⟨_, rfl, (s.observe_step e).trans ?_⟩
  split
  · exact (State.takeSample_power _ _).step
  · exact .refl _

theorem execCanvassDeadlineExpiry_step (e : Env) (s : State) :
    ∃ t, execCanvassDeadlineExpiry e s = .next t ∧ PowerStep s t := by
  refine ⟨_, rfl, (s.observe_step e).trans ?_⟩
  split
  · exact (State.closeCanvass_power _ _ _).step
  · exact .refl _

theorem execLinkUp_step (e : Env) (p : Port) (s : State) : ∃ t, execLinkUp e p s = .next t ∧ PowerStep s t := by
  refine ⟨_, rfl, (s.observe_step e).trans ?_⟩
  split
  · exact .refl _
  · exact (State.linkComesUp_power _ _).step

theorem State.onLine_of_state {s : State} {x : StationState} {b : Bool} (h : (s.ldu.state == x && b) = true)
    (hx : x.online = false) : s.onLine = false := by
  unfold State.onLine
  rw [beq_iff_eq.mp (Bool.and_eq_true_iff.mp h).1]
  exact hx

/-- Every command but a reset and the period end leaves power safe, and lets it only fall on line. -/
theorem exec_powerStep (c : Instr) (s : State) (hc : ∀ e, c ≠ .powerOn e ∧ c ≠ .resetPin e ∧ c ≠ .periodEnd e) :
    ∃ t, exec c s = .next t ∧ PowerStep s t := by
  have request (e : Env) (code code' : Byte) {svc : Service} (r : Request) (h : serviceOf code' = some svc) :
      PowerStep s ((s.observe e).requestArrives code (some svc) r) :=
    (s.observe_step e).trans (State.requestArrives_step _ _ (fun _ hc => serviceOf_power (h.trans hc)) r)
  have frame (e : Env) (a : Arrival) (x : Payload) : PowerStep s ((s.observe e).frameArrives a x) :=
    (s.observe_step e).trans (State.frameArrives_step _ a x)
  cases c with
  | powerOn e => exact absurd rfl (hc e).1
  | resetPin e => exact absurd rfl (hc e).2.1
  | periodEnd e => exact absurd rfl (hc e).2.2
  | identify e r => exact ⟨_, rfl, request e _ 1 r rfl⟩
  | loadImage e r => exact ⟨_, rfl, request e _ 2 r rfl⟩
  | start e r => exact ⟨_, rfl, request e _ 3 r rfl⟩
  | readStatus e r => exact ⟨_, rfl, request e _ 16 r rfl⟩
  | readQueue e r => exact ⟨_, rfl, request e _ 17 r rfl⟩
  | readExitLog e r => exact ⟨_, rfl, request e _ 18 r rfl⟩
  | readCounters e r => exact ⟨_, rfl, request e _ 19 r rfl⟩
  | clearCounters e r => exact ⟨_, rfl, request e _ 20 r rfl⟩
  | clearResetCause e r => exact ⟨_, rfl, request e _ 21 r rfl⟩
  | traceSetup e r => exact ⟨_, rfl, request e _ 32 r rfl⟩
  | traceArm e r => exact ⟨_, rfl, request e _ 33 r rfl⟩
  | traceStop e r => exact ⟨_, rfl, request e _ 34 r rfl⟩
  | readTrace e r => exact ⟨_, rfl, request e _ 35 r rfl⟩
  | unknownCommand e code r =>
    exact ⟨_, rfl, (s.observe_step e).trans (State.requestArrives_step _ _ (fun _ => serviceOf_power) r)⟩
  | serviceAbandoned e => exact ⟨_, rfl, (s.observe_step e).trans (State.gapExpires_power _).step⟩
  | serviceResponseSent e => exact ⟨_, rfl, (s.observe_step e).trans (State.responseSent_power _).step⟩
  | serviceByteReceived e b => exact ⟨_, rfl, (s.observe_step e).trans (State.serviceByte_step _ b)⟩
  | estopAsserted e => exact execEstopAsserted_step e s
  | estopReleased e => exact ⟨_, rfl, (s.observe_step e).trans (State.setPins_step _ _ id id)⟩
  | faultHigh e => exact execFaultHigh_step e s
  | faultLow e => exact ⟨_, rfl, (s.observe_step e).trans (State.setPins_step _ _ id (fun h => by cases h))⟩
  | readyLow e => exact execReadyLow_step e s
  | readyHigh e => exact ⟨_, rfl, (s.observe_step e).trans (State.setPins_step _ _ (fun _ => rfl) id)⟩
  | tripReset e => exact execTripReset_step e s
  | motionEdge e => exact ⟨_, rfl, (s.observe_step e).trans (State.takeMotion_power _).step⟩
  | pushed e => exact execPushed_step e s
  | pressCall e => exact ⟨_, rfl, .observeIte fun _ => State.takePressCall_step _⟩
  | motionDeadlineExpiry e => exact ⟨_, rfl, .observeIte fun _ => (State.selfStroke_power _).step⟩
  | confirmDeadlineExpiry e => exact ⟨_, rfl, .observeIte fun _ => (State.giveUpConfirm_power _).step⟩
  | pusherTimeout e => exact ⟨_, rfl, .observeIte fun _ => State.pusherTimesOut_step _⟩
  | pushPulseEnd e => exact ⟨_, rfl, .observeIte fun _ => (State.setHead_power _ _).step⟩
  | callTimerExpiry e => exact ⟨_, rfl, .observeIte fun _ => (State.callTimeout_power _).step⟩
  | fillTimerExpiry e => exact ⟨_, rfl, .observeIte fun _ => (State.fillExpires_power _).step⟩
  | pressIdleExpiry e => exact ⟨_, rfl, .observeIte fun _ => State.pressIdles_step _⟩
  | sampleDeadlineExpiry e => exact execSampleDeadlineExpiry_step e s
  | deliveredPulseEnd e => exact ⟨_, rfl, (s.observe_step e).trans (State.stepPulse_power _).step⟩
  | canvassDeadlineExpiry e => exact execCanvassDeadlineExpiry_step e s
  | backoffExpiry e => exact ⟨_, rfl, .observeIte fun _ => SamePower.step ⟨rfl, Nat.le_refl _⟩⟩
  | recanvassExpiry e => exact ⟨_, rfl, .observeIte fun _ => SamePower.step ⟨rfl, Nat.le_refl _⟩⟩
  | refreshTimerExpiry e => exact ⟨_, rfl, .observeIte fun _ => (State.refreshOwn_power _).step⟩
  | holdExpiry e cause origin =>
    exact ⟨_, rfl, .observeIte fun _ => ((State.dropHeard_list _ cause origin).trans_power (State.count_power _ _)).derive⟩
  | settleExpiry e => exact ⟨_, rfl, .observeIte fun h => State.settled_step _ (State.onLine_of_state h rfl)⟩
  | helloTimerExpiry e => exact ⟨_, rfl, .observeIte fun _ => (State.repeatHellos_power _).step⟩
  | posTimerExpiry e =>
    exact ⟨_, rfl, .observeIte fun h => State.headPos_step _
      (State.onLine_of_state ((Bool.and_assoc _ _ _).symm.trans h) rfl)⟩
  | helloCheckRepeat e p => exact ⟨_, rfl, .observeIte fun _ => (State.repeatCheck_power _ p).step⟩
  | linkUp e p => exact execLinkUp_step e p s
  | linkDownErrors e p =>
    exact ⟨_, rfl, .observeIte fun _ => (State.setPort_power _ p _).step.trans (State.errorChar_step _ p)⟩
  | linkDownSilence e p => exact ⟨_, rfl, .observeIte fun _ => State.linkGoesDown_step _ p _⟩
  | breakPeriodEnd e p => exact ⟨_, rfl, .observeIte fun _ => (State.setPort_power _ p _).step⟩
  | transmitterFree e p => exact ⟨_, rfl, (s.observe_step e).trans (State.becomeFree_power _ p).step⟩
  | frameDropped e p c => exact ⟨_, rfl, (s.observe_step e).trans (State.receiveChar_step _ p c)⟩
  | characterReceived e p c => exact ⟨_, rfl, (s.observe_step e).trans (State.receiveChar_step _ p c)⟩
  | hold e a cause origin => exact ⟨_, rfl, frame e a _⟩
  | clear e a cause origin => exact ⟨_, rfl, frame e a _⟩
  | stroke e a n synth content => exact ⟨_, rfl, frame e a _⟩
  | call e a kind n => exact ⟨_, rfl, frame e a _⟩
  | pos e a q recipe version agrees => exact ⟨_, rfl, frame e a _⟩
  | count e a n agrees => exact ⟨_, rfl, frame e a _⟩
  | hello e a h => exact ⟨_, rfl, frame e a _⟩
  | canvass e a origin n want => exact ⟨_, rfl, frame e a _⟩
  | reply e a n kind amount => exact ⟨_, rfl, frame e a _⟩
  | ret e a n amount => exact ⟨_, rfl, frame e a _⟩
  | trim e a step n => exact ⟨_, rfl, frame e a _⟩

/-- Settles O4: every command but a reset and the period end lets power only fall. -/
theorem powerRisesOnlyAtBoundaries : Obligations.PowerRisesOnlyAtBoundaries := by
  intro c s t hon hc ht
  obtain ⟨t', ht', hstep⟩ := exec_powerStep c s hc
  cases ht'.symm.trans ht
  exact hstep.falls hon

/-- R58, R186: after a reset nothing is driven. -/
theorem State.afterReset_started (s : State) (powerOn resetPin : Bool) : (s.afterReset powerOn resetPin).Started := by
  have hoff : ¬ (s.afterReset powerOn resetPin).onLine = true := Bool.false_ne_true
  have hdisabled : ¬ (s.afterReset powerOn resetPin).ivi.enable = true := Bool.false_ne_true
  exact ⟨⟨fun hon => absurd hon hoff, fun hon => absurd hon hoff, ⟨fun hen => absurd hen hdisabled, fun _ => rfl⟩,
    fun hon => absurd hon hoff⟩, rfl⟩

/-- Every command leaves power safe and covered. -/
theorem exec_keepsPower (c : Instr) (s : State) :
    ∃ t, exec c s = .next t ∧ (s.PowerSafe → t.PowerSafe) ∧ (s.CreditsCover → t.CreditsCover) := by
  have hreset (u : State) (powerOn resetPin : Bool) := u.afterReset_started powerOn resetPin
  by_cases hc : ∀ e, c ≠ .powerOn e ∧ c ≠ .resetPin e ∧ c ≠ .periodEnd e
  · obtain ⟨t, ht, hstep⟩ := exec_powerStep c s hc
    exact ⟨t, ht, hstep.safe, hstep.covered⟩
  · obtain ⟨e, he⟩ := not_forall.mp hc
    have hboundary : c = .powerOn e ∨ c = .resetPin e ∨ c = .periodEnd e := by
      by_contra hnone
      exact he (by simpa only [not_or] using hnone)
    rcases hboundary with rfl | rfl | rfl
    · exact ⟨_, rfl, fun _ => (hreset _ _ _).safe, fun _ => (hreset _ _ _).covered⟩
    · exact ⟨_, rfl, fun _ => (hreset _ _ _).safe, fun _ => (hreset _ _ _).covered⟩
    · refine ⟨_, rfl, ?_⟩
      have hobserve := s.observe_step e
      split
      · obtain ⟨hsafe, hcovered⟩ := (s.observe e).endPeriod_safe
        exact ⟨fun hs => hsafe (hobserve.safe hs), fun _ => hcovered⟩
      · exact ⟨hobserve.safe, hobserve.covered⟩

/-- Settles O10: the step takes the command at the front, and every command leaves power safe and covered. -/
theorem stepKeepsPowerSafe : Obligations.StepKeepsPowerSafe := by
  intro s t h
  unfold step at h
  split at h
  · rename_i c rest _
    obtain ⟨t', ht', hsafe, hcovered⟩ := exec_keepsPower c { s with pending := rest }
    cases ht'.symm.trans h
    exact ⟨hsafe, fun _ => hcovered⟩
  · cases h
    exact ⟨id, fun _ => id⟩

end Sys2Proof.Machine
end

section
/-!
PROOFS. The lines of the plant (R61 to R64): the levels that change the line alone (O25).
-/

namespace Sys2Proof.Machine

/-! ### The levels (R61 to R63) -/

/-- R61, R63: READY low on line cuts power where FAULT is low, and changes the line alone elsewhere. -/
theorem exec_readyLow_eq (e : Env) (s : State) : exec (.readyLow e) s = .next
    (if s.onLine = true ∧ s.pins.fault = false then
      { s.observe e with
        pins := { (s.observe e).pins with ready := false }
        ivi := { s.ivi with inForce := 0, enable := false, notReady := true } }
    else { s.observe e with pins := { (s.observe e).pins with ready := false } }) := by
  refine congrArg Host.Outcome.next (if_congr ?_ rfl rfl)
  show (s.onLine && !s.pins.fault) = true ↔ s.onLine = true ∧ s.pins.fault = false
  rw [Bool.and_eq_true, Bool.not_eq_true']

/-- Settles O25: the level of each line, with its frame. -/
theorem levelsOfThePlantLines : Obligations.LevelsOfThePlantLines := by
  rintro e s u rfl
  refine ⟨exec_readyLow_eq e s, rfl, rfl, rfl, fun hoff => ?_⟩
  have hno : ¬ s.onLine = true := Bool.eq_false_iff.mp hoff
  exact ⟨congrArg Host.Outcome.next (if_neg hno), congrArg Host.Outcome.next (if_neg hno),
    congrArg Host.Outcome.next (if_neg hno)⟩

end Sys2Proof.Machine
end

section
/-!
PROOFS. What an offer does at its port, and a broadcast at both (R81, R158, R159): the queue it leaves, the credits it restores, and
what it counts.
-/

namespace Sys2Proof.Machine

/-! ### Counters that add up -/

theorem satAdd_satAdd (c : BitVec 32) (m n : Nat) : satAdd (satAdd c m) n = satAdd c (m + n) := by
  have hc := c.isLt
  unfold satAdd
  rw [BitVec.toNat_ofNat, Nat.mod_eq_of_lt (by omega)]
  congr 1
  omega

theorem LinkPort.countBy_same (x : LinkPort) (c : PortCounter) (n : Nat) :
    (x.countBy c n).counters.get c.idx = satAdd (x.counters.get c.idx) n := by
  simp [LinkPort.countBy, Vector.get_eq_getElem]

theorem LinkPort.countBy_ne (x : LinkPort) {c d : PortCounter} (n : Nat) (h : c ≠ d) :
    (x.countBy c n).counters.get d.idx = x.counters.get d.idx := by
  have hidx : c.idx ≠ d.idx := fun he => h (PortCounter.idx_injective he)
  simp only [LinkPort.countBy, Vector.get_eq_getElem]
  exact Vector.getElem_set_ne _ _ (fun he => hidx (Fin.ext he))

/-! ### An offer at its port (R158, R159) -/

/-- The port after an offer that is refused. -/
def LinkPort.refused (x : LinkPort) : LinkPort := x.countBy .localRefused 1

/-- The port after an offer that is taken into the queue `q`. -/
def LinkPort.taken (x : LinkPort) (q : List Frame) (f : Frame) : LinkPort :=
  { x.countBy .localTaken 1 with localQ := insertByClass f q }

/-- The port after an offer (log 35). -/
def LinkPort.afterOffer (x : LinkPort) (f : Frame) : LinkPort :=
  if x.refuses f then x.refused
  else if x.localQ.length < 8 then x.taken x.localQ f
  else match x.localQ.getLast? with
    | some g => if frameClass f < frameClass g then (x.countBy .localDisplaced 1).taken x.localQ.dropLast f else x.refused
    | none => x.refused

/-- The credits an offer brings back. -/
def LinkPort.restores (x : LinkPort) (f : Frame) : Nat :=
  if x.refuses f ∨ x.localQ.length < 8 then 0
  else match x.localQ.getLast? with
    | some g => if frameClass f < frameClass g then carriedCredits g else 0
    | none => 0

/-- The credits a state owes to a displaced frame, and the counter that shows them. -/
def State.Restored (s t : State) (n : Nat) : Prop :=
  t.cru.loans = s.cru.loans + n ∧ t.counter .creditsRestored = satAdd (s.counter .creditsRestored) n

theorem State.Restored.of_same {s t : State} (hcru : t.cru = s.cru) (hcounters : t.counters = s.counters) :
    State.Restored s t 0 := by
  unfold State.Restored State.counter
  rw [hcru, hcounters, satAdd_zero]
  exact ⟨rfl, rfl⟩

theorem State.displace_restored (s : State) (p : Port) (g : Frame) : s.Restored (s.displace p g) (carriedCredits g) := by
  have hcounters : ((s.portCount p .localDisplaced).traceDrop p .localDisplaced (viewOfFrame g)).counters = s.counters := by
    cases p <;> rfl
  have hloans : ((s.portCount p .localDisplaced).traceDrop p .localDisplaced (viewOfFrame g)).cru.loans = s.cru.loans := by
    cases p <;> rfl
  unfold State.displace
  extract_lets t
  refine ⟨congrArg (· + carriedCredits g) hloans, ?_⟩
  show t.counter .creditsRestored = _
  dsimp only [t]
  rw [State.counter_countBy]
  unfold State.counter
  rw [hcounters]

theorem State.refuseLocal_port (s : State) (p : Port) (f : Frame) : (s.refuseLocal p f).port p = (s.port p).refused := by
  cases p <;> rfl

theorem State.takeLocal_port (s : State) (p : Port) (q : List Frame) (f : Frame) :
    (s.takeLocal p q f).port p = (s.port p).taken q f := by
  cases p <;> rfl

theorem State.displace_port (s : State) (p : Port) (g : Frame) :
    (s.displace p g).port p = (s.port p).countBy .localDisplaced 1 := by
  cases p <;> rfl

theorem State.refuseLocal_restored (s : State) (p : Port) (f : Frame) : s.Restored (s.refuseLocal p f) 0 := by
  cases p <;> exact .of_same rfl rfl

theorem State.takeLocal_restored (s : State) (p : Port) (q : List Frame) (f : Frame) : s.Restored (s.takeLocal p q f) 0 := by
  cases p <;> exact .of_same rfl rfl

theorem State.Restored.trans {s t u : State} {m n : Nat} (h : s.Restored t m) (k : t.Restored u n) : s.Restored u (m + n) :=
  ⟨by rw [k.1, h.1, Nat.add_assoc], by rw [k.2, h.2, satAdd_satAdd]⟩

/-- An offer changes its port by what stands there alone. -/
theorem State.offer_port (s : State) (p : Port) (f : Frame) : (s.offer p f).state.port p = (s.port p).afterOffer f := by
  unfold State.offer LinkPort.afterOffer Config.localCapacity
  split
  · exact s.refuseLocal_port p f
  split
  · exact s.takeLocal_port p _ f
  cases (s.port p).localQ.getLast? with
  | none => exact s.refuseLocal_port p f
  | some g =>
    dsimp only
    split
    · rw [State.takeLocal_port, State.displace_port]
    · exact s.refuseLocal_port p f

/-- R81: an offer brings the displaced frame's credits back. -/
theorem State.offer_restored (s : State) (p : Port) (f : Frame) :
    s.Restored (s.offer p f).state ((s.port p).restores f) := by
  unfold State.offer LinkPort.restores Config.localCapacity
  split
  · rename_i hrefuses
    rw [if_pos (.inl hrefuses)]
    exact s.refuseLocal_restored p f
  split
  · rename_i hroom
    rw [if_pos (.inr hroom)]
    exact s.takeLocal_restored p _ f
  rename_i hpasses hfull
  rw [if_neg (fun h => h.elim hpasses hfull)]
  cases (s.port p).localQ.getLast? with
  | none => exact s.refuseLocal_restored p f
  | some g =>
    dsimp only
    split
    · exact (s.displace_restored p g).trans (State.takeLocal_restored _ p _ f)
    · exact s.refuseLocal_restored p f

/-- R158: a port that is UP and not MISWIRED refuses no frame at once. -/
theorem LinkPort.refuses_of_up {x : LinkPort} (hup : x.link = .up) (hcheck : x.check ≠ .miswired) (f : Frame) :
    x.refuses f = false := by
  simp [LinkPort.refuses, hup, hcheck]

/-- R158: the queue of a port with room. -/
theorem LinkPort.afterOffer_room {x : LinkPort} (hup : x.link = .up) (hcheck : x.check ≠ .miswired)
    (hroom : x.localQ.length < 8) (f : Frame) : x.afterOffer f = x.taken x.localQ f := by
  unfold LinkPort.afterOffer
  rw [if_neg (Bool.eq_false_iff.mp (LinkPort.refuses_of_up hup hcheck f)), if_pos hroom]

/-- R159: a full queue, whose last frame is displaced by a frame of a higher class. -/
theorem LinkPort.afterOffer_full {x : LinkPort} {rest : List Frame} {g : Frame} (hup : x.link = .up) (hcheck : x.check ≠ .miswired)
    (hq : x.localQ = rest ++ [g]) (hfull : 7 ≤ rest.length) (f : Frame) :
    (frameClass f < frameClass g → x.afterOffer f = (x.countBy .localDisplaced 1).taken rest f ∧
      x.restores f = carriedCredits g) ∧
    (frameClass g ≤ frameClass f → x.afterOffer f = x.refused ∧ x.restores f = 0) := by
  have hpass := LinkPort.refuses_of_up hup hcheck f
  have hlength : ¬ (rest ++ [g]).length < 8 := by rw [List.length_append, List.length_singleton]; omega
  unfold LinkPort.afterOffer LinkPort.restores
  rw [if_neg (Bool.eq_false_iff.mp hpass), hq, if_neg hlength, if_neg (fun h => h.elim (Bool.eq_false_iff.mp hpass) hlength),
    List.getLast?_concat, List.dropLast_concat]
  exact ⟨fun hclass => ⟨if_pos hclass, if_pos hclass⟩,
    fun hclass => ⟨if_neg (Nat.not_lt.mpr hclass), if_neg (Nat.not_lt.mpr hclass)⟩⟩

/-- R158, R159: what an offer does at a full queue, where the port stands as after it. -/
theorem State.FullQueueOffered.of_port {s t : State} {p : Port} {f : Frame}
    (h : s.linkIsUp p = true → t.port p = (s.port p).afterOffer f) : s.FullQueueOffered t p f := by
  intro rest g hup hcheck hq hfull
  obtain ⟨hdisplaces, hrefuses⟩ := LinkPort.afterOffer_full (beq_iff_eq.mp hup) hcheck hq hfull f
  unfold State.portCounter
  rw [h hup]
  refine ⟨fun hclass => ?_, fun hclass => ?_⟩
  · rw [(hdisplaces hclass).1]
    refine ⟨rfl, ?_, ?_⟩
    · exact (LinkPort.countBy_ne _ 1 (by decide)).trans (LinkPort.countBy_same _ _ 1)
    · refine (LinkPort.countBy_same _ _ 1).trans ?_
      rw [LinkPort.countBy_ne _ 1 (by decide)]
  · rw [(hrefuses hclass).1]
    exact ⟨rfl, LinkPort.countBy_same _ _ 1⟩

/-! ### Counted offers and broadcasts (R155, R158) -/

/-- An offer that is counted at its end stands as the offer does. -/
theorem State.offerCounted_eq (s : State) (p : Port) (f : Frame) (a b : Counter) :
    s.offerCounted p f a b = (s.offer p f).state.count (if (s.offer p f).taken then a else b) := by
  unfold State.offerCounted
  dsimp only
  split <;> rfl

theorem State.count_port (s : State) (c : Counter) (p : Port) : (s.count c).port p = s.port p := by cases p <;> rfl

theorem State.offerCounted_port (s : State) (p : Port) (f : Frame) (a b : Counter) :
    (s.offerCounted p f a b).port p = (s.port p).afterOffer f := by
  rw [State.offerCounted_eq, State.count_port, State.offer_port]

theorem State.offerCounted_other (s : State) (p : Port) (f : Frame) (a b : Counter) :
    (s.offerCounted p f a b).port p.other = s.port p.other := by
  rw [State.offerCounted_eq, State.count_port, State.offer_other]

theorem State.offerCounted_restored (s : State) (p : Port) (f : Frame) {a b : Counter} (ha : a ≠ .creditsRestored)
    (hb : b ≠ .creditsRestored) : s.Restored (s.offerCounted p f a b) ((s.port p).restores f) := by
  obtain ⟨hloans, hcounter⟩ := s.offer_restored p f
  rw [State.offerCounted_eq]
  refine ⟨hloans, Eq.trans (State.counter_countBy_ne _ _ _ _ ?_) hcounter⟩
  split
  · exact ha
  · exact hb

/-- The broadcast's part at one port: a counted offer where the link is UP. -/
def State.broadcastAt (s : State) (p : Port) (x : Payload) (a b : Counter) : State :=
  if s.linkIsUp p then s.offerCounted p (s.frame dstAll x) a b else s

theorem State.offerBothCounted_eq (s : State) (x : Payload) (a b : Counter) :
    s.offerBothCounted x a b = (s.broadcastAt .up x a b).broadcastAt .down x a b := rfl

theorem State.broadcastAt_link (s : State) (p : Port) (x : Payload) (a b : Counter) : LinkFrame s (s.broadcastAt p x a b) := by
  unfold State.broadcastAt
  split
  · exact s.offerCounted_link _ _ _ _
  · exact .refl s

theorem State.broadcastAt_down {s : State} {p : Port} (h : s.linkIsUp p = false) (x : Payload) (a b : Counter) :
    s.broadcastAt p x a b = s := if_neg (Bool.eq_false_iff.mp h)

theorem State.broadcastAt_up {s : State} {p : Port} (h : s.linkIsUp p = true) (x : Payload) (a b : Counter) :
    s.broadcastAt p x a b = s.offerCounted p (s.frame dstAll x) a b := if_pos h

theorem State.broadcastAt_port (s : State) (p : Port) (x : Payload) (a b : Counter) : (s.broadcastAt p x a b).port p =
    if s.linkIsUp p then (s.port p).afterOffer (s.frame dstAll x) else s.port p := by
  unfold State.broadcastAt
  split
  · exact s.offerCounted_port p _ a b
  · rfl

theorem State.broadcastAt_other (s : State) (p : Port) (x : Payload) (a b : Counter) :
    (s.broadcastAt p x a b).port p.other = s.port p.other := by
  unfold State.broadcastAt
  split
  · exact s.offerCounted_other p _ a b
  · rfl

theorem LinkFrame.frame {s t : State} (h : LinkFrame s t) (dst : Byte) (x : Payload) : t.frame dst x = s.frame dst x :=
  h.toDemandFrame.toPeriodFrame.frame dst x

theorem LinkFrame.linkIsUp {s t : State} (h : LinkFrame s t) (p : Port) : t.linkIsUp p = s.linkIsUp p :=
  h.toDemandFrame.toPeriodFrame.linkIsUp p

/-- R155: a broadcast changes each port by what stands there alone. -/
theorem State.offerBothCounted_port (s : State) (x : Payload) (a b : Counter) (p : Port) :
    (s.offerBothCounted x a b).port p = if s.linkIsUp p then (s.port p).afterOffer (s.frame dstAll x) else s.port p := by
  have hfirst := s.broadcastAt_link .up x a b
  rw [State.offerBothCounted_eq]
  cases p with
  | up => exact (State.broadcastAt_other _ .down x a b).trans (s.broadcastAt_port .up x a b)
  | down =>
    rw [State.broadcastAt_port, hfirst.linkIsUp, hfirst.frame]
    exact congrArg (fun y => if s.linkIsUp .down then LinkPort.afterOffer y _ else y) (s.broadcastAt_other .up x a b)

/-- R155: a broadcast where one link is UP is one offer. -/
theorem State.offerBothCounted_oneLink {s : State} {p : Port} (hup : s.linkIsUp p = true) (hdown : s.linkIsUp p.other = false)
    (x : Payload) (a b : Counter) : s.offerBothCounted x a b = s.offerCounted p (s.frame dstAll x) a b := by
  rw [State.offerBothCounted_eq]
  cases p with
  | up =>
    rw [State.broadcastAt_down (((s.broadcastAt_link .up x a b).linkIsUp .down).trans hdown)]
    exact State.broadcastAt_up hup x a b
  | down =>
    have hfirst : s.broadcastAt .up x a b = s := State.broadcastAt_down hdown x a b
    rw [hfirst]
    exact State.broadcastAt_up hup x a b

theorem State.broadcastAt_only (s : State) (p : Port) (x : Payload) (a b : Counter) :
    CountsOnly [.creditsRestored, a, b] s (s.broadcastAt p x a b) := by
  unfold State.broadcastAt
  split
  · exact s.offerCounted_only p _ a b
  · exact .refl s

theorem State.offerBothCounted_only (s : State) (x : Payload) (a b : Counter) :
    CountsOnly [.creditsRestored, a, b] s (s.offerBothCounted x a b) :=
  (s.broadcastAt_only .up x a b).trans (State.broadcastAt_only _ .down x a b)

/-- R158: an offer in a broadcast to ports with room is counted. -/
theorem State.broadcastAt_counter {s : State} {p : Port} (h : s.linkIsUp p = true → s.hasRoom p = true) (x : Payload)
    (a b : Counter) : (s.broadcastAt p x a b).counter a = satAdd (s.counter a) (if s.linkIsUp p then 1 else 0) := by
  unfold State.broadcastAt
  split
  · rename_i hup
    exact (State.offerCounted_of_hasRoom (h hup) _ a b).2
  · exact (satAdd_zero _).symm

/-- R155: a broadcast whose ports have room is counted at each. -/
theorem State.offerBothCounted_counter {s : State} (h : ∀ p, s.linkIsUp p = true → s.hasRoom p = true) (x : Payload)
    (a b : Counter) : (s.offerBothCounted x a b).counter a = satAdd (s.counter a) s.linksUp := by
  have hup := (s.broadcastAt_link .up x a b).linkIsUp .down
  have hroom : (s.broadcastAt .up x a b).hasRoom .down = s.hasRoom .down := by
    have hport : (s.broadcastAt .up x a b).port .down = s.port .down := s.broadcastAt_other .up x a b
    unfold State.hasRoom
    rw [hup, hport]
  rw [State.offerBothCounted_eq, State.broadcastAt_counter (fun hd => hroom.trans (h .down (hup.symm.trans hd))),
    State.broadcastAt_counter (h .up), satAdd_satAdd, hup]
  rfl

end Sys2Proof.Machine
end

section
/-!
PROOFS. The raise of an own cause and the trip that it may bring (R62, R63, R129, R130): the list, the HOLD that is offered, and the
settlement of O24.
-/

namespace Sys2Proof.Machine

/-! ### What a frame of the Hold Unit leaves (R129 to R133) -/

/-- Nothing else differs. -/
theorem HoldFrame.eq {s t : State} (h : HoldFrame s t) : t = { s with
    ldu := t.ldu, cru := { s.cru with loans := t.cru.loans }, head := t.head, hlu := t.hlu, upPort := t.upPort
    downPort := t.downPort, ltr := t.ltr, counters := t.counters } := by
  rw [← h.cru, ← h.micros, ← h.freeIndex, ← h.pins, ← h.cq, ← h.tau, ← h.pdu, ← h.ivi, ← h.tracker, ← h.tail, ← h.exu, ← h.svi,
    ← h.pending]

theorem HoldFrame.offered {s t : State} (h : HoldFrame s t) : ∀ p, t.port p = (s.port p).offered (t.port p)
  | .up => h.upPort
  | .down => h.downPort

/-! ### The derivation of the mode (R129) -/

/-- The counters of a mode's derivation, and of the stroke it may start. -/
def modeCounters : List Counter := [.runEntries, .trippedEntries, .holdEntries, .pushesStarted]

theorem modeCounter_mem (m : StationState) : modeCounter m ∈ modeCounters := by cases m <;> decide

theorem State.deriveMode_only (s : State) : CountsOnly modeCounters s s.deriveMode := by
  unfold State.deriveMode
  split
  · refine CountsOnly.trans (t := if modeOf s.hlu.entries = s.ldu.state then s else s.enterMode (modeOf s.hlu.entries)) ?_
      ((State.tryStart_only _).mono (by decide))
    split
    · exact .refl s
    · exact (CountsOnly.of_counters rfl).trans (State.count_only (modeCounter_mem _) _)
  · exact .refl s

theorem State.deriveMode_ldu {s : State} (h : s.onLine = true) :
    s.deriveMode.ldu = { s.ldu with state := modeOf s.hlu.entries } := by
  rw [State.deriveMode_eq, if_pos h]

theorem State.deriveMode_port (s : State) (p : Port) : s.deriveMode.port p = s.port p := by
  rw [State.deriveMode_eq]
  cases p <;> rfl

theorem State.deriveMode_cru (s : State) : s.deriveMode.cru = s.cru := by rw [State.deriveMode_eq]

/-- R98: the head may start a stroke when the derivation finds the list empty. -/
theorem State.deriveMode_head {s : State} (h : s.onLine = true) : s.deriveMode.head = s.startedHead s.hlu.entries s.head := by
  unfold State.deriveMode
  rw [if_pos h]
  split
  · exact State.tryStart_head s h
  · exact State.tryStart_head (s.enterMode _) (modeOf_online _)

/-! ### Room in the hold cause list (R130) -/

theorem foldl_max_le_iff (l : List Nat) (a b : Nat) : l.foldl max a ≤ b ↔ a ≤ b ∧ ∀ x ∈ l, x ≤ b := by
  induction l generalizing a with
  | nil => simp
  | cons y rest ih => rw [List.foldl_cons, ih, max_le_iff, List.forall_mem_cons, and_assoc]

/-- The largest age of a heard entry is that of one which no heard entry exceeds. -/
theorem oldestHeard_eq {now : Time} {es : List HoldEntry} {x : HoldEntry} (hx : x ∈ es) (hheard : x.own = false)
    (holdest : ∀ y ∈ es, y.own = false → y.age now ≤ x.age now) : oldestHeard now es = x.age now := by
  unfold oldestHeard
  refine le_antisymm ((foldl_max_le_iff _ _ _).mpr ⟨Nat.zero_le _, fun n hn => ?_⟩)
    (((foldl_max_le_iff _ _ _).mp (le_refl _)).2 _ (List.mem_map_of_mem (List.mem_filter.mpr ⟨hx, by rw [hheard]; rfl⟩)))
  obtain ⟨y, hy, rfl⟩ := List.mem_map.mp hn
  obtain ⟨hmem, hown⟩ := List.mem_filter.mp hy
  exact holdest y hmem (by simpa using hown)

/-- Log 32: the first of the oldest heard entries is evicted. -/
theorem evictOldest_eq {now : Time} {front back : List HoldEntry} {x : HoldEntry} (hheard : x.own = false)
    (hfront : ∀ y ∈ front, y.own = false → y.age now < x.age now) (hback : ∀ y ∈ back, y.own = false → y.age now ≤ x.age now) :
    evictOldest now (front ++ x :: back) = front ++ back := by
  have holdest : oldestHeard now (front ++ x :: back) = x.age now := by
    refine oldestHeard_eq (by simp) hheard fun y hy hown => ?_
    rcases List.mem_append.mp hy with hy | hy
    · exact (hfront y hy hown).le
    rcases List.mem_cons.mp hy with rfl | hy
    · exact le_refl _
    · exact hback y hy hown
  unfold evictOldest
  rw [holdest, List.eraseP_append_right _ fun y hy => ?_, List.eraseP_cons_of_pos (by simp [hheard])]
  cases hown : y.own with
  | true => simp
  | false => simpa using (hfront y hy hown).ne

theorem State.makeRoom_eq (s : State) : s.makeRoom = { s with hlu := s.makeRoom.hlu, counters := s.makeRoom.counters } := by
  unfold State.makeRoom
  split <;> rfl

theorem State.makeRoom_of_room {s : State} (h : s.hlu.entries.length < 16) : s.makeRoom = s := if_pos h

theorem State.makeRoom_of_full {s : State} (h : 16 ≤ s.hlu.entries.length) : s.makeRoom =
    ({ s with hlu := { s.hlu with entries := evictOldest s.now s.hlu.entries } } : State).count .holdEvictions :=
  if_neg (Nat.not_lt.mpr h)

theorem State.makeRoom_only (s : State) : CountsOnly [.holdEvictions] s s.makeRoom := by
  unfold State.makeRoom
  split
  · exact .refl s
  · exact (CountsOnly.of_counters rfl).trans (State.count_only List.mem_cons_self _)

/-! ### The raise of an own cause (R130) -/

/-- R130: a new own cause stands in the list, and its HOLD is not yet offered. -/
def State.withOwn (s : State) (c : Cause) : State :=
  { s.makeRoom with hlu := { s.makeRoom.hlu with
      entries := s.makeRoom.hlu.entries ++ [{ cause := c, origin := s.makeRoom.originByte, own := true, refreshed := s.makeRoom.now }] } }

theorem State.withOwn_eq (s : State) (c : Cause) :
    s.withOwn c = { s with hlu := (s.withOwn c).hlu, counters := s.makeRoom.counters } := by
  unfold State.withOwn
  rw [State.makeRoom_eq]

/-- The HOLD of a cause, as a broadcast carries it. -/
def State.holdOf (s : State) (c : Cause) : Payload := .hold (causeCode c) s.originByte

theorem State.withOwn_holdOf (s : State) (c d : Cause) : (s.withOwn c).holdOf d = s.holdOf d := by
  rw [State.withOwn_eq]
  rfl

/-- A cause that stands is not raised again. -/
theorem State.raiseOwn_old {s : State} {c : Cause} (h : s.hlu.hasOwn c = true) : s.raiseOwn c = s := if_pos h

/-- R130: a new cause offers its HOLD, starts the timer and is counted. -/
theorem State.raiseOwn_new {s : State} {c : Cause} (h : s.hlu.hasOwn c = false) :
    ∃ x : Hlu, s.raiseOwn c = ({ (s.withOwn c).offerHold c with hlu := x } : State).count .ownCausesRaised :=
  ⟨_, if_neg (Bool.eq_false_iff.mp h)⟩

theorem State.offerHold_lines {s : State} (h : s.isSingle = false) (c : Cause) :
    s.offerHold c = s.offerBothCounted (s.holdOf c) .holdsSent .holdsRefused := if_neg (Bool.eq_false_iff.mp h)

theorem State.withOwn_isSingle (s : State) (c : Cause) : (s.withOwn c).isSingle = s.isSingle := by
  rw [State.withOwn_eq]
  rfl

/-- The counters of a raise. -/
def raiseCounters : List Counter := [.holdEvictions, .creditsRestored, .holdsSent, .holdsRefused, .ownCausesRaised]

theorem State.withOwn_only (s : State) (c : Cause) : CountsOnly [.holdEvictions] s (s.withOwn c) :=
  s.makeRoom_only.trans (.of_counters rfl)

theorem State.offerHold_only (s : State) (c : Cause) : CountsOnly [.creditsRestored, .holdsSent, .holdsRefused] s (s.offerHold c) := by
  unfold State.offerHold
  split
  · exact .refl s
  · exact s.offerBothCounted_only _ _ _

theorem State.raiseOwn_only (s : State) (c : Cause) : CountsOnly raiseCounters s (s.raiseOwn c) := by
  cases h : s.hlu.hasOwn c with
  | true =>
    rw [State.raiseOwn_old h]
    exact .refl s
  | false =>
    obtain ⟨x, hx⟩ := State.raiseOwn_new h
    rw [hx]
    exact (((s.withOwn_only c).mono (by decide)).trans ((State.offerHold_only _ c).mono (by decide))).trans
      ((CountsOnly.of_counters rfl).trans (State.count_only (by decide) _))

/-- R130: the list, the timer and the counters after a raise. -/
theorem State.raiseOwn_ownRaised (s : State) (c : Cause) : s.OwnRaised (s.raiseOwn c) c := by
  refine ⟨fun h => by rw [State.raiseOwn_old h]; exact ⟨rfl, rfl⟩, fun h => ?_⟩
  obtain ⟨x, hx⟩ := State.raiseOwn_new h
  have hoffer := State.offerHold_only (s.withOwn c) c
  have hcounted : (s.raiseOwn c).counter .ownCausesRaised = satAdd (s.counter .ownCausesRaised) 1 := by
    rw [hx]
    refine State.counter_counted (cs := raiseCounters.dropLast) ?_ (by decide) (ds := []) (.refl _) (by simp)
    exact (((s.withOwn_only c).mono (by decide)).trans (hoffer.mono (by decide))).trans (.of_counters rfl)
  refine ⟨s.raiseOwn_refresh c h, hcounted, fun hroom => ?_, fun hfull front y back hes hheard hfront hback => ⟨?_, ?_⟩⟩
  · rw [s.raiseOwn_entries c h, State.makeRoom_of_room hroom]
  · rw [s.raiseOwn_entries c h, State.makeRoom_of_full hfull]
    refine congrArg (· ++ _) ?_
    show evictOldest s.now s.hlu.entries = front ++ back
    rw [hes]
    exact evictOldest_eq hheard hfront hback
  · have hmade : s.makeRoom.counter .holdEvictions = satAdd (s.counter .holdEvictions) 1 := by
      rw [State.makeRoom_of_full hfull]
      exact State.counter_count _ _
    have hafter : CountsOnly [.creditsRestored, .holdsSent, .holdsRefused, .ownCausesRaised] s.makeRoom (s.raiseOwn c) := by
      rw [hx]
      exact ((CountsOnly.of_counters (t := s.withOwn c) rfl).trans (hoffer.mono (by decide))).trans
        ((CountsOnly.of_counters rfl).trans (State.count_only (by decide) _))
    exact (hafter _ (by decide)).trans hmade

/-- R130: a cause that stands, and any on a single-station line, offers no frame. -/
theorem State.raiseOwn_quiet {s : State} {c : Cause} (h : s.hlu.hasOwn c = true ∨ s.isSingle = true) :
    (∀ p, (s.raiseOwn c).port p = s.port p) ∧ (s.raiseOwn c).cru = s.cru ∧
    (s.raiseOwn c).counter .holdsSent = s.counter .holdsSent := by
  cases hown : s.hlu.hasOwn c with
  | true =>
    rw [State.raiseOwn_old hown]
    exact ⟨fun _ => rfl, rfl, rfl⟩
  | false =>
    have hsingle : (s.withOwn c).isSingle = true := by
      rw [State.withOwn_isSingle]
      exact h.resolve_left (by rw [hown]; exact Bool.false_ne_true)
    obtain ⟨x, hx⟩ := State.raiseOwn_new hown
    rw [State.offerHold_single _ _ hsingle] at hx
    rw [hx]
    refine ⟨fun p => ?_, ?_, ?_⟩
    · rw [State.count_port, State.withOwn_eq]
      cases p <;> rfl
    · show (s.withOwn c).cru = s.cru
      rw [State.withOwn_eq]
    · exact (State.counter_countBy_ne _ _ _ _ (by decide)).trans ((s.withOwn_only c) _ (by decide))

/-- R130: a new cause offers its HOLD on each port whose link is UP, and a displaced frame brings its credits back. -/
theorem State.raiseOwn_offers {s : State} {c : Cause} (hnew : s.hlu.hasOwn c = false) (hlines : s.isSingle = false) :
    (∀ p, (s.raiseOwn c).port p =
      if s.linkIsUp p then (s.port p).afterOffer (s.frame dstAll (s.holdOf c)) else s.port p) ∧
    (∀ p, s.linkIsUp p = true → s.linkIsUp p.other = false →
      s.Restored (s.raiseOwn c) ((s.port p).restores (s.frame dstAll (s.holdOf c)))) ∧
    ((∀ p, s.linkIsUp p = true → s.hasRoom p = true) →
      (s.raiseOwn c).counter .holdsSent = satAdd (s.counter .holdsSent) s.linksUp) := by
  obtain ⟨x, hx⟩ := State.raiseOwn_new hnew
  have hw := s.withOwn_eq c
  have hcounts := s.withOwn_only c
  rw [State.offerHold_lines ((s.withOwn_isSingle c).trans hlines), State.withOwn_holdOf] at hx
  generalize s.withOwn c = w at hx hw hcounts
  have hport (p : Port) : w.port p = s.port p := by rw [hw]; cases p <;> rfl
  have hup (p : Port) : w.linkIsUp p = s.linkIsUp p := by unfold State.linkIsUp; rw [hport]
  have hframe (y : Payload) : w.frame dstAll y = s.frame dstAll y := by rw [hw]; rfl
  have hcru : w.cru = s.cru := by rw [hw]
  rw [hx]
  refine ⟨fun p => ?_, fun p hlink hother => ?_, fun hroom => ?_⟩
  · have hboth := w.offerBothCounted_port (s.holdOf c) .holdsSent .holdsRefused p
    rw [hport, hup, hframe] at hboth
    rw [State.count_port, ← hboth]
    cases p <;> rfl
  · have hone := State.offerBothCounted_oneLink (s := w) ((hup p).trans hlink) ((hup p.other).trans hother) (s.holdOf c)
      .holdsSent .holdsRefused
    obtain ⟨hloans, hcounter⟩ := w.offerCounted_restored p (w.frame dstAll (s.holdOf c)) (a := .holdsSent) (b := .holdsRefused)
      (by decide) (by decide)
    rw [hcru, hport, hframe, ← hframe, ← hone] at hloans
    rw [hport, hframe, ← hframe, ← hone, hcounts _ (by decide)] at hcounter
    rw [hframe] at hloans hcounter
    exact ⟨hloans, (State.counter_countBy_ne _ _ _ _ (by decide)).trans hcounter⟩
  · have hroom' : ∀ p, w.linkIsUp p = true → w.hasRoom p = true := fun p h => by
      unfold State.hasRoom
      rw [hup, hport]
      exact hroom p ((hup p).symm.trans h)
    have hsent := State.offerBothCounted_counter hroom' (s.holdOf c) .holdsSent .holdsRefused
    rw [hcounts _ (by decide)] at hsent
    unfold State.linksUp at hsent ⊢
    rw [hup, hup] at hsent
    exact (State.counter_countBy_ne _ _ _ _ (by decide)).trans hsent

end Sys2Proof.Machine
end

section
/-!
PROOFS. The trip edges of the plant (R62, R63, R129, R130): one event for ESTOP and for FAULT, and the settlement of O24.
-/

namespace Sys2Proof.Machine

/-! ### The trip of a cause -/

theorem State.OwnRaised.of_same {s t u : State} {c : Cause} (h : s.OwnRaised t c) (hhlu : u.hlu = t.hlu)
    (hcounter : ∀ d, d ∈ raiseCounters → u.counter d = t.counter d) : s.OwnRaised u c := by
  unfold State.OwnRaised
  rw [hhlu, hcounter _ (by decide), hcounter _ (by decide)]
  exact h

/-- R98: with a hold cause standing the head starts nothing. -/
theorem State.startedHead_held (u : State) {es : List HoldEntry} (h : es ≠ []) (x : Head) : u.startedHead es x = x := by
  unfold State.startedHead
  split
  · exact if_neg fun hstart => h hstart.1
  · rfl

/-- What a trip edge does: the line mode is TRIPPED, power is cut, and the cause is raised. -/
def State.TripsBy (u t : State) (x : Pins) (c : Cause) (k : Counter) : Prop :=
  t.pins = x ∧
  t.ivi = (if u.ldu.state = .tripped then u.ivi else { u.ivi with inForce := 0, enable := false }) ∧
  t.ldu = { u.ldu with state := .tripped } ∧ t.hlu.hasOwn c = true ∧
  u.OwnRaised t c ∧ (u.hlu.hasOwn c = true ∨ u.isSingle = true → ∀ p, t.port p = u.port p) ∧
  (u.hlu.hasOwn c = false → u.isSingle = false → ∀ p, u.FullQueueOffered t p (u.frame 255 (u.holdOf c)) ∧
    (∀ rest g, u.linkIsUp p = true → u.linkIsUp p.other = false → (u.port p).check ≠ .miswired →
      (u.port p).localQ = rest ++ [g] → 7 ≤ rest.length → 0 < frameClass g → u.Restored t (carriedCredits g))) ∧
  (u.hlu.hasOwn c = false → u.isSingle = false → ∀ p,
    (u.hasRoom p = true → (t.port p).localQ = u.joined p 255 (u.holdOf c)) ∧
    (u.linkIsUp p = false → t.port p = u.port p)) ∧
  (u.hlu.hasOwn c = false → u.isSingle = false → (∀ p, u.linkIsUp p = true → u.hasRoom p = true) →
    t.counter .holdsSent = satAdd (u.counter .holdsSent) u.linksUp) ∧
  (u.isSingle = true → t.counter .holdsSent = u.counter .holdsSent ∧ t.cru = u.cru) ∧
  t.counter k = satAdd (u.counter k) 1 ∧
  (∀ p, t.port p = (u.port p).offered (t.port p)) ∧
  t = { u with
    pins := t.pins, ivi := t.ivi, ldu := t.ldu, hlu := t.hlu, upPort := t.upPort, downPort := t.downPort
    ltr := t.ltr, counters := t.counters, cru := { u.cru with loans := t.cru.loans } }

/-- R158: the room of a port, taken apart. -/
theorem State.hasRoom_iff (s : State) (p : Port) :
    s.hasRoom p = true ↔ s.linkIsUp p = true ∧ (s.port p).check ≠ .miswired ∧ (s.port p).localQ.length < 8 := by
  simp [State.hasRoom, and_assoc]

/-- R158: the queue after an offer to a port with room. -/
theorem State.afterOffer_joined {s : State} {p : Port} (h : s.hasRoom p = true) (dst : Byte) (x : Payload) :
    ((s.port p).afterOffer (s.frame dst x)).localQ = s.joined p dst x := by
  obtain ⟨hup, hcheck, hroom⟩ := (s.hasRoom_iff p).mp h
  rw [LinkPort.afterOffer_room (beq_iff_eq.mp hup) hcheck hroom]
  rfl

theorem modeCounters_disjoint : ∀ d ∈ raiseCounters, d ∉ modeCounters := by decide

/-- The rest of an event whose own cause stands: it is counted, and the mode follows without a stroke. -/
structure State.RaiseEnds (w r t : State) (k : Counter) : Prop where
  frame : HoldFrame w t
  ldu : t.ldu = { w.ldu with state := modeOf r.hlu.entries }
  head : t.head = w.head
  hlu : t.hlu = r.hlu
  port : ∀ p, t.port p = r.port p
  cru : t.cru = r.cru
  same : ∀ d ∈ raiseCounters, t.counter d = r.counter d
  counted : t.counter k = satAdd (w.counter k) 1

/-- R129: the count and the derivation that end a raise. -/
theorem State.raiseOwn_ends {w : State} (hon : w.onLine = true) (c : Cause) {k : Counter}
    (hk : k ∉ raiseCounters ++ modeCounters) : w.RaiseEnds (w.raiseOwn c) ((w.raiseOwn c).count k).deriveMode k := by
  obtain ⟨hraise, hmode⟩ := not_or.mp (mt List.mem_append.mpr hk)
  have honk : ((w.raiseOwn c).count k).onLine = true := by
    rw [State.count_onLine]
    unfold State.onLine
    rw [State.raiseOwn_ldu]
    exact hon
  have hheld : ((w.raiseOwn c).count k).hlu.entries ≠ [] := fun hnil => by
    have hown := w.raiseOwn_hasOwn c
    unfold Hlu.hasOwn at hown
    rw [show (w.raiseOwn c).hlu.entries = [] from hnil] at hown
    cases hown
  have honly := State.deriveMode_only ((w.raiseOwn c).count k)
  constructor
  · exact ((w.raiseOwn_hold c).trans (State.count_link _ k).toHoldFrame).trans (State.deriveMode_hold _)
  · rw [State.deriveMode_ldu honk, State.count_ldu, State.raiseOwn_ldu, State.count_hlu]
  · rw [State.deriveMode_head honk, State.startedHead_held _ hheld, State.count_head, State.raiseOwn_head]
  · rw [State.deriveMode_hlu, State.count_hlu]
  · exact fun p => by rw [State.deriveMode_port, State.count_port]
  · rw [State.deriveMode_cru]
    rfl
  · exact fun d hd => (honly d (modeCounters_disjoint d hd)).trans
      (State.counter_countBy_ne _ _ _ _ (fun he => hraise (he ▸ hd)))
  · exact State.counter_counted (w.raiseOwn_only c) hraise honly hmode

/-- R62, R63, R129, R130: the event of a trip edge on line. -/
theorem State.trip_tripsBy {u : State} (hon : u.onLine = true) (x : Pins) {c : Cause} (hc : c = .estop ∨ c = .inverterFault)
    {k : Counter} (hk : k ∉ raiseCounters ++ modeCounters) :
    u.TripsBy ((({ u with pins := x } : State).tripInverter.raiseOwn c).count k).deriveMode x c k := by
  have hivi := State.tripInverter_ivi { u with pins := x }
  rw [State.tripInverter_eq]
  generalize ({ u with pins := x } : State).tripInverter.ivi = i at hivi
  have hraised := State.raiseOwn_ownRaised { u with pins := x, ivi := i } c
  have hhas := State.raiseOwn_hasOwn { u with pins := x, ivi := i } c
  have hquiet := State.raiseOwn_quiet (s := { u with pins := x, ivi := i }) (c := c)
  have hoffers := State.raiseOwn_offers (s := { u with pins := x, ivi := i }) (c := c)
  have hends := State.raiseOwn_ends (w := { u with pins := x, ivi := i }) hon c hk
  have htripped : modeOf (State.raiseOwn { u with pins := x, ivi := i } c).hlu.entries = .tripped := by
    rcases hc with rfl | rfl
    · exact (modeOf_eq_tripped_iff _).mpr (.inl hhas)
    · exact (modeOf_eq_tripped_iff _).mpr (.inr hhas)
  generalize State.raiseOwn { u with pins := x, ivi := i } c = r at *
  generalize (r.count k).deriveMode = t at hends ⊢
  obtain ⟨hframe, hldu, hhead, hhlu, hport, hcru, hsame, hcounted⟩ := hends
  rw [htripped] at hldu
  refine ⟨hframe.pins, hframe.ivi.trans hivi, hldu, hhlu ▸ hhas, hraised.of_same hhlu hsame, fun h p => ?_, fun hnew hlines p => ?_,
    fun hnew hlines p => ?_, fun hnew hlines hroom => ?_, fun hsingle => ?_, hcounted, hframe.offered, ?_⟩
  · obtain ⟨hports, -⟩ := hquiet h
    exact (hport p).trans (hports p)
  · obtain ⟨hports, hrestored, -⟩ := hoffers hnew hlines
    refine ⟨.of_port fun hup => (hport p).trans ((hports p).trans (if_pos hup)),
      fun rest g hup hother hcheck hq hfull hclass => ?_⟩
    obtain ⟨hdisplaces, -⟩ := LinkPort.afterOffer_full (beq_iff_eq.mp hup) hcheck hq hfull (u.frame 255 (u.holdOf c))
    obtain ⟨-, hcredits⟩ := hdisplaces hclass
    obtain ⟨hloans, hcounter⟩ := hrestored p hup hother
    rw [← hcredits]
    exact ⟨hcru ▸ hloans, (hsame _ (by decide)).trans hcounter⟩
  · obtain ⟨hports, -, -⟩ := hoffers hnew hlines
    refine ⟨fun hroom => ?_, fun hdown => (hport p).trans ((hports p).trans (if_neg (Bool.eq_false_iff.mp hdown)))⟩
    rw [hport p, hports p]
    obtain ⟨hup, -⟩ := (u.hasRoom_iff p).mp hroom
    exact (congrArg LinkPort.localQ (if_pos hup)).trans (State.afterOffer_joined hroom _ _)
  · obtain ⟨-, -, hsent⟩ := hoffers hnew hlines
    exact (hsame _ (by decide)).trans (hsent hroom)
  · obtain ⟨-, hcruQuiet, hsent⟩ := hquiet (.inr hsingle)
    exact ⟨(hsame _ (by decide)).trans hsent, hcru.trans hcruQuiet⟩
  · rw [hframe.pins, hframe.ivi]
    refine hframe.eq.trans ?_
    rw [hhead]

/-- Settles O24: both edges are a trip by their own cause. -/
theorem tripEdgesCutPower : Obligations.TripEdgesCutPower := by
  rintro e s u rfl hon
  have hon' : (s.observe e).onLine = true := hon
  exact ⟨⟨_, congrArg Host.Outcome.next (if_pos hon), State.trip_tripsBy hon' _ (.inl rfl) (by decide)⟩,
    ⟨_, congrArg Host.Outcome.next (if_pos hon), State.trip_tripsBy hon' _ (.inr rfl) (by decide)⟩⟩

end Sys2Proof.Machine
end

section
/-!
PROOFS. The removal of own causes (R64, R101, R133, R140): the list, the timer and the CLEARs of one removal and of several, and the
settlement of O26.
-/

namespace Sys2Proof.Machine

/-! ### The removal of one own cause (R133) -/

theorem LinkFrame.setHlu {s t : State} (h : LinkFrame s t) (x : Hlu) :
    LinkFrame { s with hlu := x } { t with hlu := x } := { h with hlu := rfl }

/-- Frames whose lists may differ, in a row. -/
theorem LinkFrame.transHlu {s t u : State} (h : LinkFrame { s with hlu := t.hlu } t) (k : LinkFrame { t with hlu := u.hlu } u) :
    LinkFrame { s with hlu := u.hlu } u :=
  (h.setHlu u.hlu).trans k

/-- The counters of a removal. -/
def removalCounters : List Counter := [.creditsRestored, .clearsSent, .clearsRefused, .ownCausesRemoved]

/-- The CLEAR of a cause, as a broadcast carries it. -/
def State.clearOf (s : State) (c : Cause) : Payload := .clear (causeCode c) s.originByte

/-- R133: the list and the timer once an own cause has left. -/
def Hlu.without (x : Hlu) (c : Cause) : Hlu where
  entries := x.entries.filter (fun e => !(e.own && e.cause == c))
  refresh := if (x.entries.filter (fun e => !(e.own && e.cause == c))).any (·.own) then x.refresh else none

theorem State.removeOwn_none {s : State} {c : Cause} (h : s.hlu.hasOwn c = false) : s.removeOwn c = s :=
  if_neg (Bool.eq_false_iff.mp h)

/-- R133: a cause that stands leaves the list, and its CLEAR is offered. -/
theorem State.removeOwn_some {s : State} {c : Cause} (h : s.hlu.hasOwn c = true) : s.removeOwn c =
    (({ s with hlu := s.hlu.without c } : State).offerBothCounted (s.clearOf c) .clearsSent .clearsRefused).count
      .ownCausesRemoved :=
  if_pos h

theorem State.removeOwn_hlu {s : State} {c : Cause} (h : s.hlu.hasOwn c = true) : (s.removeOwn c).hlu = s.hlu.without c := by
  rw [State.removeOwn_some h, State.count_hlu, (State.offerBothCounted_link _ _ _ _).hlu]

theorem State.removeOwn_link (s : State) (c : Cause) : LinkFrame { s with hlu := (s.removeOwn c).hlu } (s.removeOwn c) := by
  cases h : s.hlu.hasOwn c with
  | false =>
    rw [State.removeOwn_none h]
  | true =>
    rw [State.removeOwn_hlu h, State.removeOwn_some h]
    exact (State.offerBothCounted_link _ _ _ _).trans (State.count_link _ _)

theorem State.removeOwn_only (s : State) (c : Cause) : CountsOnly removalCounters s (s.removeOwn c) := by
  cases h : s.hlu.hasOwn c with
  | false =>
    rw [State.removeOwn_none h]
    exact .refl s
  | true =>
    rw [State.removeOwn_some h]
    exact ((CountsOnly.of_counters (t := { s with hlu := s.hlu.without c }) rfl).trans
      ((State.offerBothCounted_only _ _ _ _).mono (by decide))).trans (State.count_only (by decide) _)

/-- R133: the CLEAR of a cause that stands is offered at each port whose link is UP. -/
theorem State.removeOwn_port {s : State} {c : Cause} (h : s.hlu.hasOwn c = true) (p : Port) : (s.removeOwn c).port p =
    if s.linkIsUp p then (s.port p).afterOffer (s.frame dstAll (s.clearOf c)) else s.port p := by
  rw [State.removeOwn_some h, State.count_port, State.offerBothCounted_port]
  cases p <;> rfl

/-- R133: the removal of a cause leaves every other. -/
theorem State.removeOwn_hasOwn_ne (s : State) {c d : Cause} (h : d ≠ c) : (s.removeOwn c).hlu.hasOwn d = s.hlu.hasOwn d := by
  unfold Hlu.hasOwn
  rw [State.removeOwn_entries]
  refine any_filter_of_imp _ fun e he => ?_
  obtain ⟨-, hcause⟩ := Bool.and_eq_true_iff.mp he
  rw [eq_of_beq hcause, beq_eq_false_iff_ne.mpr h, Bool.and_false]
  rfl

/-! ### The removal of several own causes (R133) -/

/-- An entry whose own cause is wanted. -/
def HoldEntry.wantedOwn (w : Cause → Bool) (e : HoldEntry) : Bool := e.own && w e.cause

theorem State.removeListed_cons (s : State) (w : Cause → Bool) (e : HoldEntry) (es : List HoldEntry) :
    s.removeListed w (e :: es) =
      if e.wantedOwn w then (s.removeOwn e.cause).removeListed w es else s.removeListed w es := rfl

theorem State.removeListed_link (s : State) (w : Cause → Bool) (es : List HoldEntry) :
    LinkFrame { s with hlu := (s.removeListed w es).hlu } (s.removeListed w es) := by
  induction es generalizing s with
  | nil => exact .refl s
  | cons e rest ih =>
    rw [State.removeListed_cons]
    split
    · exact (s.removeOwn_link e.cause).transHlu (ih _)
    · exact ih s

theorem State.removeListed_only (s : State) (w : Cause → Bool) (es : List HoldEntry) :
    CountsOnly removalCounters s (s.removeListed w es) := by
  induction es generalizing s with
  | nil => exact .refl s
  | cons e rest ih =>
    rw [State.removeListed_cons]
    split
    · exact (s.removeOwn_only e.cause).trans (ih _)
    · exact ih s

/-- R133: where no own cause is wanted nothing is removed. -/
theorem State.removeListed_none {s : State} {w : Cause → Bool} {es : List HoldEntry} (h : es.any (HoldEntry.wantedOwn w) = false) :
    s.removeListed w es = s := by
  induction es with
  | nil => rfl
  | cons e rest ih =>
    obtain ⟨he, hrest⟩ := Bool.or_eq_false_iff.mp ((List.any_cons).symm.trans h)
    rw [State.removeListed_cons, if_neg (Bool.eq_false_iff.mp he), ih hrest]

/-- R133: the list its own members leave. -/
theorem State.removeListed_own_entries (s : State) (w : Cause → Bool) :
    (s.removeListed w s.hlu.entries).hlu.entries = s.hlu.entries.filter (fun e => !e.wantedOwn w) := by
  rw [State.removeListed_entries]
  refine List.filter_congr fun e he => ?_
  unfold HoldEntry.wantedOwn
  cases hown : e.own with
  | false => rfl
  | true =>
    have hmem : s.hlu.entries.any (fun x => x.own && x.cause == e.cause) = true :=
      List.any_eq_true.mpr ⟨e, he, by rw [hown, beq_self_eq_true]; rfl⟩
    rw [hmem, Bool.and_true]

/-- R133: the refresh timer stays, or stops with the last own cause. -/
theorem State.removeListed_refresh (s : State) (w : Cause → Bool) (es : List HoldEntry) :
    (s.removeListed w es).hlu = s.hlu ∨ (s.removeListed w es).hlu.refresh =
      if (s.removeListed w es).hlu.entries.any (·.own) then s.hlu.refresh else none := by
  induction es generalizing s with
  | nil => exact .inl rfl
  | cons e rest ih =>
    rw [State.removeListed_cons]
    split
    · cases h : s.hlu.hasOwn e.cause with
      | false =>
        rw [State.removeOwn_none h]
        exact ih s
      | true =>
        have hfirst := s.removeOwn_refresh e.cause h
        rcases ih (s.removeOwn e.cause) with hsame | hstops
        · rw [hsame]
          exact .inr hfirst
        · refine .inr (hstops.trans ?_)
          split
          · rename_i hlater
            have hsub : ((s.removeOwn e.cause).removeListed w rest).hlu.entries.Sublist (s.removeOwn e.cause).hlu.entries := by
              rw [State.removeListed_entries]
              exact List.filter_sublist
            obtain ⟨x, hx, hown⟩ := List.any_eq_true.mp hlater
            exact hfirst.trans (if_pos (List.any_eq_true.mpr ⟨x, hsub.subset hx, hown⟩))
          · rfl
    · exact ih s

/-- R133: the list and the timer after the wanted own causes of the list were removed. -/
theorem State.removeListed_ownRemoved (s : State) (w : Cause → Bool) :
    s.OwnRemoved (s.removeListed w s.hlu.entries) (HoldEntry.wantedOwn w) := by
  have hentries := s.removeListed_own_entries w
  unfold State.OwnRemoved
  split
  · rename_i hany
    rcases s.removeListed_refresh w s.hlu.entries with hsame | hstops
    · obtain ⟨e, he, hwanted⟩ := List.any_eq_true.mp hany
      rw [hsame] at hentries
      have hkept := (List.filter_eq_self.mp hentries.symm) e he
      rw [hwanted] at hkept
      cases hkept
    · rw [hentries, List.any_filter] at hstops
      rw [← hentries, ← hstops]
  · rename_i hnone
    rw [State.removeListed_none (Bool.eq_false_iff.mpr hnone)]

/-- R133: a port whose link is DOWN gets no CLEAR. -/
theorem State.removeListed_linkDown {s : State} {p : Port} (h : s.linkIsUp p = false) (w : Cause → Bool) (es : List HoldEntry) :
    (s.removeListed w es).port p = s.port p := by
  induction es generalizing s with
  | nil => rfl
  | cons e rest ih =>
    rw [State.removeListed_cons]
    split
    · have hfirst : (s.removeOwn e.cause).port p = s.port p := by
        cases hown : s.hlu.hasOwn e.cause with
        | false => rw [State.removeOwn_none hown]
        | true => rw [State.removeOwn_port hown, if_neg (Bool.eq_false_iff.mp h)]
      have hdown : (s.removeOwn e.cause).linkIsUp p = false := by
        unfold State.linkIsUp
        rw [hfirst]
        exact h
      exact (ih hdown).trans hfirst
    · exact ih h

/-- R133, R158: the CLEARs join the queue of a port with room for all, in the order of the list. -/
theorem State.removeListed_queue {s : State} {p : Port} (w : Cause → Bool) (es : List HoldEntry)
    (hup : (s.port p).link = .up) (hcheck : (s.port p).check ≠ .miswired)
    (hown : ∀ e ∈ es.filter (HoldEntry.wantedOwn w), s.hlu.hasOwn e.cause = true)
    (hnodup : ((es.filter (HoldEntry.wantedOwn w)).map HoldEntry.cause).Nodup)
    (hroom : (s.port p).localQ.length + (es.filter (HoldEntry.wantedOwn w)).length ≤ 8) :
    ((s.removeListed w es).port p).localQ = (es.filter (HoldEntry.wantedOwn w)).foldl
      (fun q e => insertByClass (s.frame dstAll (s.clearOf e.cause)) q) (s.port p).localQ := by
  induction es generalizing s with
  | nil => rfl
  | cons e rest ih =>
    rw [State.removeListed_cons]
    cases hwanted : e.wantedOwn w with
    | false =>
      rw [List.filter_cons_of_neg (Bool.eq_false_iff.mp hwanted)] at hown hnodup hroom ⊢
      exact ih hup hcheck hown hnodup hroom
    | true =>
      rw [List.filter_cons_of_pos hwanted] at hown hnodup hroom ⊢
      rw [if_pos rfl, List.foldl_cons]
      rw [List.map_cons, List.nodup_cons] at hnodup
      rw [List.length_cons] at hroom
      obtain ⟨hfresh, hrest⟩ := hnodup
      have hlink := s.removeOwn_link e.cause
      have hport : (s.removeOwn e.cause).port p = (s.port p).taken (s.port p).localQ (s.frame dstAll (s.clearOf e.cause)) := by
        rw [State.removeOwn_port (hown e List.mem_cons_self), if_pos (show s.linkIsUp p = true from beq_iff_eq.mpr hup),
          LinkPort.afterOffer_room hup hcheck (by omega)]
      have hframe (c : Cause) : (s.removeOwn e.cause).frame dstAll ((s.removeOwn e.cause).clearOf c) =
          s.frame dstAll (s.clearOf c) := by
        rw [hlink.frame]
        unfold State.clearOf
        rw [hlink.originByte]
        rfl
      rw [ih (by rw [hport]; exact hup) (by rw [hport]; exact hcheck) (fun x hx => ?_) hrest
        (by rw [hport]; unfold LinkPort.taken; dsimp only; rw [insertByClass_length]; omega)]
      · simp only [hframe, hport]
        rfl
      · rw [State.removeOwn_hasOwn_ne _ (fun heq : x.cause = e.cause => hfresh (heq ▸ List.mem_map_of_mem hx))]
        exact hown x (List.mem_cons_of_mem e hx)

end Sys2Proof.Machine
end

section
/-!
PROOFS. The trip reset (R64, R101, R140): what its edge counts, the head it resets and the stroke that may follow, and the settlement
of O26.
-/

namespace Sys2Proof.Machine

/-! ### The start of a stroke after an event (R98, R129) -/

theorem State.startedHead_owed (u : State) (es : List HoldEntry) (h : Head) : (u.startedHead es h).owed = h.owed := by
  unfold State.startedHead
  split
  · split <;> rfl
  · rfl

/-- R98: the start is read off the head, the clock, the image and one counter. -/
theorem State.HeadStarts.congr {s u t : State} {h : Head} (hs : s.HeadStarts t h) (hhead : u.isHead = s.isHead) (hnow : u.now = s.now)
    (himg : u.img = s.img) (hcounter : u.counter .pushesStarted = s.counter .pushesStarted) : u.HeadStarts t h := by
  unfold State.HeadStarts
  rw [hhead, hnow, himg, hcounter]
  exact hs

/-- R98, R129: the derivation of the mode starts the stroke of the oldest call. -/
theorem State.deriveMode_headStarts {s : State} (hon : s.onLine = true) : s.HeadStarts s.deriveMode s.head := by
  have hhead := State.deriveMode_head hon
  unfold State.HeadStarts
  rw [State.deriveMode_hlu, hhead]
  refine ⟨fun hstays => ?_, fun hempty hishead hidle n rest hcalls => ?_⟩
  · rcases hstays with hheld | hnothead | hnone | hbusy
    · exact s.startedHead_held hheld _
    · unfold State.startedHead
      split
      · exact if_neg fun hstart => Bool.false_ne_true (hnothead.symm.trans hstart.2.1)
      · rfl
    · exact s.startedHead_of_calls_nil _ _ hnone
    · unfold State.startedHead
      split
      · exact if_neg fun hstart => hbusy hstart.2.2
      · rfl
  · refine ⟨?_, ?_⟩
    · unfold State.startedHead
      rw [hcalls]
      exact if_pos ⟨hempty, hishead, hidle⟩
    · unfold State.deriveMode
      rw [if_pos hon]
      split
      · exact (State.tryStart_starts hon hishead hidle hempty hcalls).2
      · exact ((s.enterMode (modeOf s.hlu.entries)).tryStart_starts (modeOf_online _) hishead hidle hempty hcalls).2.trans
          (congrArg (satAdd · 1) (State.counter_countBy_ne _ _ _ _ (by cases modeOf s.hlu.entries <;> decide)))

/-! ### What the edge counts, and the pusher (R64, R101) -/

theorem State.countTripReset_eq (s : State) : s.countTripReset = { s with counters := s.countTripReset.counters } := by
  unfold State.countTripReset
  split
  · split <;> rfl
  · rfl

/-- R101: the head after a trip reset. -/
def State.resetHead (s : State) : Head :=
  if s.isHead = true ∧ s.head.pusher = .fault then
    { s.head with pusher := .idle, owed := false, lastExecuted := if s.head.owed then none else s.head.lastExecuted }
  else s.head

theorem State.pusherFaulted_iff (s : State) : s.pusherFaulted = true ↔ s.isHead = true ∧ s.head.pusher = .fault := by
  unfold State.pusherFaulted
  rw [Bool.and_eq_true, beq_iff_eq]

theorem State.resetPusher_eq (s : State) :
    s.resetPusher = { s with head := s.resetHead, counters := s.resetPusher.counters } := by
  unfold State.resetPusher State.resetHead
  split
  · rename_i h
    rw [if_pos (s.pusherFaulted_iff.mp h)]
    rfl
  · rename_i h
    rw [if_neg (mt s.pusherFaulted_iff.mpr h)]

theorem State.resetPusher_only (s : State) : CountsOnly [.pusherResets] s s.resetPusher := by
  unfold State.resetPusher
  split
  · exact (CountsOnly.of_counters rfl).trans (State.count_only (by decide) _)
  · exact .refl s

theorem State.resetPusher_counted {s : State} (h : s.isHead = true ∧ s.head.pusher = .fault) :
    s.resetPusher.counter .pusherResets = satAdd (s.counter .pusherResets) 1 := by
  unfold State.resetPusher
  rw [if_pos (s.pusherFaulted_iff.mpr h)]
  exact State.counter_count _ _

/-- R64: what the edge counts. -/
theorem State.countTripReset_only (s : State) : CountsOnly [.tripResets, .tripResetRefused] s s.countTripReset := by
  unfold State.countTripReset
  split
  · split
    · exact State.count_only (by decide) s
    · exact .refl s
  · exact State.count_only (by decide) s

/-- R64: ESTOP or FAULT stands, and the edge is refused at the inverter. -/
theorem State.countTripReset_blocked {s : State} (h : s.pins.estop = true ∨ s.pins.fault = true) :
    s.countTripReset = s.count .tripResetRefused :=
  if_neg (by unfold State.tripClear; rcases h with h | h <;> rw [h] <;> simp)

theorem State.countTripReset_clear {s : State} (hestop : s.pins.estop = false) (hfault : s.pins.fault = false) :
    s.countTripReset = if s.hlu.hasOwn .estop || s.hlu.hasOwn .inverterFault then s.count .tripResets else s :=
  if_pos (by unfold State.tripClear; rw [hestop, hfault]; rfl)

/-! ### The edge (R140) -/

/-- The state of a trip reset before a cause is removed. -/
theorem State.resetTrip_start_eq (s : State) : s.countTripReset.resetPusher =
    { s with head := s.resetHead, counters := s.countTripReset.resetPusher.counters } := by
  rw [State.resetPusher_eq, State.countTripReset_eq]
  rfl

/-- The counters of a trip reset's removals, and of the mode that follows. -/
def resetEndCounters : List Counter := removalCounters ++ modeCounters

/-- What a trip reset does once it is counted and the pusher is reset, from the state before the edge. -/
structure State.ResetEnds (s t : State) : Prop where
  entries : t.hlu.entries = s.hlu.entries.filter (fun e => !e.wantedOwn s.resetRemoves)
  removed : s.OwnRemoved t (HoldEntry.wantedOwn s.resetRemoves)
  queue : ((s.hlu.entries.filter (HoldEntry.wantedOwn s.resetRemoves)).map HoldEntry.cause).Nodup → ∀ p, s.linkIsUp p = true →
    (s.port p).check ≠ .miswired →
    (s.port p).localQ.length + (s.hlu.entries.filter (HoldEntry.wantedOwn s.resetRemoves)).length ≤ 8 →
    (t.port p).localQ = (s.hlu.entries.filter (HoldEntry.wantedOwn s.resetRemoves)).foldl
      (fun q e => insertByClass (s.frame 255 (s.clearOf e.cause)) q) (s.port p).localQ
  linkDown : ∀ p, s.linkIsUp p = false → t.port p = s.port p
  ldu : t.ldu = { s.ldu with state := modeOf t.hlu.entries }
  head : t.head = s.startedHead t.hlu.entries s.resetHead
  starts : s.HeadStarts t s.resetHead
  offered : ∀ p, t.port p = (s.port p).offered (t.port p)
  eq : t = { s with
    ldu := t.ldu, hlu := t.hlu, head := t.head, upPort := t.upPort, downPort := t.downPort, ltr := t.ltr
    counters := t.counters, cru := { s.cru with loans := t.cru.loans } }

theorem State.resetTrip_only (s : State) : CountsOnly resetEndCounters s.countTripReset.resetPusher s.resetTrip :=
  ((State.removeListed_only _ _ _).mono (by decide)).trans ((State.deriveMode_only _).mono (by decide))

theorem State.resetTrip_ends {s : State} (hon : s.onLine = true) : s.ResetEnds s.resetTrip := by
  have hcounted : s.countTripReset.resetPusher.counter .pushesStarted = s.counter .pushesStarted :=
    (State.resetPusher_only _ _ (by decide)).trans (s.countTripReset_only _ (by decide))
  have hstart := s.resetTrip_start_eq
  unfold State.resetTrip
  dsimp only
  generalize s.countTripReset.resetPusher.counters = k at hstart
  rw [hstart] at hcounted ⊢
  have hentries := State.removeListed_own_entries { s with head := s.resetHead, counters := k } s.resetRemoves
  have hremoved := State.removeListed_ownRemoved { s with head := s.resetHead, counters := k } s.resetRemoves
  have hqueue (p : Port) := State.removeListed_queue (s := { s with head := s.resetHead, counters := k }) (p := p) s.resetRemoves
    s.hlu.entries
  have hdown (p : Port) := State.removeListed_linkDown (s := { s with head := s.resetHead, counters := k }) (p := p)
    (w := s.resetRemoves) (es := s.hlu.entries)
  have hlink := State.removeListed_link { s with head := s.resetHead, counters := k } s.resetRemoves s.hlu.entries
  have honly := State.removeListed_only { s with head := s.resetHead, counters := k } s.resetRemoves s.hlu.entries
  have hhold := State.removeListed_hold { s with head := s.resetHead, counters := k } s.resetRemoves s.hlu.entries
  generalize State.removeListed { s with head := s.resetHead, counters := k } s.resetRemoves s.hlu.entries = m at *
  have honm : m.onLine = true := hlink.onLine.trans hon
  have hframe := hhold.trans m.deriveMode_hold
  have hmove (h : Head) : m.startedHead m.hlu.entries h = s.startedHead m.hlu.entries h :=
    State.startedHead_congr hlink.isHead hlink.now hlink.img _ _
  constructor
  · rw [State.deriveMode_hlu]
    exact hentries
  · unfold State.OwnRemoved
    rw [State.deriveMode_hlu]
    exact hremoved
  · intro hnodup p hup hcheck hroom
    rw [State.deriveMode_port]
    refine hqueue p (beq_iff_eq.mp hup) hcheck (fun e he => ?_) hnodup hroom
    obtain ⟨hmem, hwanted⟩ := List.mem_filter.mp he
    obtain ⟨hown, -⟩ := Bool.and_eq_true_iff.mp hwanted
    exact List.any_eq_true.mpr ⟨e, hmem, by rw [hown, beq_self_eq_true]; rfl⟩
  · exact fun p h => (m.deriveMode_port p).trans (hdown p h)
  · rw [State.deriveMode_ldu honm, State.deriveMode_hlu, hlink.ldu]
  · rw [State.deriveMode_head honm, State.deriveMode_hlu, hlink.head, hmove]
  · have hstarts := State.deriveMode_headStarts honm
    rw [hlink.head] at hstarts
    exact hstarts.congr hlink.isHead.symm hlink.now.symm hlink.img.symm (((honly _ (by decide)).trans hcounted).symm)
  · exact hframe.offered
  · exact hframe.eq

/-- A trip reset leaves the inverter. -/
theorem State.resetTrip_ivi {s : State} (hon : s.onLine = true) : s.resetTrip.ivi = s.ivi := by
  rw [(State.resetTrip_ends hon).eq]

/-- What the edge removes, by the pins and the pusher it finds. -/
theorem State.wantedOwn_resetRemoves (s : State) : HoldEntry.wantedOwn s.resetRemoves = fun x => x.own &&
    (((x.cause == .estop || x.cause == .inverterFault) && !s.pins.estop && !s.pins.fault) ||
      (x.cause == .pusherFault && s.isHead && s.head.pusher == .fault)) := by
  funext x
  refine congrArg (x.own && ·) ?_
  cases x.cause <;> simp [State.resetRemoves, State.tripClear, State.pusherFaulted]

/-- R64: what the edge counts at the inverter and at the pusher. -/
theorem State.resetTrip_tripResets (s : State) {c : Counter} (hc : c = .tripResets ∨ c = .tripResetRefused) :
    s.resetTrip.counter c = s.countTripReset.counter c := by
  have hend : c ∉ resetEndCounters := by rcases hc with rfl | rfl <;> decide
  have hpusher : c ∉ [Counter.pusherResets] := by rcases hc with rfl | rfl <;> decide
  exact (s.resetTrip_only c hend).trans (State.resetPusher_only _ c hpusher)

theorem State.resetTrip_blocked {s : State} (h : s.pins.estop = true ∨ s.pins.fault = true) :
    s.resetTrip.counter .tripResetRefused = satAdd (s.counter .tripResetRefused) 1 ∧
    s.resetTrip.counter .tripResets = s.counter .tripResets := by
  rw [s.resetTrip_tripResets (.inl rfl), s.resetTrip_tripResets (.inr rfl), State.countTripReset_blocked h]
  exact ⟨State.counter_count _ _, State.counter_countBy_ne _ _ _ _ (by decide)⟩

theorem State.resetTrip_clear {s : State} (hestop : s.pins.estop = false) (hfault : s.pins.fault = false) :
    s.resetTrip.counter .tripResetRefused = s.counter .tripResetRefused ∧
    s.resetTrip.counter .tripResets =
      satAdd (s.counter .tripResets) (if s.hlu.hasOwn .estop || s.hlu.hasOwn .inverterFault then 1 else 0) := by
  rw [s.resetTrip_tripResets (.inl rfl), s.resetTrip_tripResets (.inr rfl), State.countTripReset_clear hestop hfault]
  split
  · exact ⟨State.counter_countBy_ne _ _ _ _ (by decide), State.counter_count _ _⟩
  · exact ⟨rfl, (satAdd_zero _).symm⟩

/-- R101: the pusher's reset is counted, and nothing is owed any more. -/
theorem State.resetTrip_pusher {s : State} (hon : s.onLine = true) (h : s.isHead = true ∧ s.head.pusher = .fault) :
    s.resetTrip.counter .pusherResets = satAdd (s.counter .pusherResets) 1 ∧ s.resetTrip.head.owed = false := by
  have hfaulted : s.countTripReset.isHead = true ∧ s.countTripReset.head.pusher = .fault := by
    rw [State.countTripReset_eq]
    exact h
  have hcounted := (s.resetTrip_only .pusherResets (by decide)).trans (State.resetPusher_counted hfaulted)
  rw [s.countTripReset_only _ (by decide)] at hcounted
  refine ⟨hcounted, ?_⟩
  rw [(State.resetTrip_ends hon).head, State.startedHead_owed]
  exact congrArg Head.owed (if_pos h)

/-- Settles O26: the edge, as the removal of the causes that its conditions allow. -/
theorem tripResetRemovesOwnCauses : Obligations.TripResetRemovesOwnCauses := by
  rintro e s u gone rfl hon hgone
  rw [hgone.trans (State.wantedOwn_resetRemoves ((s.observe e).setTripReset true)).symm]
  have honv : ((s.observe e).setTripReset true).onLine = true := hon
  obtain ⟨hentries, hremoved, hqueue, hdown, hldu, -, hstarts, hoffered, heq⟩ := State.resetTrip_ends honv
  have hblocked := State.resetTrip_blocked (s := (s.observe e).setTripReset true)
  have hclear := State.resetTrip_clear (s := (s.observe e).setTripReset true)
  exact ⟨_, congrArg Host.Outcome.next (if_pos hon), hentries, hremoved, hqueue, hdown, hldu, State.resetTrip_ivi honv, hblocked, hclear,
    fun hishead hfaulted => State.resetTrip_pusher honv ⟨hishead, hfaulted⟩, fun _ hh => hh ▸ hstarts, hoffered, heq⟩

end Sys2Proof.Machine
end

section
/-!
PROOFS. The demand of a period end and its latch (R47 to R61): the sum of the rates, the items that a period end leaves, and the
settlement of O32 and O33.
-/

namespace Sys2Proof.Machine

/-! ### Counts under a condition -/

theorem State.counter_countIf (s : State) (p : Prop) [Decidable p] (c : Counter) :
    (if p then s.count c else s).counter c = satAdd (s.counter c) (if p then 1 else 0) := by
  split
  · exact State.counter_count s c
  · exact (satAdd_zero _).symm

theorem State.counter_countIf_ne (s : State) (p : Prop) [Decidable p] {c d : Counter} (h : c ≠ d) :
    (if p then s.count c else s).counter d = s.counter d := by
  split
  · exact State.counter_countBy_ne s c d 1 h
  · rfl

/-- R65: what a demand counts of its credits and of its ramp. -/
theorem State.countDemand_counters (s : State) (x : Pdu) :
    (s.countDemand x).counter .creditClampedPeriods =
      satAdd (s.counter .creditClampedPeriods) (if x.creditClamped then 1 else 0) ∧
    (s.countDemand x).counter .rampLimitedPeriods =
      satAdd (s.counter .rampLimitedPeriods) (if x.pNext < min x.pDem x.pAvail then 1 else 0) := by
  unfold State.countDemand
  dsimp only
  constructor
  · rw [State.counter_countIf_ne _ _ (by decide), State.counter_countIf_ne _ _ (by decide), State.counter_countIf]
  · rw [State.counter_countIf, State.counter_countIf_ne _ _ (by decide), State.counter_countIf_ne _ _ (by decide)]

/-! ### The plan (R48 to R51) -/

/-- R51: the plan from a slot on, as a sum over the slots that follow. -/
theorem State.planFrom_eq_sum (s : State) (k i : Nat) (slots : List Slot) : s.planFrom k i slots =
    ((List.range slots.length).map fun j => s.rate k (i + j) slots[j]?.join).sum := by
  induction slots generalizing i with
  | nil => rfl
  | cons x rest ih =>
    unfold State.planFrom
    rw [ih, List.length_cons, List.range_succ_eq_map, List.map_cons, List.sum_cons, List.map_map]
    refine congrArg₂ (· + ·) rfl (congrArg List.sum (List.map_congr_left fun j _ => ?_))
    show s.rate k (i + 1 + j) rest[j]?.join = s.rate k (i + (j + 1)) rest[j]?.join
    rw [Nat.add_right_comm, Nat.add_assoc]

/-- R51: E_plan adds the rates of the slots. -/
theorem State.plan_eq_sum (s : State) : s.plan =
    ((List.range s.cq.slots.length).map fun i => s.rate s.cq.slots.length i s.cq.slots[i]?.join).sum := by
  unfold State.plan
  rw [State.planFrom_eq_sum]
  simp only [Nat.zero_add]

/-! ### What a period end leaves of the demand (R47 to R61) -/

/-- R24: the state at which a period end computes its demand. -/
def State.accounted (s : State) : State := s.nextPeriod.account

theorem State.accounted_eq (s : State) : s.accounted = { s with
    cq := { s.cq with slots := s.updatedSlots s.periodPool }
    tau := { s.tau with
      periodStart := s.tau.periodStart.map (after · 100), residue := s.leftOver s.periodPool, sample := s.feedbackSample }
    counters := s.accounted.counters } := by
  unfold State.accounted
  rw [State.account_eq]
  rfl

/-- R57, R61: the latch of a demand. -/
def State.latchOf (s : State) (x : Pdu) : Ivi :=
  { buffer := x.pNext, bufferMark := x.creditClamped, latched := x.pNext, latchedMark := x.creditClamped
    inForce := if s.mayDrive then x.pNext else 0, enable := s.mayDrive
    notReady := if s.pins.ready then false else if s.pins.fault then s.ivi.notReady else true }

/-- R47 to R61: the demand, the credits it needs, and the latch. -/
theorem State.demanded_items (s : State) : s.demanded.pdu = s.demandItems ∧
    s.demanded.cru.need = some (s.img.creditsFor s.demandItems.pDem) ∧ s.demanded.ivi = s.latchOf s.demandItems := by
  obtain ⟨hframe, -⟩ := s.computeDemand.reevaluate_leaves
  have hpdu : s.computeDemand.reevaluate.pdu = s.demandItems := by
    rw [State.reevaluate_pdu, State.computeDemand_eq]
  have hpower := s.computeDemand.reevaluate_power
  have hframe' := s.computeDemand_frame.toPeriodFrame.trans hframe.toPeriodFrame
  have hivi : s.computeDemand.reevaluate.ivi = s.ivi := by
    rw [hpower.ivi, State.computeDemand_eq]
  have hneed : s.computeDemand.reevaluate.cru.need = some (s.img.creditsFor s.demandItems.pDem) := by
    rw [hpower.need, State.computeDemand_eq]
  unfold State.demanded
  rw [State.countNotReady_eq]
  refine ⟨hpdu, hneed, ?_⟩
  unfold State.latchSetpoint State.latchOf State.mayDrive
  dsimp only
  rw [hpdu, hivi, hframe'.ldu, hframe'.pins]

/-- R105: the tail's check leaves the demand. -/
theorem State.tailAfterPeriod_pdu (s : State) : s.tailAfterPeriod.pdu = s.pdu := by
  have hpreview : s.preview.pdu = s.pdu := by
    unfold State.preview
    split <;> rfl
  unfold State.tailAfterPeriod
  split
  · exact (State.callCheck_call s.preview).pdu.trans hpreview
  · rfl

/-- R24, R47 to R61: what a period end leaves of the demand and the latch. -/
theorem State.endPeriod_items (s : State) : s.endPeriod.pdu = s.accounted.demandItems ∧
    s.endPeriod.cru.need = some (s.img.creditsFor s.accounted.demandItems.pDem) ∧
    s.endPeriod.ivi = s.latchOf s.accounted.demandItems ∧ s.endPeriod.cq.slots = s.accounted.cq.slots := by
  obtain ⟨hpdu, hneed, hivi⟩ := s.accounted.demanded_items
  have hpower := s.accounted.demanded.tailAfterPeriod_power
  obtain ⟨-, hcq, -⟩ := s.endPeriod_leaves
  have himg : s.accounted.img = s.img := s.accounted_frame.img
  have hlatch (x : Pdu) : s.accounted.latchOf x = s.latchOf x := by
    rw [State.accounted_eq]
    rfl
  refine ⟨(State.tailAfterPeriod_pdu _).trans hpdu, ?_, ?_, ?_⟩
  · rw [← himg]
    exact hpower.need.trans hneed
  · rw [← hlatch]
    exact hpower.ivi.trans hivi
  · exact congrArg CoilQueue.slots (hcq.trans s.accounted.demanded_frame.cq)

/-- R61, R69, R105: after its demand a period end counts the canvass, a period that was not ready, and a call. -/
theorem State.endPeriod_after_demand (s : State) :
    CountsOnly (reevaluateCounters ++ [.notReadyPeriods] ++ callCheckCounters) s.accounted.computeDemand s.endPeriod := by
  obtain ⟨-, honly, -⟩ := s.accounted.computeDemand.reevaluate_leaves
  obtain ⟨-, -, -, hcheck⟩ := s.endPeriod_leaves
  have hlatched : CountsOnly [.notReadyPeriods] s.accounted.computeDemand.reevaluate s.periodClosed :=
    (State.countNotReady_only _).trans (.of_counters rfl)
  exact ((honly.mono (by decide)).trans (hlatched.mono (by decide))).trans (hcheck.mono (by decide))

theorem State.accounted_only (s : State) : CountsOnly (sampleCounters ++ distributeCounters) s s.accounted :=
  (CountsOnly.of_counters (t := s.nextPeriod) rfl).trans s.nextPeriod.account_only

theorem State.computeDemand_counter (s : State) (c : Counter) :
    s.computeDemand.counter c = (s.countDemand s.demandItems).counter c := by
  rw [State.computeDemand_eq]
  rfl

/-- R65: what a period end counts of its demand. -/
theorem State.endPeriod_demandCounters (s : State) :
    s.endPeriod.counter .creditClampedPeriods = satAdd (s.counter .creditClampedPeriods)
      (if s.accounted.demandItems.creditClamped then 1 else 0) ∧
    s.endPeriod.counter .rampLimitedPeriods = satAdd (s.counter .rampLimitedPeriods)
      (if s.accounted.demandItems.pNext < min s.accounted.demandItems.pDem s.accounted.demandItems.pAvail then 1 else 0) := by
  obtain ⟨hcredit, hramp⟩ := s.accounted.countDemand_counters s.accounted.demandItems
  rw [← State.computeDemand_counter, s.accounted_only _ (by decide)] at hcredit hramp
  exact ⟨(s.endPeriod_after_demand _ (by decide)).trans hcredit, (s.endPeriod_after_demand _ (by decide)).trans hramp⟩

/-- R61: a period that was not ready is counted. -/
theorem State.endPeriod_notReadyPeriods (s : State) :
    s.endPeriod.counter .notReadyPeriods = satAdd (s.counter .notReadyPeriods) (if s.ivi.notReady then 1 else 0) := by
  obtain ⟨-, honly, -⟩ := s.accounted.computeDemand.reevaluate_leaves
  obtain ⟨-, -, -, hcheck⟩ := s.endPeriod_leaves
  have hivi : s.accounted.computeDemand.reevaluate.ivi = s.ivi := by
    rw [(State.reevaluate_power _).ivi, State.computeDemand_eq, State.accounted_eq]
  have hbefore : s.accounted.computeDemand.reevaluate.counter .notReadyPeriods = s.counter .notReadyPeriods :=
    ((honly _ (by decide)).trans (State.computeDemand_only _ _ (by decide))).trans (s.accounted_only _ (by decide))
  have hcounted := s.accounted.computeDemand.reevaluate.counter_countIf
    (s.accounted.computeDemand.reevaluate.ivi.notReady = true) .notReadyPeriods
  rw [hbefore, hivi] at hcounted
  refine (hcheck _ (by decide)).trans (Eq.trans ?_ hcounted)
  rw [← hivi]
  rfl

/-! ### The settlement -/

theorem exec_periodEnd_eq {e : Env} {s : State} (h : (s.observe e).periodDue = true) :
    exec (.periodEnd e) s = .next (s.observe e).endPeriod :=
  congrArg Host.Outcome.next (if_pos h)

theorem State.mayDrive_iff (s : State) :
    s.mayDrive = true ↔ (s.ldu.state = .run ∨ s.ldu.state = .hold) ∧ s.pins.ready = true := by
  simp [State.mayDrive]

/-- R57, R61: the latch, by the state and the lines it reads. -/
theorem State.latchOf_eq (s : State) (x : Pdu) : s.latchOf x =
    { buffer := x.pNext, bufferMark := x.creditClamped, latched := x.pNext, latchedMark := x.creditClamped
      inForce := if (s.ldu.state = .run ∨ s.ldu.state = .hold) ∧ s.pins.ready = true then x.pNext else 0
      enable := decide ((s.ldu.state = .run ∨ s.ldu.state = .hold) ∧ s.pins.ready = true)
      notReady := if s.pins.ready then false else if s.pins.fault then s.ivi.notReady else true } := by
  unfold State.latchOf
  rw [if_congr s.mayDrive_iff rfl rfl, Bool.eq_iff_iff.mpr (s.mayDrive_iff.trans decide_eq_true_iff.symm)]

/-- R47 to R54: what the demand of a period end reads besides the records stands as before the accounting. -/
theorem State.accounted_reads (s : State) : s.accounted.img = s.img ∧ s.accounted.pos = s.pos ∧ s.accounted.cru = s.cru ∧
    s.accounted.ivi = s.ivi ∧ s.accounted.tau.trim = s.tau.trim ∧ s.accounted.ownTarget = s.ownTarget ∧
    s.accounted.periodsLeft = s.periodsLeft ∧ s.accounted.cq.slots.length = s.cq.slots.length := by
  rw [State.accounted_eq]
  exact ⟨rfl, rfl, rfl, rfl, rfl, rfl, rfl, s.updatedSlots_length _⟩

/-- R48 to R51: the plan of a period end, over the records as updated. -/
theorem State.accounted_plan (s : State) : s.accounted.plan = ((List.range s.cq.slots.length).map fun i =>
    (s.accounted.cq.slots[i]?.join).elim 0 fun r =>
      ceilDiv (needOf s.ownTarget r) (s.periodsLeft s.cq.slots.length i)).sum := by
  obtain ⟨-, -, -, -, -, htarget, hleft, hlength⟩ := s.accounted_reads
  rw [State.plan_eq_sum, hlength]
  refine congrArg List.sum (List.map_congr_left fun i _ => ?_)
  cases s.accounted.cq.slots[i]?.join with
  | none => rfl
  | some r =>
    unfold State.rate
    rw [htarget, hleft]
    rfl

/-- R52: the demand of a period end, from its plan. -/
theorem State.accounted_demand (s : State) : s.accounted.demand =
    min (if s.accounted.guarded then
        min (ceilDiv (s.accounted.plan * 256) (s.img.etaEff s.pos s.tau.trim)) s.img.guardPower
      else ceilDiv (s.accounted.plan * 256) (s.img.etaEff s.pos s.tau.trim)) (s.img.pMax.get s.pos) := by
  obtain ⟨himg, hpos, -, -, htrim, -⟩ := s.accounted_reads
  unfold State.demand State.rawDemand
  rw [himg, hpos, htrim]

/-- R54: what the credits of a period end allow. -/
theorem State.accounted_available (s : State) :
    s.accounted.available = (s.cru.base + s.cru.loans) * (s.img.creditKw * 10) := by
  obtain ⟨himg, -, hcru, -⟩ := s.accounted_reads
  unfold State.available Cru.held
  rw [himg, hcru]

/-- R52: the guard of a period end. -/
theorem State.accounted_guarded (s : State) : s.accounted.guarded =
    s.accounted.cq.slots.any (fun x => x.any (fun r => decide (s.img.guardTemp ≤ r.surface s.img))) := by
  obtain ⟨himg, -⟩ := s.accounted_reads
  unfold State.guarded
  rw [himg]

/-- Settles O32: the period end's demand is that of the state its accounting leaves. -/
theorem demandIsLatchedAtTheBoundary : Obligations.DemandIsLatchedAtTheBoundary := by
  rintro e s u rfl hdue
  obtain ⟨hpdu, hneed, hivi, hslots⟩ := (s.observe e).endPeriod_items
  obtain ⟨hcredit, -⟩ := (s.observe e).endPeriod_demandCounters
  refine ⟨_, exec_periodEnd_eq hdue, ?_⟩
  rw [hpdu, hneed, hivi, hslots, hcredit, State.latchOf_eq]
  refine ⟨fun targets htargets => ?_, State.accounted_guarded _, State.accounted_demand _, rfl, State.accounted_available _, rfl, rfl,
    rfl, State.endPeriod_notReadyPeriods _⟩
  have htarget : (s.observe e).ownTarget = targets.get s.pos := congrArg (fun x => x.elim 0 fun v => v.get s.pos) htargets
  refine (State.accounted_plan _).trans (congrArg List.sum (List.map_congr_left fun i _ => ?_))
  rw [htarget]
  rcases (s.observe e).accounted.cq.slots[i]? with _ | _ | r <;> rfl

/-- R55: the ramp, by what the setpoint in force is to its target. -/
theorem rampTo_of_lt {target prev : Nat} (h : prev < target) (ramp : Nat) : rampTo target prev ramp = min target (prev + ramp) :=
  if_pos h

theorem rampTo_of_le {target prev : Nat} (h : target ≤ prev) (ramp : Nat) : rampTo target prev ramp = target :=
  if_neg (Nat.not_lt.mpr h)

/-- Settles O33: the setpoint rises to its target by at most the ramp, and falls to it at once. -/
theorem rampLimitsTheRise : Obligations.RampLimitsTheRise := by
  rintro e s u rfl hdue
  obtain ⟨hpdu, -⟩ := (s.observe e).endPeriod_items
  obtain ⟨-, hramp⟩ := (s.observe e).endPeriod_demandCounters
  obtain ⟨himg, hpos, -, hivi, -⟩ := (s.observe e).accounted_reads
  obtain ⟨hdemand, havailable, hrating⟩ := (s.observe e).accounted.demandItems_bounds
  have hnext : (s.observe e).accounted.demandItems.pNext = rampTo
      (min (s.observe e).accounted.demandItems.pDem (s.observe e).accounted.demandItems.pAvail) s.ivi.inForce s.img.ramp := by
    show rampTo _ (s.observe e).accounted.ivi.inForce (s.observe e).accounted.img.ramp = _
    rw [hivi, himg]
    rfl
  rw [himg, hpos] at hrating
  refine ⟨_, exec_periodEnd_eq hdue, ?_⟩
  rw [hpdu, hramp]
  refine ⟨congrArg Ivi.inForce hivi, fun hrises => ⟨hnext.trans (rampTo_of_lt hrises _), rfl⟩, fun hfalls => ?_, hdemand, havailable,
    hrating⟩
  have hreached := hnext.trans (rampTo_of_le hfalls _)
  exact ⟨hreached, by rw [if_neg (by rw [hreached]; exact Nat.lt_irrefl _)]; exact satAdd_zero _⟩

end Sys2Proof.Machine
end

section
/-!
PROOFS. The close of a canvass (R75, R76), the ends of its waits (R77), and the settlement of O40.
-/

namespace Sys2Proof.Machine

/-- R75, R76: a canvass that closes leaves no tracker, and a wait where the station is still short. -/
theorem State.closeCanvass_eq (s : State) (c : Canvass) (why : Counter) : s.closeCanvass c why =
    if s.cru.need.getD 0 ≤ s.cru.base + s.cru.loans then { s.count why with cru := { s.cru with tracker := none } }
    else if c.conflict then
      { (s.count why).count .backoffs with
        cru := { s.cru with tracker := none, backoff := some (after s.now ((s.pos.val + 1) * s.img.backoffUnit)) } }
    else
      { (s.count why).count .recanvassWaits with
        cru := { s.cru with tracker := none, recanvass := some (after s.now s.img.recanvassInterval) } } := by
  unfold State.closeCanvass State.judgeClose Cru.short
  by_cases henough : s.cru.need.getD 0 ≤ s.cru.base + s.cru.loans
  · have hkept : ¬ decide (s.cru.held < s.cru.needed) = true := by
      rw [decide_eq_true_iff]
      exact Nat.not_lt.mpr henough
    rw [if_pos henough]
    exact if_neg hkept
  · have hshort : decide (s.cru.held < s.cru.needed) = true := decide_eq_true (Nat.lt_of_not_le henough)
    rw [if_neg henough]
    refine (if_pos hshort).trans ?_
    split <;> rfl

/-- R75: the canvass whose deadline has come. -/
theorem State.canvassDue_of_reached {s : State} {c : Canvass} (htracker : s.cru.tracker = some c)
    (hdue : reached s.now c.deadline = true) : s.canvassDue = some c := by
  unfold State.canvassDue
  rw [htracker, Option.filter_some, if_pos hdue]

/-- Settles O40: the deadline closes its canvass, and the expiry of a wait stops its timer. -/
theorem canvassDeadlineAndWaits : Obligations.CanvassDeadlineAndWaits := by
  rintro e s u rfl
  refine ⟨fun c htracker hdue => ?_, fun hdue => congrArg Host.Outcome.next (if_pos hdue),
    fun hdue => congrArg Host.Outcome.next (if_pos hdue)⟩
  have hcanvass : (s.observe e).canvassDue = some c := State.canvassDue_of_reached htracker hdue
  have hcloses : exec (.canvassDeadlineExpiry e) s = .next ((s.observe e).closeCanvass c .canvassTimeouts) := by
    show execCanvassDeadlineExpiry e s = _
    simp only [execCanvassDeadlineExpiry, hcanvass]
  rw [hcloses, State.closeCanvass_eq]
  rfl

end Sys2Proof.Machine
end

section
/-!
PROOFS. A complete frame that a station on line takes (R148 to R157): the state its unit acts on, what the router then leaves of the
unit's result, and what the Link Trace is offered.
-/

namespace Sys2Proof.Machine

/-! ### The port of arrival (R148, R150, R154) -/

/-- The port of arrival once a complete frame has been taken there, before its frame end is kept. -/
def LinkPort.heard (x : LinkPort) (now : Time) : LinkPort :=
  { (x.countBy .framesGood 1).countBy .framesConsumed 1 with
    errorRun := 0, silence := some (after now 2), receiver := .hunting }

/-- A complete frame has been taken at a port, before its unit or the router acts. -/
def State.heard (s : State) (p : Port) : State := s.setPort p ((s.port p).heard s.now)

/-- A frame addressed to this station has been taken and its frame end kept, before its unit acts. -/
def State.consumed (s : State) (p : Port) (f : Frame) : State :=
  ((s.heard p).traceAction p .consumed (viewOfFrame f)).endReceive p

/-- A copy of the frame goes on to the other port, and its frame end is kept. -/
def State.passOn (s : State) (p : Port) (f : Frame) : State := (s.carry p f true).endReceive p

/-- The frame that a command gives. -/
def arrivedFrame (a : Arrival) (x : Payload) : Frame := { src := a.src, dst := a.dst, payload := x }

theorem State.admits_iff (s : State) (a : Arrival) (x : Payload) : s.admits a x = true ↔
    s.linkIsUp a.port = true ∧ s.onLine = true ∧ (s.port a.port).check ≠ .miswired ∧ headerOk a.port (arrivedFrame a x) = true := by
  simp [State.admits, arrivedFrame, and_assoc]

/-- R148, R150, R152: a complete frame that is admitted reaches the router. -/
theorem State.frameArrives_admitted {s : State} {a : Arrival} {x : Payload} (h : s.admits a x = true) :
    s.frameArrives a x =
      (((s.noteValid a.port).setReceiver a.port .hunting).portCount a.port .framesGood).route a.port (arrivedFrame a x) := by
  obtain ⟨hup, -, -, hheader⟩ := (s.admits_iff a x).mp h
  unfold State.frameArrives State.receiveFrame
  rw [if_pos hup]
  exact if_pos hheader

theorem State.heard_eq (s : State) (p : Port) :
    (((s.noteValid p).setReceiver p .hunting).portCount p .framesGood).portCount p .framesConsumed = s.heard p := by
  cases p <;> rfl

/-- R154: at a station on line a frame addressed to it is consumed, at a port that is not MISWIRED. -/
theorem State.disposition_addressed {s : State} {p : Port} {f : Frame} (hon : s.onLine = true)
    (hcheck : (s.port p).check ≠ .miswired) (hpath : kindPath (frameKind f) = .addressed) (hdst : f.dst = s.originByte) :
    s.disposition p f = .consume := by
  unfold State.disposition
  rw [if_neg (fun h => hcheck h.1), if_pos hon, hpath]
  exact if_pos hdst

/-- R154: at a station on line a broadcast is copied. -/
theorem State.disposition_broadcast {s : State} {p : Port} {f : Frame} (hon : s.onLine = true)
    (hcheck : (s.port p).check ≠ .miswired) (hpath : kindPath (frameKind f) = .broadcast) : s.disposition p f = .copy := by
  unfold State.disposition
  rw [if_neg (fun h => hcheck h.1), if_pos hon, hpath]

/-- What the router reads of a port and of the station as a complete frame arrives. -/
theorem State.arriving_reads (s : State) (p : Port) (f : Frame) :
    (((s.noteValid p).setReceiver p .hunting).portCount p .framesGood).disposition p f = s.disposition p f := by
  cases p <;> rfl

/-- R154: an admitted frame addressed to this station goes to its unit. -/
theorem State.frameArrives_consumed {s : State} {a : Arrival} {x : Payload} (h : s.admits a x = true)
    (hpath : kindPath (payloadKind x) = .addressed) (hdst : a.dst = s.originByte) :
    s.frameArrives a x = (s.consumed a.port (arrivedFrame a x)).unitTakes a.port (arrivedFrame a x) := by
  obtain ⟨-, hon, hcheck, -⟩ := (s.admits_iff a x).mp h
  have hconsume := State.disposition_addressed (f := arrivedFrame a x) hon hcheck hpath hdst
  rw [State.frameArrives_admitted h]
  unfold State.route
  rw [State.arriving_reads, hconsume]
  dsimp only
  rw [State.heard_eq]
  rfl

/-- R154, R155: the copy of an admitted broadcast goes to its unit, and then on. -/
theorem State.frameArrives_copied {s : State} {a : Arrival} {x : Payload} (h : s.admits a x = true)
    (hpath : kindPath (payloadKind x) = .broadcast) :
    s.frameArrives a x = ((s.heard a.port).unitTakes a.port (arrivedFrame a x)).passOn a.port (arrivedFrame a x) := by
  obtain ⟨-, hon, hcheck, -⟩ := (s.admits_iff a x).mp h
  have hcopy := State.disposition_broadcast (f := arrivedFrame a x) hon hcheck hpath
  rw [State.frameArrives_admitted h]
  unfold State.route
  rw [State.arriving_reads, hcopy]
  dsimp only
  rw [State.heard_eq]
  rfl

/-! ### What the router leaves (R154 to R157) -/

/-- The counters of a port that offers to its local queue move (R158, R159). -/
def offerCounters : List PortCounter := [.localTaken, .localRefused, .localDisplaced]

/-- All that the router changes over a complete frame: at the ports what reception keeps, the forward queues, and counters that no
offer moves; and the trace. -/
structure State.RouterFrame (s t : State) : Prop where
  rest : t = { s with upPort := t.upPort, downPort := t.downPort, ltr := t.ltr }
  port : ∀ p, t.port p = { s.port p with
    errorRun := (t.port p).errorRun, silence := (t.port p).silence, receiver := (t.port p).receiver
    recvEnd := (t.port p).recvEnd, forward := (t.port p).forward, counters := (t.port p).counters }
  offers : ∀ p, ∀ c ∈ offerCounters, t.portCounter p c = s.portCounter p c

theorem State.RouterFrame.trans {s t u : State} (h : RouterFrame s t) (k : RouterFrame t u) : RouterFrame s u where
  rest := k.rest.trans (by rw [h.rest])
  port p := (k.port p).trans (by rw [h.port p])
  offers p c hc := (k.offers p c hc).trans (h.offers p c hc)

/-- One port is received at or carries on, and the trace is offered the frame. -/
theorem State.RouterFrame.of_setPort {s : State} {p : Port} {x : LinkPort} (l : Ltr)
    (hport : x = { s.port p with
      errorRun := x.errorRun, silence := x.silence, receiver := x.receiver, recvEnd := x.recvEnd, forward := x.forward
      counters := x.counters })
    (hoffers : ∀ c ∈ offerCounters, x.counters.get c.idx = (s.port p).counters.get c.idx) :
    RouterFrame s { s.setPort p x with ltr := l } := by
  cases p
  · exact ⟨rfl, fun | .up => hport | .down => rfl, fun | .up => hoffers | .down => fun _ _ => rfl⟩
  · exact ⟨rfl, fun | .up => rfl | .down => hport, fun | .up => fun _ _ => rfl | .down => hoffers⟩

theorem LinkPort.countBy_notOffer (x : LinkPort) {c : PortCounter} (h : c ∉ offerCounters) :
    ∀ d ∈ offerCounters, (x.countBy c 1).counters.get d.idx = x.counters.get d.idx :=
  fun _ hd => x.countBy_ne 1 (fun he => h (he ▸ hd))

theorem LinkPort.heard_offers (x : LinkPort) (now : Time) :
    ∀ d ∈ offerCounters, (x.heard now).counters.get d.idx = x.counters.get d.idx := fun d hd =>
  (LinkPort.countBy_notOffer _ (by decide) d hd).trans (x.countBy_notOffer (by decide) d hd)

theorem State.heard_frame (s : State) (p : Port) : RouterFrame s (s.heard p) := by
  have heq : s.heard p = { s.setPort p ((s.port p).heard s.now) with ltr := s.ltr } := by cases p <;> rfl
  rw [heq]
  exact .of_setPort _ rfl ((s.port p).heard_offers s.now)

theorem State.consumed_eq (s : State) (p : Port) (f : Frame) : s.consumed p f =
    { s.setPort p { (s.port p).heard s.now with recvEnd := some s.micros } with
      ltr := (s.traceAction p .consumed (viewOfFrame f)).ltr } := by
  cases p <;> rfl

theorem State.consumed_frame (s : State) (p : Port) (f : Frame) : RouterFrame s (s.consumed p f) := by
  rw [State.consumed_eq]
  exact .of_setPort _ rfl ((s.port p).heard_offers s.now)

/-- R155, R157: what going on leaves of the onward port. -/
theorem State.carry_onward_frame (s : State) (p : Port) (f : Frame) (copied : Bool) :
    (s.carry p f copied).port p.other = { s.port p.other with
      forward := ((s.carry p f copied).port p.other).forward, counters := ((s.carry p f copied).port p.other).counters } ∧
    ∀ c ∈ offerCounters, ((s.carry p f copied).port p.other).counters.get c.idx = (s.port p.other).counters.get c.idx := by
  rw [State.carry_onward]
  split
  · split
    · exact ⟨rfl, LinkPort.countBy_notOffer _ (by decide)⟩
    · exact ⟨rfl, LinkPort.countBy_notOffer _ (by decide)⟩
  · split
    · exact ⟨rfl, LinkPort.countBy_notOffer _ (by decide)⟩
    · exact ⟨rfl, fun _ _ => rfl⟩

theorem State.carry_frame (s : State) (p : Port) (f : Frame) (copied : Bool) : RouterFrame s (s.carry p f copied) := by
  obtain ⟨hport, hoffers⟩ := s.carry_onward_frame p f copied
  rw [State.carry_eq]
  generalize (s.carry p f copied).port p.other = x at hport hoffers
  exact .of_setPort _ (by rw [hport]) hoffers

theorem State.endReceive_frame (s : State) (p : Port) : RouterFrame s (s.endReceive p) := by
  have heq : s.endReceive p = { s.setPort p { s.port p with recvEnd := some s.micros } with ltr := s.ltr } := by
    cases p <;> rfl
  rw [heq]
  exact .of_setPort _ rfl (fun _ _ => rfl)

theorem State.passOn_frame (s : State) (p : Port) (f : Frame) : RouterFrame s (s.passOn p f) :=
  (s.carry_frame p f true).trans (State.endReceive_frame _ p)

theorem State.passOn_ltr (s : State) (p : Port) (f : Frame) : (s.passOn p f).ltr = (s.tracesOnward p f true).ltr := by
  rw [← State.carry_ltr]
  cases p <;> rfl

/-! ### What a unit reads besides -/

section
variable {s t : State} (h : s.RouterFrame t)
include h

theorem State.RouterFrame.cru : t.cru = s.cru := by rw [h.rest]
theorem State.RouterFrame.counter (c : Counter) : t.counter c = s.counter c := by rw [h.rest]; rfl
theorem State.RouterFrame.now : t.now = s.now := by rw [h.rest]; rfl
theorem State.RouterFrame.img : t.img = s.img := by rw [h.rest]; rfl
theorem State.RouterFrame.pos : t.pos = s.pos := by rw [h.rest]; rfl
theorem State.RouterFrame.originByte : t.originByte = s.originByte := by rw [h.rest]; rfl
theorem State.RouterFrame.frame (dst : Byte) (x : Payload) : t.frame dst x = s.frame dst x := by rw [h.rest]; rfl
theorem State.RouterFrame.localQ (p : Port) : (t.port p).localQ = (s.port p).localQ := by rw [h.port p]
theorem State.RouterFrame.check (p : Port) : (t.port p).check = (s.port p).check := by rw [h.port p]
theorem State.RouterFrame.linkIsUp (p : Port) : t.linkIsUp p = s.linkIsUp p := by unfold State.linkIsUp; rw [h.port p]
theorem State.RouterFrame.hasRoom (p : Port) : t.hasRoom p = s.hasRoom p := by
  unfold State.hasRoom; rw [h.linkIsUp, h.check, h.localQ]
theorem State.RouterFrame.joined (p : Port) (dst : Byte) (x : Payload) : t.joined p dst x = s.joined p dst x := by
  unfold State.joined; rw [h.frame, h.localQ]
theorem State.RouterFrame.portToward (position : Byte) : t.portToward position = s.portToward position := by
  unfold State.portToward; rw [h.pos]

end

/-- Nothing else differs over offers. -/
theorem LinkFrame.eq {s t : State} (h : LinkFrame s t) : t = { s with
    cru := { s.cru with loans := t.cru.loans }, upPort := t.upPort, downPort := t.downPort, ltr := t.ltr
    counters := t.counters } := by
  rw [← h.cru, ← h.micros, ← h.freeIndex, ← h.pins, ← h.ldu, ← h.cq, ← h.tau, ← h.pdu, ← h.ivi, ← h.tracker, ← h.head, ← h.tail,
    ← h.exu, ← h.hlu, ← h.svi, ← h.pending]

/-- A unit that only offers frames, seen past the router. -/
theorem LinkFrame.routed {s t u v : State} (h : LinkFrame s t) (hs : State.RouterFrame u s) (ht : State.RouterFrame t v) : v =
    { u with
      cru := { u.cru with loans := v.cru.loans }, upPort := v.upPort, downPort := v.downPort, ltr := v.ltr
      counters := v.counters } := by
  obtain ⟨heard, -, -⟩ := hs
  obtain ⟨gone, -, -⟩ := ht
  have offers := h.eq
  generalize s.upPort = up, s.downPort = down, s.ltr = trace at heard
  generalize t.cru.loans = loans, t.upPort = up', t.downPort = down', t.ltr = trace', t.counters = counters at offers
  generalize v.upPort = up'', v.downPort = down'', v.ltr = trace'' at gone
  subst heard offers gone
  rfl

/-! ### The ports at the end (R154) -/

theorem State.heard_port (s : State) (p : Port) : (s.heard p).port p = (s.port p).heard s.now := s.setPort_port p _

theorem State.heard_other (s : State) (p : Port) : (s.heard p).port p.other = s.port p.other := s.setPort_other p _

theorem State.consumed_port (s : State) (p : Port) (f : Frame) :
    (s.consumed p f).port p = { (s.port p).heard s.now with recvEnd := some s.micros } := by
  rw [State.consumed_eq]
  exact s.setPort_port p _

theorem State.consumed_other (s : State) (p : Port) (f : Frame) : (s.consumed p f).port p.other = s.port p.other := by
  rw [State.consumed_eq]
  exact s.setPort_other p _

theorem State.passOn_port (s : State) (p : Port) (f : Frame) :
    (s.passOn p f).port p = { s.port p with recvEnd := some s.micros } := by
  have hcarry : (s.carry p f true).port p = s.port p := by
    rw [State.carry_eq]
    generalize (s.carry p f true).port p.other = x
    cases p <;> rfl
  have hmicros : (s.carry p f true).micros = s.micros := by rw [(s.carry_frame p f true).rest]
  refine (State.setPort_port _ p _).trans ?_
  rw [hcarry, hmicros]

theorem State.passOn_other (s : State) (p : Port) (f : Frame) : (s.passOn p f).port p.other = { s.port p.other with
    forward := ((s.passOn p f).port p.other).forward, counters := ((s.passOn p f).port p.other).counters } := by
  have hcarry : (s.passOn p f).port p.other = (s.carry p f true).port p.other := State.setPort_other _ p _
  obtain ⟨honward, -⟩ := s.carry_onward_frame p f true
  rw [hcarry]
  exact honward

/-- A unit that only offers frames leaves the port of a consumed frame as received. -/
theorem State.PortsReceived.of_consumed {s t : State} {p : Port} {f : Frame}
    (h : ∀ q, t.port q = ((s.consumed p f).port q).offered (t.port q)) : s.PortsReceived t p := by
  have harrival := h p
  have hother := h p.other
  rw [State.consumed_port] at harrival
  rw [State.consumed_other] at hother
  refine ⟨harrival, hother.trans ?_⟩
  rw [hother]
  rfl

/-- A unit that only offers frames leaves the port of a broadcast as received, once its copy has gone on. -/
theorem State.PortsReceived.of_copied {s t : State} {p : Port} {f : Frame} (hmicros : t.micros = s.micros)
    (h : ∀ q, t.port q = ((s.heard p).port q).offered (t.port q)) : s.PortsReceived (t.passOn p f) p := by
  have harrival := h p
  have hother := h p.other
  rw [State.heard_port] at harrival
  rw [State.heard_other] at hother
  refine ⟨?_, ?_⟩
  · rw [State.passOn_port, harrival, hmicros]
    rfl
  · rw [State.passOn_other, hother]
    rfl

/-! ### What the Link Trace reads (R162, R175) -/

/-- The trace is offered the same of any frame by either state. -/
structure State.TracesAs (s t : State) : Prop where
  micros : t.micros = s.micros
  recvEnd : ∀ p, (t.port p).recvEnd = (s.port p).recvEnd
  sentAt : ∀ p, (t.port p).sentAt = (s.port p).sentAt
  forward : ∀ p, (t.port p).forward = (s.port p).forward
  canCarry : ∀ p, t.canCarry p = s.canCarry p

theorem State.TracesAs.trans {s t u : State} (h : TracesAs s t) (k : TracesAs t u) : TracesAs s u where
  micros := k.micros.trans h.micros
  recvEnd p := (k.recvEnd p).trans (h.recvEnd p)
  sentAt p := (k.sentAt p).trans (h.sentAt p)
  forward p := (k.forward p).trans (h.forward p)
  canCarry p := (k.canCarry p).trans (h.canCarry p)

theorem LinkFrame.tracesAs {s t : State} (h : LinkFrame s t) : State.TracesAs s t where
  micros := h.micros
  recvEnd p := by rw [h.toDemandFrame.port p]; rfl
  sentAt p := by rw [h.toDemandFrame.port p]; rfl
  forward := h.forward
  canCarry := h.canCarry

theorem State.heard_tracesAs (s : State) (p : Port) : TracesAs s (s.heard p) where
  micros := by cases p <;> rfl
  recvEnd q := by cases p <;> cases q <;> rfl
  sentAt q := by cases p <;> cases q <;> rfl
  forward q := by cases p <;> cases q <;> rfl
  canCarry q := by cases p <;> cases q <;> rfl

theorem State.TracesAs.offerTrace {s t : State} (h : TracesAs s t) (hltr : t.ltr = s.ltr) (o : Offer) :
    (t.offerTrace o).ltr = (s.offerTrace o).ltr := by
  unfold State.offerTrace State.traceEntry State.now
  dsimp only
  rw [hltr, h.micros, h.recvEnd, h.sentAt]

theorem State.TracesAs.tracesOnward {s t : State} (h : TracesAs s t) (hltr : t.ltr = s.ltr) (p : Port) (f : Frame)
    (copied : Bool) : (t.tracesOnward p f copied).ltr = (s.tracesOnward p f copied).ltr := by
  unfold State.tracesOnward
  rw [h.canCarry, h.forward]
  split
  · split
    · exact h.offerTrace hltr _
    · exact h.offerTrace hltr _
  split
  · exact h.offerTrace hltr _
  split
  · exact h.offerTrace hltr _
  · exact h.offerTrace hltr _

end Sys2Proof.Machine
end

section
/-!
PROOFS. The answer to a CANVASS (R71, R72, R81, R159, R162), and the settlement of O57.
-/

namespace Sys2Proof.Machine

/-! ### The answers of a local queue (R158, R159) -/

/-- R158: an offer that the port refuses at once. -/
theorem State.offer_of_refuses {s : State} {p : Port} {f : Frame} (h : (s.port p).refuses f = true) :
    s.offer p f = ⟨s.refuseLocal p f, false⟩ := if_pos h

theorem LinkPort.afterOffer_refused {x : LinkPort} {f : Frame} (h : x.refuses f = true) : x.afterOffer f = x.refused := if_pos h

/-- R158: a port that is DOWN or MISWIRED refuses every frame but a HELLO at a MISWIRED one. -/
theorem State.refuses_of_closed {s : State} {p : Port} {f : Frame} (h : s.linkIsUp p = false ∨ (s.port p).check = .miswired)
    (hkind : frameKind f ≠ .hello) : (s.port p).refuses f = true := by
  rcases h with hdown | hcheck
  · have hlink : (s.port p).link = .down := by
      unfold State.linkIsUp at hdown
      cases hl : (s.port p).link with
      | down => rfl
      | up => rw [hl] at hdown; exact absurd hdown (by decide)
    simp [LinkPort.refuses, hlink]
  · simp [LinkPort.refuses, hcheck, hkind]

/-- R159: the answers of a full queue, by the class of its last frame. -/
theorem State.offer_of_full {s : State} {p : Port} {rest : List Frame} {g : Frame} (hup : s.linkIsUp p = true)
    (hcheck : (s.port p).check ≠ .miswired) (hq : (s.port p).localQ = rest ++ [g]) (hfull : 7 ≤ rest.length) (f : Frame) :
    (frameClass f < frameClass g → s.offer p f = ⟨(s.displace p g).takeLocal p rest f, true⟩) ∧
    (frameClass g ≤ frameClass f → s.offer p f = ⟨s.refuseLocal p f, false⟩) := by
  have hpass := LinkPort.refuses_of_up (beq_iff_eq.mp hup) hcheck f
  have hlength : ¬ (rest ++ [g]).length < Config.localCapacity := by
    rw [List.length_append, List.length_singleton]
    exact Nat.not_lt.mpr (Nat.succ_le_succ hfull)
  unfold State.offer
  rw [if_neg (Bool.eq_false_iff.mp hpass), hq, if_neg hlength, List.getLast?_concat, List.dropLast_concat]
  exact ⟨fun hclass => if_pos hclass, fun hclass => if_neg (Nat.not_lt.mpr hclass)⟩

/-- R162: what the trace is offered of an offer's answers. -/
theorem State.takeLocal_ltr (s : State) (p : Port) (q : List Frame) (f : Frame) :
    (s.takeLocal p q f).ltr = (s.traceAction p .originated (viewOfFrame f)).ltr := by cases p <;> rfl

theorem State.refuseLocal_ltr (s : State) (p : Port) (f : Frame) :
    (s.refuseLocal p f).ltr = (s.traceDrop p .localRefused (viewOfFrame f)).ltr := by cases p <;> rfl

theorem State.displace_ltr (s : State) (p : Port) (g : Frame) :
    (s.displace p g).ltr = (s.traceDrop p .localDisplaced (viewOfFrame g)).ltr := by cases p <;> rfl

theorem State.refuseLocal_cru (s : State) (p : Port) (f : Frame) : (s.refuseLocal p f).cru = s.cru := by cases p <;> rfl

theorem State.takeLocal_cru (s : State) (p : Port) (q : List Frame) (f : Frame) : (s.takeLocal p q f).cru = s.cru := by
  cases p <;> rfl

/-- R175: what the trace reads of a state is not the trace. -/
theorem State.TracesAs.before_offerTrace (s : State) (o : Offer) : TracesAs (s.offerTrace o) s :=
  ⟨rfl, fun _ => rfl, fun _ => rfl, fun _ => rfl, fun _ => rfl⟩

theorem State.TracesAs.offerBoth {s t : State} (h : TracesAs s t) (o : Offer) : TracesAs (s.offerTrace o) (t.offerTrace o) :=
  ⟨h.micros, h.recvEnd, h.sentAt, h.forward, h.canCarry⟩

/-- R162: a frame that goes on after what the unit offered. -/
theorem State.TracesAs.passOn {s t : State} (h : TracesAs s t) (hltr : t.ltr = s.ltr) (p : Port) (f : Frame) :
    (t.passOn p f).ltr = (s.tracesOnward p f true).ltr :=
  (t.passOn_ltr p f).trans (h.tracesOnward hltr p f true)

/-- What an offer does at a full queue is seen past the router. -/
theorem State.FullQueueOffered.routed {s t u v : State} {p : Port} {f : Frame} (h : s.FullQueueOffered t p f)
    (hs : RouterFrame u s) (ht : RouterFrame t v) : u.FullQueueOffered v p f := by
  intro rest g hup hcheck hq hfull
  have hoffered := h rest g ((hs.linkIsUp p).trans hup) (fun hm => hcheck ((hs.check p).symm.trans hm))
    ((hs.localQ p).trans hq) hfull
  rw [← ht.localQ, ← ht.offers p .localDisplaced (by decide), ← ht.offers p .localTaken (by decide),
    ← ht.offers p .localRefused (by decide), hs.localQ, hs.offers p .localDisplaced (by decide),
    hs.offers p .localTaken (by decide), hs.offers p .localRefused (by decide)] at hoffered
  exact hoffered

/-! ### What is answered (R71, R72) -/

theorem State.RouterFrame.answerOf {s t : State} (h : RouterFrame s t) (want : Half) : t.answerOf want = s.answerOf want := by
  unfold State.answerOf
  rw [h.cru, h.img]

/-- R71, R72: the kind and the amount of the reply. -/
theorem State.answerOf_eq {s : State} {want : Half} {kind : ReplyKind} {amount : Nat}
    (hkind : kind = if s.cru.tracker.isSome then .conflict else if 0 < s.cru.surplus s.img.keep then .lend else .decline)
    (hamount : amount = if kind = .lend then min (s.cru.surplus s.img.keep).toNat want.toNat else 0) :
    s.answerOf want = (kind, amount) := by
  subst hkind hamount
  unfold State.answerOf
  split
  · rfl
  split
  · rfl
  · rfl

/-! ### The reply and its queue (R71, R72, R81, R159) -/

/-- R71: the REPLY of a station. -/
def State.replyTo (s : State) (origin : Byte) (n : Half) (kind : ReplyKind) (amount : Nat) : Frame :=
  s.frame origin (.reply n kind (BitVec.ofNat 16 amount))

/-- R71: the station has counted the kind of the reply it is about to offer. -/
def State.replying (s : State) (kind : ReplyKind) : State := s.count (replyCounter kind)

theorem State.replying_link (s : State) (kind : ReplyKind) : LinkFrame s (s.replying kind) := s.count_link _

theorem State.replying_port (s : State) (kind : ReplyKind) (p : Port) : (s.replying kind).port p = s.port p := s.count_port _ p

theorem State.replying_counter (s : State) (kind : ReplyKind) {c : Counter} (h : c ≠ replyCounter kind) :
    (s.replying kind).counter c = s.counter c := s.counter_countBy_ne _ c 1 h.symm

/-- R71, R72: the credits leave with a reply that its queue takes; a refusal is counted. -/
def Offered.lent (r : Offered) (amount : Nat) : State :=
  if r.taken then
    ({ r.state with cru := { r.state.cru with loans := r.state.cru.loans - amount } } : State).countBy .creditsLent amount
  else r.state.count .repliesRefused

theorem Offered.lent_link (r : Offered) (amount : Nat) : LinkFrame r.state (r.lent amount) := by
  unfold Offered.lent
  split
  · exact (r.state.setLoans_link _).trans (State.countBy_link _ _ _)
  · exact r.state.count_link _

theorem Offered.lent_only (r : Offered) (amount : Nat) :
    State.CountsOnly [.creditsLent, .repliesRefused] r.state (r.lent amount) := by
  unfold Offered.lent
  split
  · exact (State.CountsOnly.of_counters rfl).trans (State.countBy_only (by decide) _ _)
  · exact State.count_only (by decide) _

theorem Offered.lent_port (r : Offered) (amount : Nat) (p : Port) : (r.lent amount).port p = r.state.port p := by
  unfold Offered.lent
  split <;> cases p <;> rfl

theorem State.answerCanvass_own {s : State} {origin : Byte} (h : origin = s.originByte) (n want : Half) :
    s.answerCanvass origin n want = s.count .canvassOwnOrigin := if_pos h

section
variable {s : State} {origin : Byte} {n want : Half} {kind : ReplyKind} {amount : Nat}
  (hother : origin ≠ s.originByte) (hans : s.answerOf want = (kind, amount))
include hother hans

/-- R71: a reply is counted by its kind, offered toward the origin, and its credits leave with it. -/
theorem State.answerCanvass_eq : s.answerCanvass origin n want =
    ((s.replying kind).offer (s.portToward origin) (s.replyTo origin n kind amount)).lent amount := by
  unfold State.answerCanvass
  rw [if_neg hother, hans]
  rfl

theorem State.answerCanvass_link : LinkFrame s (s.answerCanvass origin n want) := by
  rw [State.answerCanvass_eq hother hans]
  exact ((s.replying_link _).trans (State.offer_link _ _ _)).trans (Offered.lent_link _ _)

/-- R71: the counter of the reply's kind. -/
theorem State.answerCanvass_counted (k : ReplyKind) : (s.answerCanvass origin n want).counter (replyCounter k) =
    satAdd (s.counter (replyCounter k)) (if kind = k then 1 else 0) := by
  have honly := (State.offer_only (s.replying kind) (s.portToward origin) (s.replyTo origin n kind amount)
    (replyCounter k) (by cases k <;> decide))
  rw [State.answerCanvass_eq hother hans, Offered.lent_only _ _ _ (by cases k <;> decide), honly]
  split
  · rename_i hk
    rw [hk]
    exact s.counter_count _
  · rename_i hk
    rw [satAdd_zero]
    exact s.replying_counter kind (by revert hk; cases kind <;> cases k <;> decide)

/-- R158: the port toward the origin after the reply was offered there. -/
theorem State.answerCanvass_port : (s.answerCanvass origin n want).port (s.portToward origin) =
    (s.port (s.portToward origin)).afterOffer (s.replyTo origin n kind amount) := by
  rw [State.answerCanvass_eq hother hans, Offered.lent_port, State.offer_port, State.replying_port]

/-- R72: what a reply leaves that the queue takes, by what the offer leaves. -/
theorem State.answerCanvass_taken {y : State}
    (h : (s.replying kind).offer (s.portToward origin) (s.replyTo origin n kind amount) = ⟨y, true⟩) :
    (s.answerCanvass origin n want).cru = { s.cru with loans := y.cru.loans - amount } ∧
    (s.answerCanvass origin n want).counter .creditsLent = satAdd (s.counter .creditsLent) amount ∧
    (s.answerCanvass origin n want).counter .creditsRestored = y.counter .creditsRestored ∧
    (s.answerCanvass origin n want).ltr = y.ltr := by
  have hlink := (s.replying_link kind).trans
    (State.offer_link _ (s.portToward origin) (s.replyTo origin n kind amount))
  have honly := State.offer_only (s.replying kind) (s.portToward origin) (s.replyTo origin n kind amount)
  rw [h] at hlink honly
  have hlent : y.counter .creditsLent = s.counter .creditsLent :=
    (honly _ (by decide)).trans (s.replying_counter kind (by cases kind <;> decide))
  rw [State.answerCanvass_eq hother hans, h]
  refine ⟨?_, ?_, State.counter_countBy_ne _ .creditsLent _ _ (by decide), rfl⟩
  · show ({ y.cru with loans := y.cru.loans - amount } : Cru) = _
    rw [hlink.cru]
  · rw [← hlent]
    exact State.counter_countBy _ _ _

/-- R71: what a reply leaves that the queue refuses. -/
theorem State.answerCanvass_refused (h : (s.replying kind).offer (s.portToward origin) (s.replyTo origin n kind amount) =
      ⟨(s.replying kind).refuseLocal (s.portToward origin) (s.replyTo origin n kind amount), false⟩) :
    (s.answerCanvass origin n want).cru = s.cru ∧
    (s.answerCanvass origin n want).counter .repliesRefused = satAdd (s.counter .repliesRefused) 1 ∧
    (s.answerCanvass origin n want).ltr = ((s.replying kind).traceDrop (s.portToward origin) .localRefused
      (viewOfFrame (s.replyTo origin n kind amount))).ltr := by
  rw [State.answerCanvass_eq hother hans, h]
  refine ⟨State.refuseLocal_cru (s.replying kind) _ (s.replyTo origin n kind amount), ?_,
    State.refuseLocal_ltr _ _ (s.replyTo origin n kind amount)⟩
  have hkept : ((s.replying kind).refuseLocal (s.portToward origin)
      (s.replyTo origin n kind amount)).counter .repliesRefused = s.counter .repliesRefused := by
    unfold State.counter
    rw [State.refuseLocal_counters]
    exact s.replying_counter kind (by cases kind <;> decide)
  rw [← hkept]
  exact State.counter_count _ _

/-- R72, R158: a reply that a queue with room takes. -/
theorem State.answerCanvass_room (h : s.hasRoom (s.portToward origin) = true) :
    (s.answerCanvass origin n want).cru = { s.cru with loans := s.cru.loans - amount } ∧
    (s.answerCanvass origin n want).counter .creditsLent = satAdd (s.counter .creditsLent) amount ∧
    (s.answerCanvass origin n want).ltr = ((s.replying kind).traceAction (s.portToward origin) .originated
      (viewOfFrame (s.replyTo origin n kind amount))).ltr := by
  have hroom : (s.replying kind).hasRoom (s.portToward origin) = true := by
    unfold State.hasRoom State.linkIsUp at h ⊢
    rwa [State.replying_port]
  obtain ⟨hcru, hlent, -, hltr⟩ := State.answerCanvass_taken hother hans (State.offer_of_hasRoom hroom _)
  rw [State.takeLocal_cru] at hcru
  rw [State.takeLocal_ltr] at hltr
  exact ⟨hcru, hlent, hltr⟩

/-- R72, R81, R159: a reply at a full queue. -/
theorem State.answerCanvass_full {rest : List Frame} {g : Frame} (hup : s.linkIsUp (s.portToward origin) = true)
    (hcheck : (s.port (s.portToward origin)).check ≠ .miswired) (hq : (s.port (s.portToward origin)).localQ = rest ++ [g])
    (hfull : 7 ≤ rest.length) :
    (kindClass .reply < frameClass g →
      (s.answerCanvass origin n want).cru = { s.cru with loans := s.cru.loans + carriedCredits g - amount } ∧
      (s.answerCanvass origin n want).counter .creditsRestored = satAdd (s.counter .creditsRestored) (carriedCredits g) ∧
      (s.answerCanvass origin n want).ltr =
        (((s.replying kind).traceDrop (s.portToward origin) .localDisplaced (viewOfFrame g)).traceAction
          (s.portToward origin) .originated (viewOfFrame (s.replyTo origin n kind amount))).ltr) ∧
    (frameClass g ≤ kindClass .reply →
      (s.answerCanvass origin n want).cru = s.cru ∧
      (s.answerCanvass origin n want).counter .repliesRefused = satAdd (s.counter .repliesRefused) 1) := by
  obtain ⟨hdisplaces, hrefuses⟩ := State.offer_of_full (s := s.replying kind)
    (((s.replying_link kind).linkIsUp _).trans hup) (by rwa [State.replying_port]) (by rwa [State.replying_port]) hfull
    (s.replyTo origin n kind amount)
  refine ⟨fun hclass => ?_, fun hclass => ?_⟩
  · obtain ⟨hcru, -, hrestored, hltr⟩ := State.answerCanvass_taken hother hans (hdisplaces hclass)
    obtain ⟨hloans, hcount⟩ := ((s.replying kind).displace_restored (s.portToward origin) g).trans
      (State.takeLocal_restored _ _ rest (s.replyTo origin n kind amount))
    rw [hloans] at hcru
    rw [s.replying_counter kind (by cases kind <;> decide)] at hcount
    rw [State.takeLocal_ltr] at hltr
    have htraces := ((s.replying kind).displace_link (s.portToward origin) g).tracesAs
    exact ⟨hcru, hrestored.trans hcount,
      hltr.trans ((State.TracesAs.trans (.before_offerTrace _ _) htraces).offerTrace (State.displace_ltr _ _ g) _)⟩
  · obtain ⟨hcru, hrefused, -⟩ := State.answerCanvass_refused hother hans (hrefuses hclass)
    exact ⟨hcru, hrefused⟩

end

/-! ### The answer past the router (R154, R162) -/

/-- R71: a CANVASS has been heard at a port and answered, and has gone on. -/
def State.canvassed (s : State) (p : Port) (origin : Byte) (n want : Half) (f : Frame) : State :=
  ((s.heard p).answerCanvass origin n want).passOn p f

theorem State.heard_ltr (s : State) (p : Port) : (s.heard p).ltr = s.ltr := by cases p <;> rfl

theorem State.RouterFrame.replyTo {s t : State} (h : RouterFrame s t) (origin : Byte) (n : Half) (kind : ReplyKind) (amount : Nat) :
    t.replyTo origin n kind amount = s.replyTo origin n kind amount := h.frame _ _

/-- R71: the CANVASS of another station is answered as the station stood. -/
theorem State.heard_answers {s : State} {origin : Byte} {want : Half} {kind : ReplyKind} {amount : Nat} (p : Port)
    (hother : origin ≠ s.originByte) (hans : s.answerOf want = (kind, amount)) :
    origin ≠ (s.heard p).originByte ∧ (s.heard p).answerOf want = (kind, amount) :=
  ⟨fun h => hother (h.trans (s.heard_frame p).originByte), ((s.heard_frame p).answerOf want).trans hans⟩

section
variable {s : State} {p : Port} {origin : Byte} {n want : Half} {kind : ReplyKind} {amount : Nat} {f : Frame}
  (hother : origin ≠ s.originByte) (hans : s.answerOf want = (kind, amount))
include hother hans

theorem State.canvassed_counted (k : ReplyKind) : (s.canvassed p origin n want f).counter (replyCounter k) =
    satAdd (s.counter (replyCounter k)) (if kind = k then 1 else 0) := by
  obtain ⟨hother, hans⟩ := State.heard_answers p hother hans
  have hcounted := State.answerCanvass_counted (n := n) hother hans k
  rw [(s.heard_frame p).counter] at hcounted
  exact ((State.passOn_frame _ p f).counter _).trans hcounted

theorem State.canvassed_port : ((s.heard p).answerCanvass origin n want).port (s.portToward origin) =
    ((s.heard p).port (s.portToward origin)).afterOffer (s.replyTo origin n kind amount) := by
  obtain ⟨hother, hans⟩ := State.heard_answers p hother hans
  have hport := State.answerCanvass_port (n := n) hother hans
  rwa [(s.heard_frame p).portToward, (s.heard_frame p).replyTo] at hport

/-- R158: the local queue toward the origin, by what the offer leaves. -/
theorem State.canvassed_localQ : ((s.canvassed p origin n want f).port (s.portToward origin)).localQ =
    (((s.heard p).port (s.portToward origin)).afterOffer (s.replyTo origin n kind amount)).localQ :=
  ((State.passOn_frame _ p f).localQ _).trans (congrArg LinkPort.localQ (State.canvassed_port hother hans))

theorem State.canvassed_fullQueue :
    s.FullQueueOffered (s.canvassed p origin n want f) (s.portToward origin) (s.replyTo origin n kind amount) :=
  (State.FullQueueOffered.of_port fun _ => State.canvassed_port hother hans).routed (s.heard_frame p) (State.passOn_frame _ p f)

theorem State.canvassed_ports : s.PortsReceived (s.canvassed p origin n want f) p ∧ s.canvassed p origin n want f = { s with
    cru := { s.cru with loans := (s.canvassed p origin n want f).cru.loans }
    upPort := (s.canvassed p origin n want f).upPort, downPort := (s.canvassed p origin n want f).downPort
    ltr := (s.canvassed p origin n want f).ltr, counters := (s.canvassed p origin n want f).counters } := by
  obtain ⟨hother, hans⟩ := State.heard_answers p hother hans
  have hlink := State.answerCanvass_link (n := n) hother hans
  exact ⟨.of_copied (hlink.micros.trans (s.heard_tracesAs p).micros) hlink.toDemandFrame.port,
    hlink.routed (s.heard_frame p) (State.passOn_frame _ p f)⟩

/-- R162: the answer's offers to the trace, then the CANVASS that goes on. -/
theorem State.canvassed_ltr {t : State} (h : ((s.heard p).answerCanvass origin n want).ltr = t.ltr)
    (ht : TracesAs t s) : (s.canvassed p origin n want f).ltr = (t.tracesOnward p f true).ltr := by
  obtain ⟨hother, hans⟩ := State.heard_answers p hother hans
  exact ((ht.trans (s.heard_tracesAs p)).trans (State.answerCanvass_link (n := n) hother hans).tracesAs).passOn h p f

/-- R72, R158: a reply that a queue with room takes. -/
theorem State.canvassed_room (h : s.hasRoom (s.portToward origin) = true) :
    ((s.canvassed p origin n want f).port (s.portToward origin)).localQ =
      s.joined (s.portToward origin) origin (.reply n kind (BitVec.ofNat 16 amount)) ∧
    (s.canvassed p origin n want f).cru = { s.cru with loans := s.cru.loans - amount } ∧
    (s.canvassed p origin n want f).counter .creditsLent = satAdd (s.counter .creditsLent) amount ∧
    (s.canvassed p origin n want f).ltr = ((s.traceAction (s.portToward origin) .originated
      (viewOfFrame (s.replyTo origin n kind amount))).tracesOnward p f true).ltr := by
  have hheard := s.heard_frame p
  have hroute := State.passOn_frame ((s.heard p).answerCanvass origin n want) p f
  have hreplying := (s.heard_tracesAs p).trans ((s.heard p).replying_link kind).tracesAs
  have hroom : (s.heard p).hasRoom (s.portToward origin) = true := (hheard.hasRoom _).trans h
  have hqueue := State.afterOffer_joined hroom origin (.reply n kind (BitVec.ofNat 16 amount))
  obtain ⟨hother', hans'⟩ := State.heard_answers p hother hans
  obtain ⟨hcru, hlent, hltr⟩ := State.answerCanvass_room (n := n) hother' hans' (by rwa [hheard.portToward])
  rw [hheard.frame, hheard.joined] at hqueue
  rw [hheard.cru] at hcru
  rw [hheard.counter] at hlent
  rw [hheard.portToward, hheard.replyTo] at hltr
  exact ⟨(State.canvassed_localQ hother hans).trans hqueue, hroute.cru.trans hcru, (hroute.counter _).trans hlent,
    State.canvassed_ltr hother hans (hltr.trans (hreplying.offerTrace (s.heard_ltr p) _)) (.before_offerTrace s _)⟩

/-- R71, R158: a reply to a port that is DOWN or MISWIRED. -/
theorem State.canvassed_closed
    (h : s.linkIsUp (s.portToward origin) = false ∨ (s.port (s.portToward origin)).check = .miswired) :
    (s.canvassed p origin n want f).cru = s.cru ∧
    (s.canvassed p origin n want f).counter .repliesRefused = satAdd (s.counter .repliesRefused) 1 ∧
    ((s.canvassed p origin n want f).port (s.portToward origin)).localQ = (s.port (s.portToward origin)).localQ ∧
    (s.canvassed p origin n want f).ltr = ((s.traceDrop (s.portToward origin) .localRefused
      (viewOfFrame (s.replyTo origin n kind amount))).tracesOnward p f true).ltr := by
  have hheard := s.heard_frame p
  have hroute := State.passOn_frame ((s.heard p).answerCanvass origin n want) p f
  have hreplying := (s.heard_tracesAs p).trans ((s.heard p).replying_link kind).tracesAs
  have hclosed : (s.heard p).linkIsUp (s.portToward origin) = false ∨
      ((s.heard p).port (s.portToward origin)).check = .miswired := by
    rwa [hheard.linkIsUp, hheard.check]
  have hrefuses := State.refuses_of_closed (f := s.replyTo origin n kind amount) hclosed Kind.noConfusion
  have hqueue := congrArg LinkPort.localQ (LinkPort.afterOffer_refused hrefuses)
  obtain ⟨hother', hans'⟩ := State.heard_answers p hother hans
  obtain ⟨hcru, hcount, hltr⟩ := State.answerCanvass_refused (n := n) hother' hans'
    (State.offer_of_refuses (by rwa [State.replying_port, hheard.portToward, hheard.replyTo]))
  rw [hheard.counter] at hcount
  rw [hheard.portToward, hheard.replyTo] at hltr
  exact ⟨hroute.cru.trans (hcru.trans hheard.cru), (hroute.counter _).trans hcount,
    (State.canvassed_localQ hother hans).trans (hqueue.trans (hheard.localQ _)),
    State.canvassed_ltr hother hans (hltr.trans (hreplying.offerTrace (s.heard_ltr p) _)) (.before_offerTrace s _)⟩

/-- R72, R81, R159: a reply at a full queue. -/
theorem State.canvassed_full {rest : List Frame} {g : Frame} (hup : s.linkIsUp (s.portToward origin) = true)
    (hcheck : (s.port (s.portToward origin)).check ≠ .miswired) (hq : (s.port (s.portToward origin)).localQ = rest ++ [g])
    (hfull : 7 ≤ rest.length) :
    (kindClass .reply < frameClass g →
      (s.canvassed p origin n want f).cru = { s.cru with loans := s.cru.loans + carriedCredits g - amount } ∧
      (s.canvassed p origin n want f).counter .creditsRestored = satAdd (s.counter .creditsRestored) (carriedCredits g) ∧
      (s.canvassed p origin n want f).ltr =
        (((s.traceDrop (s.portToward origin) .localDisplaced (viewOfFrame g)).traceAction (s.portToward origin) .originated
          (viewOfFrame (s.replyTo origin n kind amount))).tracesOnward p f true).ltr) ∧
    (frameClass g ≤ kindClass .reply → (s.canvassed p origin n want f).cru = s.cru ∧
      (s.canvassed p origin n want f).counter .repliesRefused = satAdd (s.counter .repliesRefused) 1) := by
  have hheard := s.heard_frame p
  have hroute := State.passOn_frame ((s.heard p).answerCanvass origin n want) p f
  have hreplying := (s.heard_tracesAs p).trans ((s.heard p).replying_link kind).tracesAs
  obtain ⟨hother', hans'⟩ := State.heard_answers p hother hans
  obtain ⟨hdisplaces, hrefuses⟩ := State.answerCanvass_full (n := n) hother' hans' (rest := rest) (g := g)
    (by rwa [hheard.portToward, hheard.linkIsUp]) (by rwa [hheard.portToward, hheard.check])
    (by rwa [hheard.portToward, hheard.localQ]) hfull
  refine ⟨fun hclass => ?_, fun hclass => ?_⟩
  · obtain ⟨hcru, hcount, hltr⟩ := hdisplaces hclass
    rw [hheard.cru] at hcru
    rw [hheard.counter] at hcount
    rw [hheard.portToward, hheard.replyTo] at hltr
    exact ⟨hroute.cru.trans hcru, (hroute.counter _).trans hcount, State.canvassed_ltr hother hans
      (hltr.trans ((hreplying.offerBoth _).offerTrace (hreplying.offerTrace (s.heard_ltr p) _) _))
      (.trans (.before_offerTrace _ _) (.before_offerTrace s _))⟩
  · obtain ⟨hcru, hcount⟩ := hrefuses hclass
    rw [hheard.counter] at hcount
    exact ⟨hroute.cru.trans (hcru.trans hheard.cru), (hroute.counter _).trans hcount⟩

end

/-! ### The command (R71) -/

theorem exec_canvass_eq {e : Env} {a : Arrival} {origin : Byte} {n want : Half} {s : State}
    (h : s.admits a (.canvass origin n want) = true) : exec (.canvass e a origin n want) s =
      .next ((s.observe e).canvassed a.port origin n want (arrivedFrame a (.canvass origin n want))) :=
  congrArg Host.Outcome.next (State.frameArrives_copied (s := s.observe e) h rfl)

theorem State.observe_hasRoom (s : State) (e : Env) (p : Port) : (s.observe e).hasRoom p = s.hasRoom p := by cases p <;> rfl

theorem State.observe_joined (s : State) (e : Env) (p : Port) (dst : Byte) (x : Payload) :
    (s.observe e).joined p dst x = s.joined p dst x := by cases p <;> rfl

/-- Settles O57: each clause is one of the answers of the queue toward the origin, seen past the router. -/
theorem canvassIsAnswered : Obligations.CanvassIsAnswered := by
  rintro e a origin n want s u kind amount surplus p rfl hadmits rfl hkind hamount hp
  obtain rfl : p = (s.observe e).portToward origin := hp
  have hans : (s.observe e).answerOf want = (kind, amount) := State.answerOf_eq hkind hamount
  have hreply : (s.observe e).replyTo origin n kind amount = s.frame origin (.reply n kind (BitVec.ofNat 16 amount)) := rfl
  refine ⟨fun hother => ⟨_, exec_canvass_eq hadmits, ?_⟩, fun hown => ⟨_, exec_canvass_eq hadmits, ?_⟩⟩
  · have hother : origin ≠ (s.observe e).originByte := hother
    obtain ⟨hports, hframe⟩ := State.canvassed_ports (p := a.port) (n := n) (f := arrivedFrame a (.canvass origin n want)) hother hans
    refine ⟨State.canvassed_counted hother hans .lend, State.canvassed_counted hother hans .decline,
      State.canvassed_counted hother hans .conflict, ?_, ?_, ?_, ?_, hports, hframe⟩
    · have hroom := State.canvassed_room (p := a.port) (n := n) (f := arrivedFrame a (.canvass origin n want)) hother hans
      rw [State.observe_hasRoom, State.observe_joined, hreply] at hroom
      exact hroom
    · have hclosed := State.canvassed_closed (p := a.port) (n := n) (f := arrivedFrame a (.canvass origin n want)) hother hans
      rw [hreply] at hclosed
      exact hclosed
    · rw [← hreply]
      exact State.canvassed_fullQueue hother hans
    · rw [← hreply]
      exact fun _ _ => State.canvassed_full hother hans
  · have hheard := (s.observe e).heard_frame a.port
    have hroute := State.passOn_frame (((s.observe e).heard a.port).count .canvassOwnOrigin) a.port
      (arrivedFrame a (.canvass origin n want))
    unfold State.canvassed
    rw [State.answerCanvass_own (hown.trans hheard.originByte.symm)]
    refine ⟨hroute.cru.trans hheard.cru, ?_, fun p => (hroute.localQ p).trans ?_⟩
    · rw [hroute.counter, State.counter_count, hheard.counter]
      rfl
    · rw [State.count_port, hheard.localQ]
      rfl

end Sys2Proof.Machine
end

section
/-!
PROOFS. A RETURN that reaches its destination (R79), what it gives the next canvass and the next period, and the settlement of O59.
-/

namespace Sys2Proof.Machine

/-! ### Off line (R156) -/

theorem State.disposition_offLine {s : State} (hoff : s.onLine = false) (p : Port) {f : Frame}
    (hkind : frameKind f ≠ .pos ∧ frameKind f ≠ .hello ∧ frameKind f ≠ .count) :
    s.disposition p f = .forward ∨ s.disposition p f = .dropState := by
  obtain ⟨hpos, hhello, hcount⟩ := hkind
  unfold State.disposition
  rw [if_neg (Bool.eq_false_iff.mp hoff)]
  split
  · exact .inr rfl
  split
  · split
    · exact .inr rfl
    · exact .inr rfl
    · exact .inl rfl
  split
  · contradiction
  · contradiction
  · contradiction
  · exact .inr rfl

theorem State.endReceive_cru (s : State) (p : Port) : (s.endReceive p).cru = s.cru := (s.endReceive_frame p).cru

theorem State.dropReceived_cru (s : State) (p : Port) (c : PortCounter) (k : ErrorKind) (v : FrameView) :
    (s.dropReceived p c k v).cru = s.cru := by
  rw [State.dropReceived, State.endReceive_cru, State.traceDrop_cru, State.portCount_cru]

theorem State.route_cru_of_offLine {s : State} (hoff : s.onLine = false) (p : Port) {f : Frame}
    (hkind : frameKind f ≠ .pos ∧ frameKind f ≠ .hello ∧ frameKind f ≠ .count) : (s.route p f).cru = s.cru := by
  unfold State.route
  rcases State.disposition_offLine hoff p hkind with h | h
  · rw [h]
    exact (State.endReceive_cru _ p).trans (s.carry_frame p f false).cru
  · rw [h]
    exact s.dropReceived_cru p .droppedState .state _

/-- R155, R156: off line a frame that the Line Discovery Unit does not take leaves the Credit Unit. -/
theorem State.frameArrives_cru_of_offLine {s : State} (hoff : s.onLine = false) (a : Arrival) {x : Payload}
    (hkind : payloadKind x ≠ .pos ∧ payloadKind x ≠ .hello ∧ payloadKind x ≠ .count) : (s.frameArrives a x).cru = s.cru := by
  have hon : (((s.noteValid a.port).setReceiver a.port .hunting).portCount a.port .framesGood).onLine = s.onLine := by
    cases a.port <;> rfl
  have hcru : ((s.noteValid a.port).setReceiver a.port .hunting).cru = s.cru := by cases a.port <;> rfl
  unfold State.frameArrives State.receiveFrame
  split
  · split
    · refine (State.route_cru_of_offLine (hon.trans hoff) a.port ?_).trans ((State.portCount_cru _ _ _).trans hcru)
      exact hkind
    · exact (State.dropReceived_cru _ _ _ _ _).trans hcru
  · rfl

/-! ### The amount lent (R72) -/

/-- R71, R72: with no canvass of its own open a station lends what it can spare, up to the want. -/
theorem State.answerOf_amount {s : State} (h : s.cru.tracker = none) (want : Half) :
    (s.answerOf want).2 = min (s.cru.surplus s.img.keep).toNat want.toNat := by
  unfold State.answerOf
  rw [h]
  split
  · contradiction
  split
  · rfl
  · rename_i hshort
    dsimp only
    rw [Int.toNat_of_nonpos (by omega), Nat.zero_min]

/-- R72: what a station with no canvass of its own lends to a CANVASS that it hears, its queue having room. -/
theorem State.canvassed_loans {s : State} {p : Port} {origin : Byte} {want : Half} (hother : origin ≠ s.originByte)
    (hnone : s.cru.tracker = none) (hroom : s.hasRoom (s.portToward origin) = true) (n : Half) (f : Frame) :
    (s.canvassed p origin n want f).cru.loans = s.cru.loans - min (s.cru.surplus s.img.keep).toNat want.toNat := by
  have hans : s.answerOf want = ((s.answerOf want).1, (s.answerOf want).2) := rfl
  obtain ⟨-, hcru, -⟩ := State.canvassed_room (p := p) (n := n) (f := f) hother hans hroom
  rw [hcru, State.answerOf_amount hnone]

/-! ### The RETURN (R79) -/

theorem State.counter_count_ne (s : State) {c d : Counter} (h : c ≠ d) : (s.count c).counter d = s.counter d :=
  s.counter_countBy_ne c d 1 h

/-- R79: what a RETURN raises. -/
theorem State.takeReturn_counters (s : State) (amount : Nat) :
    (s.takeReturn amount).counter .returnsReceived = satAdd (s.counter .returnsReceived) 1 ∧
    (s.takeReturn amount).counter .creditsBack = satAdd (s.counter .creditsBack) amount := by
  unfold State.takeReturn
  dsimp only
  rw [State.counter_countBy_ne _ _ _ _ (by decide), State.counter_count, State.counter_countBy,
    State.counter_count_ne _ (by decide)]
  exact ⟨rfl, rfl⟩

theorem State.takeReturn_port (s : State) (amount : Nat) (p : Port) : (s.takeReturn amount).port p = s.port p := by
  cases p <;> rfl

/-- R79: a RETURN addressed to this station has been taken. -/
def State.returned (s : State) (p : Port) (f : Frame) (amount : Nat) : State := (s.consumed p f).takeReturn amount

section
variable (s : State) (p : Port) (f : Frame) (amount : Nat)

theorem State.returned_cru : (s.returned p f amount).cru = { s.cru with loans := s.cru.loans + amount } := by
  show ({ (s.consumed p f).cru with loans := (s.consumed p f).cru.loans + amount } : Cru) = _
  rw [(s.consumed_frame p f).cru]

theorem State.returned_ltr : (s.returned p f amount).ltr = (s.traceAction p .consumed (viewOfFrame f)).ltr := by
  show (s.consumed p f).ltr = _
  rw [State.consumed_eq]

theorem State.returned_img : (s.returned p f amount).img = s.img := (s.consumed_frame p f).img

theorem State.returned_pos : (s.returned p f amount).pos = s.pos := (s.consumed_frame p f).pos

theorem State.returned_counters :
    (s.returned p f amount).counter .returnsReceived = satAdd (s.counter .returnsReceived) 1 ∧
    (s.returned p f amount).counter .creditsBack = satAdd (s.counter .creditsBack) amount := by
  have hframe := s.consumed_frame p f
  have hcounted := (s.consumed p f).takeReturn_counters amount
  rwa [hframe.counter, hframe.counter] at hcounted

theorem State.returned_ports : s.PortsReceived (s.returned p f amount) p ∧
    ∀ q, ((s.returned p f amount).port q).localQ = (s.port q).localQ := by
  refine ⟨.of_consumed (f := f) fun q => ?_, fun q => ?_⟩
  · rw [State.returned, State.takeReturn_port]
    rfl
  · rw [State.returned, State.takeReturn_port, (s.consumed_frame p f).localQ]

theorem State.returned_rest : s.returned p f amount = { s with
    cru := (s.returned p f amount).cru, upPort := (s.returned p f amount).upPort, downPort := (s.returned p f amount).downPort
    ltr := (s.returned p f amount).ltr, counters := (s.returned p f amount).counters } := by
  have hrest := (s.consumed_frame p f).rest
  unfold State.returned
  generalize s.consumed p f = w at hrest
  generalize w.upPort = up, w.downPort = down, w.ltr = trace at hrest
  subst hrest
  rfl

end

theorem exec_ret_eq {e : Env} {a : Arrival} {n amount : Half} {s : State} (h : s.admits a (.ret n amount) = true)
    (hdst : a.dst = s.originByte) : exec (.ret e a n amount) s =
      .next ((s.observe e).returned a.port (arrivedFrame a (.ret n amount)) amount.toNat) :=
  congrArg Host.Outcome.next (State.frameArrives_consumed (s := s.observe e) h rfl hdst)

/-- Settles O59: the loans rise with the amount, and what is read of them later with them. -/
theorem returnRaisesTheLoans : Obligations.ReturnRaisesTheLoans := by
  rintro e a n amount s u rfl
  refine ⟨fun hadmits hdst => ⟨_, exec_ret_eq hadmits hdst, ?_⟩, fun hoff => ⟨_, rfl, ?_⟩⟩
  · obtain ⟨hreceived, hback⟩ := (s.observe e).returned_counters a.port (arrivedFrame a (.ret n amount)) amount.toNat
    obtain ⟨hports, hqueues⟩ := (s.observe e).returned_ports a.port (arrivedFrame a (.ret n amount)) amount.toNat
    have hcru := (s.observe e).returned_cru a.port (arrivedFrame a (.ret n amount)) amount.toNat
    have himg := (s.observe e).returned_img a.port (arrivedFrame a (.ret n amount)) amount.toNat
    have hpos := (s.observe e).returned_pos a.port (arrivedFrame a (.ret n amount)) amount.toNat
    refine ⟨hcru, State.returned_ltr _ _ _ _, hreceived, hback, hports, fun p => (hqueues p).trans ?_, State.returned_rest _ _ _ _, ?_, ?_⟩
    · cases p <;> rfl
    all_goals generalize (s.observe e).returned a.port (arrivedFrame a (.ret n amount)) amount.toNat = t at *
    · refine fun e' hdue => ⟨_, exec_periodEnd_eq hdue, ?_⟩
      obtain ⟨hpdu, -⟩ := (t.observe e').endPeriod_items
      rw [hpdu]
      refine (t.observe e').accounted_available.trans ?_
      rw [State.observe_cru, State.observe_img, hcru, himg]
      rfl
    · refine fun e' b origin m want hadmits' hother hnone hroom => ⟨_, exec_canvass_eq hadmits', ?_⟩
      have hother' : origin ≠ (t.observe e').originByte := fun h => hother (h.trans (congrArg (fun p : Fin 16 => BitVec.ofNat 8 p.val) hpos))
      have hnone' : (t.observe e').cru.tracker = none := (congrArg Cru.tracker hcru).trans hnone
      have hroom' : (t.observe e').hasRoom ((t.observe e').portToward origin) = true := by
        unfold State.portToward
        rw [State.observe_hasRoom, State.observe_pos, hpos]
        exact hroom
      rw [State.canvassed_loans hother' hnone' hroom', State.observe_cru, State.observe_img, hcru, himg]
      rfl
  · exact State.frameArrives_cru_of_offLine (s := s.observe e) hoff a ⟨Kind.noConfusion, Kind.noConfusion, Kind.noConfusion⟩

end Sys2Proof.Machine
end

section
/-!
PROOFS. A REPLY at the canvasser (R73 to R80): what the Credit Unit makes of each reply, open or late.
-/

namespace Sys2Proof.Machine

/-! ### The close of a canvass (R75, R76) -/

/-- The counters of a wait (R76). -/
def waitCounters : List Counter := [.backoffs, .recanvassWaits]

/-- R75, R76: what the close of a canvass leaves. -/
theorem State.closeCanvass_items (s : State) (c : Canvass) {why : Counter} (hwhy : why ∉ waitCounters) {short : Bool}
    (hshort : short = decide (s.cru.base + s.cru.loans < s.cru.need.getD 0)) :
    (s.closeCanvass c why).cru = { s.cru with
      tracker := none
      backoff := if short && c.conflict then some (after s.now ((s.pos.val + 1) * s.img.backoffUnit)) else s.cru.backoff
      recanvass := if short && !c.conflict then some (after s.now s.img.recanvassInterval) else s.cru.recanvass } ∧
    (s.closeCanvass c why).counter why = satAdd (s.counter why) 1 ∧
    (s.closeCanvass c why).counter .backoffs = satAdd (s.counter .backoffs) (if short && c.conflict then 1 else 0) ∧
    (s.closeCanvass c why).counter .recanvassWaits =
      satAdd (s.counter .recanvassWaits) (if short && !c.conflict then 1 else 0) := by
  have hbackoffs := s.counter_count_ne (c := why) (d := .backoffs) (fun h => hwhy (h ▸ by decide))
  have hwaits := s.counter_count_ne (c := why) (d := .recanvassWaits) (fun h => hwhy (h ▸ by decide))
  have hwhy' {d : Counter} (hd : d ∈ waitCounters) : ((s.count why).count d).counter why = satAdd (s.counter why) 1 :=
    (State.counter_count_ne (c := d) (d := why) _ fun h => hwhy (h ▸ hd)).trans (s.counter_count why)
  rw [State.closeCanvass_eq]
  by_cases henough : s.cru.need.getD 0 ≤ s.cru.base + s.cru.loans
  · obtain rfl : short = false := hshort.trans (decide_eq_false (Nat.not_lt.mpr henough))
    rw [if_pos henough]
    exact ⟨rfl, s.counter_count why, hbackoffs.trans (satAdd_zero _).symm, hwaits.trans (satAdd_zero _).symm⟩
  · obtain rfl : short = true := hshort.trans (decide_eq_true (Nat.lt_of_not_le henough))
    rw [if_neg henough]
    cases c.conflict with
    | true =>
      exact ⟨rfl, hwhy' (by decide), (State.counter_count _ _).trans (congrArg (satAdd · 1) hbackoffs),
        (State.counter_count_ne _ (by decide)).trans (hwaits.trans (satAdd_zero _).symm)⟩
    | false =>
      exact ⟨rfl, hwhy' (by decide), (State.counter_count_ne _ (by decide)).trans (hbackoffs.trans (satAdd_zero _).symm),
        (State.counter_count _ _).trans (congrArg (satAdd · 1) hwaits)⟩

theorem State.closeCanvass_port (s : State) (c : Canvass) (why : Counter) (p : Port) :
    (s.closeCanvass c why).port p = s.port p := by
  rw [State.closeCanvass_eq]
  split
  · cases p <;> rfl
  split
  · cases p <;> rfl
  · cases p <;> rfl

/-- R73: a canvass with replies outstanding stays open. -/
theorem State.closeIfAnswered_open {s : State} {c : Canvass} (h : s.cru.tracker = some c) (hopen : c.received < c.expected) :
    s.closeIfAnswered = s := by
  unfold State.closeIfAnswered
  rw [h]
  exact if_neg (Nat.not_le.mpr hopen)

/-- R75: the last reply expected closes the canvass. -/
theorem State.closeIfAnswered_closes {s : State} {c : Canvass} (h : s.cru.tracker = some c) (hlast : c.expected ≤ c.received) :
    s.closeIfAnswered = s.closeCanvass c .canvassesAnswered := by
  unfold State.closeIfAnswered
  rw [h]
  exact if_pos hlast

/-! ### Which reply it is (R73) -/

theorem State.takeReply_matching {s : State} {c : Canvass} {n : Half} (h : s.cru.tracker = some c) (hnumber : c.number = n)
    (lender : Byte) (k : ReplyKind) (amount : Nat) :
    s.takeReply lender n k amount = (s.matchReply lender c k amount).closeIfAnswered := by
  unfold State.takeReply
  rw [h]
  exact if_pos hnumber

theorem State.takeReply_late {s : State} {n : Half} (h : ∀ c, s.cru.tracker = some c → c.number ≠ n) (lender : Byte)
    (k : ReplyKind) (amount : Nat) : s.takeReply lender n k amount = s.lateReply lender n k amount := by
  unfold State.takeReply
  cases htracker : s.cru.tracker with
  | none => rfl
  | some c => exact if_neg (h c htracker)

/-! ### A RETURN to a lender (R74, R78, R80) -/

/-- R74, R78: the RETURN of a station. -/
def State.returnTo (s : State) (lender : Byte) (n : Half) (amount : Nat) : Frame :=
  s.frame lender (.ret n (BitVec.ofNat 16 amount))

theorem State.offerReturn_eq (s : State) (lender : Byte) (n : Half) (amount : Nat) :
    s.offerReturn lender n amount = s.offer (s.portToward lender) (s.returnTo lender n amount) := rfl

theorem State.countReturned_counters (s : State) (amount : Nat) :
    (s.countReturned amount).counter .returnsSent = satAdd (s.counter .returnsSent) 1 ∧
    (s.countReturned amount).counter .creditsReturned = satAdd (s.counter .creditsReturned) amount := by
  unfold State.countReturned
  rw [State.counter_countBy_ne _ _ _ _ (by decide), State.counter_count, State.counter_countBy,
    s.counter_count_ne (by decide)]
  exact ⟨rfl, rfl⟩

theorem State.countUnreturned_counters (s : State) (amount : Nat) :
    (s.countUnreturned amount).counter .returnsRefused = satAdd (s.counter .returnsRefused) 1 ∧
    (s.countUnreturned amount).counter .creditsUnreturned = satAdd (s.counter .creditsUnreturned) amount := by
  unfold State.countUnreturned
  rw [State.counter_countBy_ne _ _ _ _ (by decide), State.counter_count, State.counter_countBy,
    s.counter_count_ne (by decide)]
  exact ⟨rfl, rfl⟩

/-- The counters of a RETURN (R74, R78, R80). -/
def returnCounters : List Counter := [.returnsSent, .creditsReturned, .returnsRefused, .creditsUnreturned]

theorem State.countReturned_only (s : State) (amount : Nat) : CountsOnly returnCounters s (s.countReturned amount) :=
  (State.count_only (by decide) s).trans (State.countBy_only (by decide) _ _)

theorem State.countUnreturned_only (s : State) (amount : Nat) : CountsOnly returnCounters s (s.countUnreturned amount) :=
  (State.count_only (by decide) s).trans (State.countBy_only (by decide) _ _)

end Sys2Proof.Machine
end

section
/-!
PROOFS. A LEND at the canvasser (R73, R74, R80): the loans it raises, the excess that goes back, and the setpoint it leaves (R58,
log 49).
-/

namespace Sys2Proof.Machine

/-! ### What stays of the setpoint in force (R58, log 49) -/

/-- R58: the setpoint in force stays while the credits held cover it, and is withdrawn with enable where they do not. -/
def State.KeepsCovered (s t : State) : Prop :=
  t.ivi = if s.ivi.inForce ≤ (s.cru.base + t.cru.loans) * (s.img.creditKw * 10) then s.ivi
    else { s.ivi with inForce := 0, enable := false }

/-- R58: at a station on line the credits held cover the setpoint in force. -/
def State.Held (s : State) : Prop := s.ivi.inForce ≤ (s.cru.base + s.cru.loans) * (s.img.creditKw * 10)

/-- Where no credits are given away the setpoint stays. -/
theorem SamePower.keepsCovered {s t : State} (h : SamePower s t) (hheld : s.Held) : s.KeepsCovered t := by
  have hstill : s.ivi.inForce ≤ (s.cru.base + t.cru.loans) * (s.img.creditKw * 10) :=
    le_trans hheld (Nat.mul_le_mul_right _ (Nat.add_le_add_left h.loans _))
  exact h.ivi.trans (if_pos hstill).symm

theorem State.KeepsCovered.congr {s t u : State} (h : s.KeepsCovered t) (hivi : u.ivi = t.ivi)
    (hloans : u.cru.loans = t.cru.loans) : s.KeepsCovered u := by
  unfold State.KeepsCovered
  rw [hivi, hloans]
  exact h

/-! ### A LEND (R74, R80) -/

/-- R74: the loans of a matching LEND, before the want is looked at. -/
def State.borrowed (s : State) (c : Canvass) (amount : Nat) : State :=
  ({ s with cru := { s.cru with loans := s.cru.loans + amount, tracker := some { c with total := c.total + amount } } } :
    State).countBy .creditsBorrowed amount

/-- R74, R80: the excess leaves with its RETURN, or stays where the RETURN is refused. -/
def Offered.excessReturned (r : Offered) (c : Canvass) (excess : Nat) : State :=
  if r.taken then
    (({ r.state with cru := { r.state.cru with loans := r.state.cru.loans - excess, tracker := some { c with total := c.want } } } :
      State).countReturned excess).keepWithinCredits
  else r.state.countUnreturned excess

theorem State.takeLend_within {s : State} {c : Canvass} {amount : Nat} (h : c.total + amount ≤ c.want) (lender : Byte) :
    s.takeLend lender c amount = s.borrowed c amount := if_neg (Nat.not_lt.mpr h)

theorem State.takeLend_over {s : State} {c : Canvass} {amount : Nat} (h : c.want < c.total + amount) (lender : Byte) :
    s.takeLend lender c amount = ((s.borrowed c amount).offer (s.portToward lender)
      (s.returnTo lender c.number (c.total + amount - c.want))).excessReturned c (c.total + amount - c.want) := if_pos h

theorem State.borrowed_hasRoom (s : State) (c : Canvass) (amount : Nat) (p : Port) :
    (s.borrowed c amount).hasRoom p = s.hasRoom p := by cases p <;> rfl

theorem State.borrowed_linkIsUp (s : State) (c : Canvass) (amount : Nat) (p : Port) :
    (s.borrowed c amount).linkIsUp p = s.linkIsUp p := by cases p <;> rfl

theorem State.borrowed_port (s : State) (c : Canvass) (amount : Nat) (p : Port) :
    (s.borrowed c amount).port p = s.port p := by cases p <;> rfl

theorem State.borrowed_counter (s : State) (c : Canvass) (amount : Nat) {d : Counter} (h : d ≠ .creditsBorrowed) :
    (s.borrowed c amount).counter d = s.counter d := State.counter_countBy_ne _ _ _ _ h.symm

theorem Offered.excessReturned_taken (y : State) (c : Canvass) (excess : Nat) :
    (Offered.excessReturned ⟨y, true⟩ c excess).cru =
      { y.cru with loans := y.cru.loans - excess, tracker := some { c with total := c.want } } ∧
    (∀ p, (Offered.excessReturned ⟨y, true⟩ c excess).port p = y.port p) ∧
    ∀ d, (Offered.excessReturned ⟨y, true⟩ c excess).counter d = (y.countReturned excess).counter d := by
  unfold Offered.excessReturned
  rw [if_pos rfl, State.keepWithinCredits_eq]
  exact ⟨rfl, fun p => by cases p <;> rfl, fun _ => rfl⟩

/-- R58: the excess that goes back withdraws a setpoint that the credits left do not cover. -/
theorem Offered.excessReturned_keepsCovered {s y : State} (hpower : SamePower s y) (c : Canvass) (excess : Nat) :
    s.KeepsCovered (Offered.excessReturned ⟨y, true⟩ c excess) := by
  obtain ⟨hcru, -⟩ := Offered.excessReturned_taken y c excess
  unfold State.KeepsCovered
  rw [hcru, ← hpower.ivi, ← hpower.base]
  refine (State.keepWithinCredits_ivi _).trans ?_
  rw [show s.img = y.img from (congrArg (·.getD .blank) hpower.image.symm)]
  rfl

/-- The counters of a LEND (R74, R80, R81). -/
def lendCounters : List Counter := [.creditsBorrowed, .creditsRestored] ++ returnCounters

/-- R73: a reply leaves its canvass in the tracker with a total, and moves the loans; nothing that a close reads besides. -/
structure State.CanvassStands (s t : State) (c : Canvass) : Prop where
  cru : ∃ total, t.cru = { s.cru with loans := t.cru.loans, tracker := some { c with total := total } }
  counts : CountsOnly (.conflictsSeen :: lendCounters) s t
  now : t.now = s.now
  pos : t.pos = s.pos
  img : t.img = s.img

/-- R74, R80: the canvass stands whether or not the excess goes back. -/
theorem Offered.excessReturned_stands {s : State} {c : Canvass} {amount excess : Nat} {r : Offered}
    (hlink : LinkFrame (s.borrowed c amount) r.state) (hcounts : State.CountsOnly lendCounters s r.state) :
    s.CanvassStands (r.excessReturned c excess) c := by
  have hmicros := hlink.micros
  have hldu := hlink.ldu
  have hsvi := hlink.svi
  have hcru := hlink.cru
  obtain ⟨y, taken⟩ := r
  have hnow : y.now = s.now := congrArg (BitVec.ofNat 32 <| · / 1000) hmicros
  have hpos : y.pos = s.pos := congrArg (·.position.getD 0) hldu
  have himg : y.img = s.img := congrArg (·.image.getD .blank) hsvi
  cases taken with
  | true =>
    obtain ⟨hreturned, -, hcounters⟩ := Offered.excessReturned_taken y c excess
    have heq := State.keepWithinCredits_eq (({ y with cru := { y.cru with
      loans := y.cru.loans - excess, tracker := some { c with total := c.want } } } : State).countReturned excess)
    refine ⟨⟨c.want, ?_⟩, fun d hd => ?_, ?_, ?_, ?_⟩
    · rw [hreturned, show y.cru = _ from hcru]
      rfl
    · exact (hcounters d).trans ((((y.countReturned_only excess).mono (by decide)) d hd).trans ((hcounts.mono (by decide)) d hd))
    · exact (congrArg State.now heq).trans hnow
    · exact (congrArg State.pos heq).trans hpos
    · exact (congrArg State.img heq).trans himg
  | false =>
    exact ⟨⟨c.total + amount, hcru⟩, (hcounts.mono (by decide)).trans ((y.countUnreturned_only excess).mono (by decide)), hnow,
      hpos, himg⟩

/-- R73, R74: whatever its queue answers, a LEND leaves the canvass open. -/
theorem State.takeLend_stands (s : State) (lender : Byte) (c : Canvass) (amount : Nat) :
    s.CanvassStands (s.takeLend lender c amount) c := by
  have hborrows : CountsOnly lendCounters s (s.borrowed c amount) :=
    (CountsOnly.of_counters rfl).trans (State.countBy_only (by decide) _ _)
  rcases Nat.lt_or_ge c.want (c.total + amount) with hover | hwithin
  · rw [State.takeLend_over hover]
    exact Offered.excessReturned_stands (State.offer_link _ _ _) (hborrows.trans ((State.offer_only _ _ _).mono (by decide)))
  · rw [State.takeLend_within hwithin]
    exact ⟨⟨c.total + amount, rfl⟩, hborrows.mono (by decide), rfl, rfl, rfl⟩

/-- R74: the excess of a LEND goes back through a port with room. -/
theorem State.takeLend_room {s : State} {c : Canvass} {amount : Nat} {lender : Byte} (hover : c.want < c.total + amount)
    (hroom : s.hasRoom (s.portToward lender) = true) :
    (s.takeLend lender c amount).cru = { s.cru with
      loans := s.cru.loans + amount - (c.total + amount - c.want), tracker := some { c with total := c.want } } ∧
    ((s.takeLend lender c amount).port (s.portToward lender)).localQ =
      s.joined (s.portToward lender) lender (.ret c.number (BitVec.ofNat 16 (c.total + amount - c.want))) ∧
    (s.takeLend lender c amount).counter .returnsSent = satAdd (s.counter .returnsSent) 1 ∧
    (s.takeLend lender c amount).counter .creditsReturned =
      satAdd (s.counter .creditsReturned) (c.total + amount - c.want) := by
  have hroom' := (s.borrowed_hasRoom c amount _).trans hroom
  have htaken := State.offer_of_hasRoom hroom' (s.returnTo lender c.number (c.total + amount - c.want))
  rw [State.takeLend_over hover, htaken]
  generalize c.total + amount - c.want = excess
  obtain ⟨hcru, hport, hcounter⟩ := Offered.excessReturned_taken
    ((s.borrowed c amount).takeLocal (s.portToward lender) ((s.borrowed c amount).port (s.portToward lender)).localQ
      (s.returnTo lender c.number excess)) c excess
  have hkept {d : Counter} (h : d ≠ .creditsBorrowed) : ((s.borrowed c amount).takeLocal (s.portToward lender)
      ((s.borrowed c amount).port (s.portToward lender)).localQ (s.returnTo lender c.number excess)).counter d = s.counter d := by
    refine Eq.trans ?_ (s.borrowed_counter c amount h)
    unfold State.counter
    rw [State.takeLocal_counters]
  obtain ⟨hsent, hreturned⟩ := State.countReturned_counters ((s.borrowed c amount).takeLocal (s.portToward lender)
    ((s.borrowed c amount).port (s.portToward lender)).localQ (s.returnTo lender c.number excess)) excess
  rw [State.takeLocal_cru] at hcru
  rw [hkept (by decide)] at hsent hreturned
  refine ⟨hcru, ?_, (hcounter _).trans hsent, (hcounter _).trans hreturned⟩
  rw [hport, State.takeLocal_localQ, State.borrowed_port]
  rfl

/-- R80: the excess of a LEND stays while the link toward its lender is DOWN. -/
theorem State.takeLend_down {s : State} {c : Canvass} {amount : Nat} {lender : Byte} (hover : c.want < c.total + amount)
    (hdown : s.linkIsUp (s.portToward lender) = false) :
    (s.takeLend lender c amount).cru = { s.cru with
      loans := s.cru.loans + amount, tracker := some { c with total := c.total + amount } } ∧
    (s.takeLend lender c amount).counter .returnsRefused = satAdd (s.counter .returnsRefused) 1 ∧
    (s.takeLend lender c amount).counter .creditsUnreturned =
      satAdd (s.counter .creditsUnreturned) (c.total + amount - c.want) := by
  have hrefused := State.offer_of_linkDown ((s.borrowed_linkIsUp c amount _).trans hdown)
    (s.returnTo lender c.number (c.total + amount - c.want))
  rw [State.takeLend_over hover, hrefused]
  generalize c.total + amount - c.want = excess
  have hkept {d : Counter} (h : d ≠ .creditsBorrowed) : ((s.borrowed c amount).refuseLocal (s.portToward lender)
      (s.returnTo lender c.number excess)).counter d = s.counter d := by
    refine Eq.trans ?_ (s.borrowed_counter c amount h)
    unfold State.counter
    rw [State.refuseLocal_counters]
  obtain ⟨hsent, hreturned⟩ := State.countUnreturned_counters ((s.borrowed c amount).refuseLocal (s.portToward lender)
    (s.returnTo lender c.number excess)) excess
  rw [hkept (by decide)] at hsent hreturned
  exact ⟨State.refuseLocal_cru (s.borrowed c amount) _ (s.returnTo lender c.number excess), hsent, hreturned⟩

/-- R58, R74: a LEND whose excess goes back withdraws a setpoint that the credits left do not cover. -/
theorem State.takeLend_keepsCovered {s : State} (hheld : s.Held) (lender : Byte) (c : Canvass) (amount : Nat) :
    s.KeepsCovered (s.takeLend lender c amount) := by
  have hborrows : SamePower s (s.borrowed c amount) := ⟨rfl, Nat.le_add_right _ _⟩
  rcases Nat.lt_or_ge c.want (c.total + amount) with hover | hwithin
  · rw [State.takeLend_over hover]
    have hpower := hborrows.trans ((s.borrowed c amount).offer_power (s.portToward lender)
      (s.returnTo lender c.number (c.total + amount - c.want)))
    generalize (s.borrowed c amount).offer (s.portToward lender) (s.returnTo lender c.number (c.total + amount - c.want)) = r at *
    obtain ⟨y, taken⟩ := r
    cases taken with
    | true => exact Offered.excessReturned_keepsCovered hpower c _
    | false => exact (hpower.trans (SamePower.trans (y.count_power _) (State.countBy_power _ _ _))).keepsCovered hheld
  · rw [State.takeLend_within hwithin]
    exact hborrows.keepsCovered hheld

end Sys2Proof.Machine
end

section
/-!
PROOFS. A REPLY to the open canvass, and a late one (R73, R75, R78).
-/

namespace Sys2Proof.Machine

/-! ### A reply to the open canvass (R73) -/

/-- R73: the tracker once it has counted a reply. -/
def Canvass.heard (c : Canvass) (k : ReplyKind) : Canvass :=
  { c with received := c.received + 1, conflict := c.conflict || k == .conflict }

theorem Canvass.heard_lend (c : Canvass) : c.heard .lend = { c with received := c.received + 1 } :=
  congrArg (fun b => { c with received := c.received + 1, conflict := b }) (Bool.or_false _)

theorem State.matchReply_lend (s : State) (lender : Byte) (c : Canvass) (amount : Nat) :
    s.matchReply lender c .lend amount = s.takeLend lender (c.heard .lend) amount := by
  rw [Canvass.heard_lend]
  rfl

/-- R73: a DECLINE or a CONFLICT only fills the tracker. -/
theorem State.matchReply_other {k : ReplyKind} (h : k ≠ .lend) (s : State) (lender : Byte) (c : Canvass) (amount : Nat) :
    s.CanvassStands (s.matchReply lender c k amount) (c.heard k) ∧
    (s.matchReply lender c k amount).cru = { s.cru with tracker := some (c.heard k) } ∧
    State.CountsOnly [.conflictsSeen] s (s.matchReply lender c k amount) ∧
    (∀ p, (s.matchReply lender c k amount).port p = s.port p) ∧ SamePower s (s.matchReply lender c k amount) := by
  cases k with
  | lend => contradiction
  | decline =>
    have hheard : c.heard .decline = { c with received := c.received + 1 } :=
      congrArg (fun b => { c with received := c.received + 1, conflict := b }) (Bool.or_false _)
    rw [hheard]
    exact ⟨⟨⟨c.total, rfl⟩, fun _ _ => rfl, rfl, rfl, rfl⟩, rfl, fun _ _ => rfl, fun p => by cases p <;> rfl, rfl, Nat.le_refl _⟩
  | conflict =>
    have hheard : c.heard .conflict = { c with received := c.received + 1, conflict := true } :=
      congrArg (fun b => { c with received := c.received + 1, conflict := b }) (Bool.or_true _)
    have hcounts : State.CountsOnly [.conflictsSeen] s (s.matchReply lender c .conflict amount) :=
      fun d hd => s.counter_countBy_ne _ d 1 fun he => hd (he ▸ List.mem_cons_self)
    rw [hheard]
    exact ⟨⟨⟨c.total, rfl⟩, hcounts.mono (by decide), rfl, rfl, rfl⟩, rfl, hcounts, fun p => by cases p <;> rfl, rfl, Nat.le_refl _⟩

theorem State.matchReply_stands (s : State) (lender : Byte) (c : Canvass) (k : ReplyKind) (amount : Nat) :
    s.CanvassStands (s.matchReply lender c k amount) (c.heard k) := by
  by_cases h : k = .lend
  · subst h
    rw [State.matchReply_lend]
    exact s.takeLend_stands _ _ _
  · exact (State.matchReply_other h s lender c amount).1

/-- R73, R74: a reply that does not pass the want. -/
theorem State.matchReply_within {s : State} {c : Canvass} {k : ReplyKind} {amount : Nat}
    (h : k = .lend → c.total + amount ≤ c.want) (lender : Byte) :
    (s.matchReply lender c k amount).cru = { s.cru with
      loans := if k = .lend then s.cru.loans + amount else s.cru.loans
      tracker := some { c.heard k with total := if k = .lend then c.total + amount else c.total } } ∧
    (s.matchReply lender c k amount).counter .creditsBorrowed =
      satAdd (s.counter .creditsBorrowed) (if k = .lend then amount else 0) ∧
    ∀ p, (s.matchReply lender c k amount).port p = s.port p := by
  by_cases hlend : k = .lend
  · have hwithin : (c.heard k).total + amount ≤ (c.heard k).want := h hlend
    rw [if_pos hlend, if_pos hlend, if_pos hlend]
    subst hlend
    rw [State.matchReply_lend, State.takeLend_within hwithin]
    exact ⟨rfl, State.counter_countBy _ _ _, s.borrowed_port _ _⟩
  · rw [if_neg hlend, if_neg hlend, if_neg hlend, satAdd_zero]
    obtain ⟨-, hcru, hcounts, hports, -⟩ := State.matchReply_other hlend s lender c amount
    exact ⟨hcru, hcounts _ (by decide), hports⟩

theorem State.closeCanvass_loans (s : State) (c : Canvass) (why : Counter) :
    (s.closeCanvass c why).cru.loans = s.cru.loans := by
  rw [State.closeCanvass_eq]
  split
  · rfl
  split
  · rfl
  · rfl

/-- R75, R76: a canvass that has heard its last reply closes, with the wait of a station still short. -/
theorem State.CanvassStands.closes {s t : State} {c : Canvass} (h : s.CanvassStands t c) (hlast : c.expected ≤ c.received) :
    (t.closeIfAnswered).cru.loans = t.cru.loans ∧ (∀ p, (t.closeIfAnswered).port p = t.port p) ∧
    (t.closeIfAnswered).counter .canvassesAnswered = satAdd (s.counter .canvassesAnswered) 1 ∧
    ∀ short : Bool, short = decide (s.cru.base + (t.closeIfAnswered).cru.loans < s.cru.need.getD 0) →
      (t.closeIfAnswered).cru = { s.cru with
        loans := (t.closeIfAnswered).cru.loans, tracker := none
        backoff := if short && c.conflict then some (after s.now ((s.pos.val + 1) * s.img.backoffUnit)) else s.cru.backoff
        recanvass := if short && !c.conflict then some (after s.now s.img.recanvassInterval) else s.cru.recanvass } ∧
      (t.closeIfAnswered).counter .backoffs = satAdd (s.counter .backoffs) (if short && c.conflict then 1 else 0) ∧
      (t.closeIfAnswered).counter .recanvassWaits =
        satAdd (s.counter .recanvassWaits) (if short && !c.conflict then 1 else 0) := by
  obtain ⟨⟨total, hcru⟩, hcounts, hnow, hpos, himg⟩ := h
  have hcloses := State.closeIfAnswered_closes (c := { c with total := total }) (congrArg Cru.tracker hcru) hlast
  have hloans : (t.closeCanvass { c with total := total } .canvassesAnswered).cru.loans = t.cru.loans :=
    t.closeCanvass_loans _ _
  obtain ⟨-, hanswered, -⟩ := t.closeCanvass_items { c with total := total } (why := .canvassesAnswered) (by decide) rfl
  rw [hcloses]
  refine ⟨hloans, t.closeCanvass_port _ _, hanswered.trans (congrArg (satAdd · 1) (hcounts _ (by decide))), fun short hshort => ?_⟩
  have hbase : t.cru.base = s.cru.base := (congrArg Cru.base hcru :)
  have hneed : t.cru.need = s.cru.need := (congrArg Cru.need hcru :)
  have hbackoff : t.cru.backoff = s.cru.backoff := (congrArg Cru.backoff hcru :)
  have hwait : t.cru.recanvass = s.cru.recanvass := (congrArg Cru.recanvass hcru :)
  rw [hloans] at hshort ⊢
  obtain ⟨hclosed, -, hbackoffs, hwaits⟩ := t.closeCanvass_items { c with total := total } (why := .canvassesAnswered) (by decide)
    (short := short) (by rw [hshort, hbase, hneed])
  rw [hnow, hpos, himg, hbackoff, hwait] at hclosed
  rw [hcounts _ (by decide)] at hbackoffs hwaits
  refine ⟨hclosed.trans ?_, hbackoffs, hwaits⟩
  generalize t.cru.loans = loans at hcru
  rw [hcru]

/-- R58: no reply to the open canvass leaves a setpoint that the credits held do not cover. -/
theorem State.matchReply_keepsCovered {s : State} (hheld : s.Held) (lender : Byte) (c : Canvass) (k : ReplyKind) (amount : Nat) :
    s.KeepsCovered (s.matchReply lender c k amount) := by
  by_cases h : k = .lend
  · subst h
    rw [State.matchReply_lend]
    exact State.takeLend_keepsCovered hheld _ _ _
  · obtain ⟨-, -, -, -, hpower⟩ := State.matchReply_other h s lender c amount
    exact hpower.keepsCovered hheld

theorem State.closeIfAnswered_loans (s : State) : s.closeIfAnswered.cru.loans = s.cru.loans := by
  unfold State.closeIfAnswered
  split
  · split
    · exact s.closeCanvass_loans _ _
    · rfl
  · rfl

/-! ### A late LEND (R78) -/

/-- R78: what a station keeps of a late LEND. -/
def Cru.keeps (c : Cru) (amount : Nat) : Nat := min amount (c.needed - c.held)

/-- R78: the loans of a late LEND, those that the station keeps. -/
def State.kept (s : State) (amount : Nat) : State := { s with cru := { s.cru with loans := s.cru.loans + s.cru.keeps amount } }

/-- R78, R80: the rest of a late LEND leaves with its RETURN, or stays where the RETURN is refused. -/
def Offered.restReturned (r : Offered) (back : Nat) : State :=
  if r.taken then r.state.countReturned back
  else ({ r.state with cru := { r.state.cru with loans := r.state.cru.loans + back } } : State).countUnreturned back

/-- R78: the loans and the RETURN of a late LEND, before it is counted. -/
def State.lateSettled (s : State) (lender : Byte) (n : Half) (amount : Nat) : State :=
  if s.cru.keeps amount < amount then
    ((s.kept amount).offerReturn lender n (amount - s.cru.keeps amount)).restReturned (amount - s.cru.keeps amount)
  else s.kept amount

theorem State.lateLend_eq (s : State) (lender : Byte) (n : Half) (amount : Nat) : s.lateLend lender n amount =
    (((s.lateSettled lender n amount).count .lateLends).countBy .lateCreditsReceived amount).countBy .lateCreditsKept
      (s.cru.keeps amount) := rfl

theorem State.kept_hasRoom (s : State) (amount : Nat) (p : Port) : (s.kept amount).hasRoom p = s.hasRoom p := by cases p <;> rfl

theorem State.kept_linkIsUp (s : State) (amount : Nat) (p : Port) : (s.kept amount).linkIsUp p = s.linkIsUp p := by
  cases p <;> rfl

theorem State.kept_port (s : State) (amount : Nat) (p : Port) : (s.kept amount).port p = s.port p := by cases p <;> rfl

/-- R78: the settlement leaves the tracker, and its RETURN's counters alone move. -/
theorem State.lateSettled_leaves (s : State) (lender : Byte) (n : Half) (amount : Nat) :
    (s.lateSettled lender n amount).cru.tracker = s.cru.tracker ∧
    CountsOnly (.creditsRestored :: returnCounters) s (s.lateSettled lender n amount) := by
  unfold State.lateSettled
  split
  · rw [State.offerReturn_eq]
    generalize amount - s.cru.keeps amount = back
    have hlink := (s.kept amount).offer_link ((s.kept amount).portToward lender) ((s.kept amount).returnTo lender n back)
    have honly := (s.kept amount).offer_only ((s.kept amount).portToward lender) ((s.kept amount).returnTo lender n back)
    generalize (s.kept amount).offer ((s.kept amount).portToward lender) ((s.kept amount).returnTo lender n back) = r at *
    obtain ⟨y, taken⟩ := r
    have htracker : y.cru.tracker = s.cru.tracker := (congrArg Cru.tracker hlink.cru :)
    have hoffers : CountsOnly (.creditsRestored :: returnCounters) s y := fun d hd => (honly.mono (by decide)) d hd
    cases taken with
    | true => exact ⟨htracker, hoffers.trans ((y.countReturned_only back).mono (by decide))⟩
    | false => exact ⟨htracker, hoffers.trans ((y.countUnreturned_only back).mono (by decide))⟩
  · exact ⟨rfl, fun _ _ => rfl⟩

/-- R78: a port with room takes the RETURN of the rest, where there is one. -/
theorem State.lateSettled_room {s : State} {lender : Byte} (hroom : s.hasRoom (s.portToward lender) = true) (n : Half) (amount : Nat)
    {back : Nat} (hback : back = amount - s.cru.keeps amount) :
    (s.lateSettled lender n amount).cru.loans = s.cru.loans + s.cru.keeps amount ∧
    ((s.lateSettled lender n amount).port (s.portToward lender)).localQ =
      (if 0 < back then s.joined (s.portToward lender) lender (.ret n (BitVec.ofNat 16 back))
        else (s.port (s.portToward lender)).localQ) ∧
    (s.lateSettled lender n amount).counter .returnsSent = satAdd (s.counter .returnsSent) (if 0 < back then 1 else 0) ∧
    (s.lateSettled lender n amount).counter .creditsReturned = satAdd (s.counter .creditsReturned) back := by
  unfold State.lateSettled
  rw [← hback]
  by_cases hrest : s.cru.keeps amount < amount
  · have hroom' := (s.kept_hasRoom amount _).trans hroom
    have hpositive : 0 < back := by omega
    have hoffered : (s.kept amount).offerReturn lender n back = ⟨(s.kept amount).takeLocal (s.portToward lender)
        ((s.kept amount).port (s.portToward lender)).localQ (s.returnTo lender n back), true⟩ := State.offer_of_hasRoom hroom' _
    rw [if_pos hrest, if_pos hpositive, if_pos hpositive, hoffered]
    have hcounters : ∀ d, ((s.kept amount).takeLocal (s.portToward lender) ((s.kept amount).port (s.portToward lender)).localQ
        (s.returnTo lender n back)).counter d = s.counter d := fun d => by
      unfold State.counter
      rw [State.takeLocal_counters]
      rfl
    obtain ⟨hsent, hreturned⟩ := State.countReturned_counters ((s.kept amount).takeLocal (s.portToward lender)
      ((s.kept amount).port (s.portToward lender)).localQ (s.returnTo lender n back)) back
    rw [hcounters] at hsent hreturned
    refine ⟨congrArg Cru.loans (State.takeLocal_cru (s.kept amount) _ _ _), ?_, hsent, hreturned⟩
    rw [State.kept_port]
    generalize s.portToward lender = p
    cases p <;> rfl
  · obtain rfl : back = 0 := by omega
    rw [if_neg hrest, if_neg (Nat.lt_irrefl 0), if_neg (Nat.lt_irrefl 0), State.kept_port, satAdd_zero, satAdd_zero]
    exact ⟨rfl, rfl, rfl, rfl⟩

/-- R80: while the link toward its lender is DOWN all of a late LEND stays. -/
theorem State.lateSettled_down {s : State} {lender : Byte} (hdown : s.linkIsUp (s.portToward lender) = false) (n : Half)
    (amount : Nat) : (s.lateSettled lender n amount).cru.loans = s.cru.loans + amount := by
  have hkeeps : s.cru.keeps amount ≤ amount := Nat.min_le_left _ _
  unfold State.lateSettled
  split
  · have hoffered : (s.kept amount).offerReturn lender n (amount - s.cru.keeps amount) = ⟨(s.kept amount).refuseLocal
        (s.portToward lender) (s.returnTo lender n (amount - s.cru.keeps amount)), false⟩ :=
      State.offer_of_linkDown ((s.kept_linkIsUp amount _).trans hdown) _
    have hrefused := congrArg Cru.loans (State.refuseLocal_cru (s.kept amount) (s.portToward lender)
      (s.returnTo lender n (amount - s.cru.keeps amount)))
    rw [hoffered]
    refine (congrArg (· + (amount - s.cru.keeps amount)) hrefused).trans ?_
    show s.cru.loans + s.cru.keeps amount + _ = _
    omega
  · show s.cru.loans + s.cru.keeps amount = _
    omega

/-- R78: the counters of a late LEND beside its RETURN's. -/
theorem State.lateLend_counted (s : State) (lender : Byte) (n : Half) (amount : Nat) :
    (s.lateLend lender n amount).counter .lateLends = satAdd (s.counter .lateLends) 1 ∧
    (s.lateLend lender n amount).counter .lateCreditsReceived = satAdd (s.counter .lateCreditsReceived) amount ∧
    (s.lateLend lender n amount).counter .lateCreditsKept = satAdd (s.counter .lateCreditsKept) (s.cru.keeps amount) := by
  obtain ⟨-, hcounts⟩ := s.lateSettled_leaves lender n amount
  rw [State.lateLend_eq, State.counter_countBy_ne _ _ _ _ (by decide), State.counter_countBy_ne _ _ _ _ (by decide),
    State.counter_countBy_ne _ _ _ _ (by decide), State.counter_count, State.counter_countBy, State.counter_countBy,
    State.counter_countBy_ne _ _ _ _ (by decide), State.counter_count_ne _ (by decide), State.counter_count_ne _ (by decide),
    hcounts _ (by decide), hcounts _ (by decide), hcounts _ (by decide)]
  exact ⟨rfl, rfl, rfl⟩

theorem State.lateLend_counter (s : State) (lender : Byte) (n : Half) (amount : Nat) {d : Counter}
    (h : d ∉ [Counter.lateLends, .lateCreditsReceived, .lateCreditsKept]) :
    (s.lateLend lender n amount).counter d = (s.lateSettled lender n amount).counter d := by
  have hcounted : CountsOnly [Counter.lateLends, .lateCreditsReceived, .lateCreditsKept] (s.lateSettled lender n amount)
      (s.lateLend lender n amount) :=
    ((State.count_only (by decide) _).trans (State.countBy_only (by decide) _ _)).trans (State.countBy_only (by decide) _ _)
  exact hcounted d h

theorem State.lateLend_port (s : State) (lender : Byte) (n : Half) (amount : Nat) (p : Port) :
    (s.lateLend lender n amount).port p = (s.lateSettled lender n amount).port p := by
  rw [State.lateLend_eq]
  generalize s.lateSettled lender n amount = t
  cases p <;> rfl

theorem State.lateReply_other {k : ReplyKind} (h : k ≠ .lend) (s : State) (lender : Byte) (n : Half) (amount : Nat) :
    s.lateReply lender n k amount = s.count .lateRepliesIgnored := by
  cases k with
  | lend => contradiction
  | decline => rfl
  | conflict => rfl

theorem State.lateReply_power (s : State) (lender : Byte) (n : Half) (k : ReplyKind) (amount : Nat) :
    SamePower s (s.lateReply lender n k amount) := by
  by_cases h : k = .lend
  · subst h
    exact s.lateLend_power _ _ _
  · rw [State.lateReply_other h]
    exact s.count_power _

/-- R58: no REPLY leaves a setpoint that the credits held do not cover. -/
theorem State.takeReply_keepsCovered {s : State} (hheld : s.Held) (lender : Byte) (n : Half) (k : ReplyKind) (amount : Nat) :
    s.KeepsCovered (s.takeReply lender n k amount) := by
  by_cases hopen : ∃ c, s.cru.tracker = some c ∧ c.number = n
  · obtain ⟨c, htracker, hnumber⟩ := hopen
    rw [State.takeReply_matching htracker hnumber]
    exact (State.matchReply_keepsCovered hheld lender c k amount).congr (State.closeIfAnswered_power _).ivi
      (State.closeIfAnswered_loans _)
  · rw [State.takeReply_late fun c htracker hnumber => hopen ⟨c, htracker, hnumber⟩]
    exact (s.lateReply_power lender n k amount).keepsCovered hheld

end Sys2Proof.Machine
end

section
/-!
PROOFS. A REPLY that reached its destination (R73 to R80), case by case, and the settlement of O58.
-/

namespace Sys2Proof.Machine

/-! ### The outcomes of a REPLY -/

section
variable {s : State} {c : Canvass} {n : Half} {k : ReplyKind} {amount : Nat} {lender : Byte}
  (htracker : s.cru.tracker = some c) (hnumber : c.number = n)
include htracker hnumber

/-- R73: while replies are outstanding the canvass stays as its reply left it. -/
theorem State.takeReply_stillOpen (hopen : c.received + 1 < c.expected) :
    s.takeReply lender n k amount = s.matchReply lender c k amount := by
  obtain ⟨total, hcru⟩ := (s.matchReply_stands lender c k amount).cru
  rw [State.takeReply_matching htracker hnumber,
    State.closeIfAnswered_open (c := { c.heard k with total := total }) (congrArg Cru.tracker hcru :) hopen]

/-- R74: the excess of a LEND that leaves the canvass open. -/
theorem State.takeReply_excess (hopen : c.received + 1 < c.expected) (hover : c.want < c.total + amount)
    (hroom : s.hasRoom (s.portToward lender) = true) (hwant : c.total ≤ c.want) :
    (s.takeReply lender n .lend amount).cru.loans = s.cru.loans + (c.want - c.total) ∧
    (s.takeReply lender n .lend amount).cru.tracker = some { c with received := c.received + 1, total := c.want } ∧
    ((s.takeReply lender n .lend amount).port (s.portToward lender)).localQ =
      s.joined (s.portToward lender) lender (.ret c.number (BitVec.ofNat 16 (c.total + amount - c.want))) ∧
    (s.takeReply lender n .lend amount).counter .returnsSent = satAdd (s.counter .returnsSent) 1 ∧
    (s.takeReply lender n .lend amount).counter .creditsReturned =
      satAdd (s.counter .creditsReturned) (c.total + amount - c.want) := by
  rw [State.takeReply_stillOpen htracker hnumber hopen, State.matchReply_lend, Canvass.heard_lend]
  obtain ⟨hcru, hjoined, hsent, hreturned⟩ := State.takeLend_room (c := { c with received := c.received + 1 }) hover hroom
  refine ⟨?_, congrArg Cru.tracker hcru, hjoined, hsent, hreturned⟩
  refine (congrArg Cru.loans hcru).trans ?_
  show s.cru.loans + amount - (c.total + amount - c.want) = _
  omega

/-- R80: the excess stays while the link toward its lender is DOWN. -/
theorem State.takeReply_unreturned (hopen : c.received + 1 < c.expected) (hover : c.want < c.total + amount)
    (hdown : s.linkIsUp (s.portToward lender) = false) :
    (s.takeReply lender n .lend amount).cru = { s.cru with
      loans := s.cru.loans + amount, tracker := some { c with received := c.received + 1, total := c.total + amount } } ∧
    (s.takeReply lender n .lend amount).counter .returnsRefused = satAdd (s.counter .returnsRefused) 1 ∧
    (s.takeReply lender n .lend amount).counter .creditsUnreturned =
      satAdd (s.counter .creditsUnreturned) (c.total + amount - c.want) := by
  rw [State.takeReply_stillOpen htracker hnumber hopen, State.matchReply_lend, Canvass.heard_lend]
  exact State.takeLend_down (c := { c with received := c.received + 1 }) hover hdown

/-- R75, R76: the last reply expected closes the canvass. -/
theorem State.takeReply_closes (hlast : c.expected ≤ c.received + 1) :
    (s.takeReply lender n k amount).counter .canvassesAnswered = satAdd (s.counter .canvassesAnswered) 1 ∧
    (k ≠ .lend → (s.takeReply lender n k amount).cru.loans = s.cru.loans) ∧
    (k = .lend → c.total + amount ≤ c.want → (s.takeReply lender n k amount).cru.loans = s.cru.loans + amount) ∧
    (k = .lend → c.want < c.total + amount →
      (s.hasRoom (s.portToward lender) = true →
        (s.takeReply lender n k amount).cru.loans = s.cru.loans + amount - (c.total + amount - c.want) ∧
        ((s.takeReply lender n k amount).port (s.portToward lender)).localQ =
          s.joined (s.portToward lender) lender (.ret c.number (BitVec.ofNat 16 (c.total + amount - c.want)))) ∧
      (s.linkIsUp (s.portToward lender) = false → (s.takeReply lender n k amount).cru.loans = s.cru.loans + amount)) ∧
    ∀ short conflict : Bool,
      short = decide (s.cru.base + (s.takeReply lender n k amount).cru.loans < s.cru.need.getD 0) →
      conflict = (c.conflict || k == .conflict) →
      (s.takeReply lender n k amount).cru = { s.cru with
        loans := (s.takeReply lender n k amount).cru.loans, tracker := none
        backoff := if short && conflict then some (after s.now ((s.pos.val + 1) * s.img.backoffUnit)) else s.cru.backoff
        recanvass := if short && !conflict then some (after s.now s.img.recanvassInterval) else s.cru.recanvass } ∧
      (s.takeReply lender n k amount).counter .backoffs = satAdd (s.counter .backoffs) (if short && conflict then 1 else 0) ∧
      (s.takeReply lender n k amount).counter .recanvassWaits =
        satAdd (s.counter .recanvassWaits) (if short && !conflict then 1 else 0) := by
  obtain ⟨hloans, hports, hanswered, hwaits⟩ := (s.matchReply_stands lender c k amount).closes hlast
  rw [State.takeReply_matching htracker hnumber]
  refine ⟨hanswered, fun hkind => hloans.trans ?_, fun hkind hwithin => hloans.trans ?_,
    fun hkind hover => ⟨fun hroom => ?_, fun hdown => hloans.trans ?_⟩, fun short conflict hshort hconflict => ?_⟩
  · obtain ⟨-, hcru, -⟩ := State.matchReply_other hkind s lender c amount
    rw [hcru]
  · rw [hkind, State.matchReply_lend, State.takeLend_within (c := c.heard .lend) hwithin]
    rfl
  · rw [hloans, hports, hkind, State.matchReply_lend]
    obtain ⟨hcru, hjoined, -⟩ := State.takeLend_room (c := c.heard .lend) hover hroom
    exact ⟨congrArg Cru.loans hcru, hjoined⟩
  · rw [hkind, State.matchReply_lend]
    exact congrArg Cru.loans (State.takeLend_down (c := c.heard .lend) hover hdown).1
  · subst hconflict
    exact hwaits short hshort

end

theorem Cru.sub_keeps (c : Cru) (amount : Nat) : amount - c.keeps amount = amount - (c.need.getD 0 - (c.base + c.loans)) := by
  show amount - min amount (c.need.getD 0 - (c.base + c.loans)) = _
  omega

/-- R78, R80: a late LEND, the credits that the station needs kept and the rest returned. -/
theorem State.lateLend_outcome (s : State) (lender : Byte) (n : Half) (amount : Nat) :
    (s.lateLend lender n amount).cru.tracker = s.cru.tracker ∧
    (s.lateLend lender n amount).counter .lateLends = satAdd (s.counter .lateLends) 1 ∧
    (s.lateLend lender n amount).counter .lateCreditsReceived = satAdd (s.counter .lateCreditsReceived) amount ∧
    (s.lateLend lender n amount).counter .lateCreditsKept = satAdd (s.counter .lateCreditsKept) (s.cru.keeps amount) ∧
    (s.hasRoom (s.portToward lender) = true → (s.lateLend lender n amount).cru.loans = s.cru.loans + s.cru.keeps amount ∧
      ∀ back : Nat, back = amount - (s.cru.need.getD 0 - (s.cru.base + s.cru.loans)) →
        ((s.lateLend lender n amount).port (s.portToward lender)).localQ =
          (if 0 < back then s.joined (s.portToward lender) lender (.ret n (BitVec.ofNat 16 back))
            else (s.port (s.portToward lender)).localQ) ∧
        (s.lateLend lender n amount).counter .returnsSent = satAdd (s.counter .returnsSent) (if 0 < back then 1 else 0) ∧
        (s.lateLend lender n amount).counter .creditsReturned = satAdd (s.counter .creditsReturned) back) ∧
    (s.linkIsUp (s.portToward lender) = false → (s.lateLend lender n amount).cru.loans = s.cru.loans + amount) := by
  obtain ⟨hlends, hreceived, hkept⟩ := s.lateLend_counted lender n amount
  refine ⟨(s.lateSettled_leaves lender n amount).1, hlends, hreceived, hkept, fun hroom => ⟨?_, fun back hback => ?_⟩,
    fun hdown => State.lateSettled_down hdown n amount⟩
  · exact (State.lateSettled_room hroom n amount rfl).1
  · rw [State.lateLend_port, s.lateLend_counter lender n amount (by decide), s.lateLend_counter lender n amount (by decide)]
    exact (State.lateSettled_room hroom n amount (hback.trans (s.cru.sub_keeps amount).symm)).2

/-! ### The REPLY past the router -/

/-- A REPLY addressed to this station reaches the Credit Unit. -/
theorem exec_reply_eq {e : Env} {a : Arrival} {n amount : Half} {k : ReplyKind} {s : State}
    (h : s.admits a (.reply n k amount) = true) (hdst : a.dst = s.originByte) : exec (.reply e a n k amount) s =
      .next (((s.observe e).consumed a.port (arrivedFrame a (.reply n k amount))).takeReply a.src n k amount.toNat) :=
  congrArg Host.Outcome.next (State.frameArrives_consumed (s := s.observe e) h rfl hdst)

/-- All that the Credit Unit reads, for a REPLY, of the state `w` in which its frame has been consumed. -/
structure State.ReadsAs (s w : State) : Prop where
  cru : w.cru = s.cru
  ivi : w.ivi = s.ivi
  pos : w.pos = s.pos
  img : w.img = s.img
  counter : ∀ d, w.counter d = s.counter d
  localQ : ∀ p, (w.port p).localQ = (s.port p).localQ
  hasRoom : ∀ p, w.hasRoom p = s.hasRoom p
  linkIsUp : ∀ p, w.linkIsUp p = s.linkIsUp p
  joined : ∀ p dst x, w.joined p dst x = s.joined p dst x
  portToward : ∀ b : Byte, w.portToward b = if b.toNat < s.pos.val then .up else .down

theorem State.ReadsAs.of_consumed (s : State) (e : Env) (p : Port) (f : Frame) : s.ReadsAs ((s.observe e).consumed p f) := by
  have h := (s.observe e).consumed_frame p f
  exact ⟨h.cru, by rw [h.rest]; rfl, h.pos, h.img, h.counter, fun q => (h.localQ q).trans (by cases q <;> rfl),
    fun q => (h.hasRoom q).trans (s.observe_hasRoom e q), fun q => (h.linkIsUp q).trans (by cases q <;> rfl),
    fun q dst x => (h.joined q dst x).trans (s.observe_joined e q dst x), h.portToward⟩

/-- Settles O58: a reply fills the canvass it answers, closes it as the last expected, or is late. -/
theorem replyFillsTheCanvass : Obligations.ReplyFillsTheCanvass := by
  rintro e a n k amount s u rfl hadmits hdst
  have hexec := exec_reply_eq (e := e) hadmits hdst
  have hreads := State.ReadsAs.of_consumed s e a.port (arrivedFrame a (.reply n k amount))
  have hnow := ((s.observe e).consumed_frame a.port (arrivedFrame a (.reply n k amount))).now
  have hports {t : State} := State.PortsReceived.of_consumed (s := s.observe e) (t := t) (p := a.port)
    (f := arrivedFrame a (.reply n k amount))
  generalize (s.observe e).consumed a.port (arrivedFrame a (.reply n k amount)) = w at *
  obtain ⟨hcru, hivi, hpos, himg, hcounter, hlocalQ, hroom, hup, hjoined, htoward⟩ := hreads
  refine ⟨fun c htracker hnumber hopen hwithin => ⟨_, hexec, ?_⟩, fun c htracker hnumber hlast => ⟨_, hexec, ?_⟩,
    fun c htracker hnumber hopen hkind hwant hover hasRoom => ⟨_, hexec, ?_⟩,
    fun c htracker hnumber hopen hkind hover hdown => ⟨_, hexec, ?_⟩, fun hlate hkind => ⟨_, hexec, ?_⟩,
    fun hlate hkind => ⟨_, hexec, ?_⟩, fun hcovered => ⟨_, hexec, ?_⟩⟩
  · rw [State.takeReply_stillOpen ((congrArg Cru.tracker hcru).trans htracker) hnumber hopen]
    obtain ⟨hcru', hborrowed, hsame⟩ := State.matchReply_within (s := w) hwithin a.src
    rw [hcru] at hcru'
    rw [hcounter] at hborrowed
    exact ⟨hcru', hborrowed, hports fun q => (hsame q).trans (by rw [hsame q]; rfl), fun p => (congrArg _ (hsame p)).trans (hlocalQ p)⟩
  · have hcloses := State.takeReply_closes (k := k) (amount := amount.toNat) (lender := a.src)
      ((congrArg Cru.tracker hcru).trans htracker) hnumber hlast
    simp only [hcru, hcounter, hroom, hup, hjoined, htoward, hnow, hpos, himg] at hcloses
    exact hcloses
  · subst hkind
    rw [← hroom, ← htoward] at hasRoom
    have hexcess := State.takeReply_excess ((congrArg Cru.tracker hcru).trans htracker) hnumber hopen hover hasRoom hwant
    simp only [hcru, hcounter, hjoined, htoward] at hexcess
    exact hexcess
  · subst hkind
    rw [← hup, ← htoward] at hdown
    have hstays := State.takeReply_unreturned ((congrArg Cru.tracker hcru).trans htracker) hnumber hopen hover hdown
    simp only [hcru, hcounter] at hstays
    exact hstays
  · subst hkind
    rw [State.takeReply_late fun c htracker => hlate c ((congrArg Cru.tracker hcru).symm.trans htracker)]
    have houtcome := w.lateLend_outcome a.src n amount.toNat
    simp only [hcru, hcounter, hroom, hup, hjoined, htoward, hlocalQ] at houtcome
    exact houtcome
  · rw [State.takeReply_late fun c htracker => hlate c ((congrArg Cru.tracker hcru).symm.trans htracker), State.lateReply_other hkind]
    exact ⟨hcru, (w.counter_count _).trans (congrArg (satAdd · 1) (hcounter _))⟩
  · obtain ⟨-, hon, -, -⟩ := (s.admits_iff a _).mp hadmits
    obtain ⟨hheld, -⟩ := hcovered hon
    have hheld' : w.Held := by
      unfold State.Held
      rw [hcru, hivi, himg]
      exact hheld
    have hkeeps := State.takeReply_keepsCovered hheld' a.src n k amount.toNat
    unfold State.KeepsCovered at hkeeps
    rw [hcru, hivi, himg] at hkeeps
    exact hkeeps

end Sys2Proof.Machine
end

section
/-!
PROOFS. The CANVASS of a demand re-evaluation (R69, R70): what the ports answer, and what the Credit Unit makes of the answers.
-/

namespace Sys2Proof.Machine

/-! ### The offer to one port -/

/-- R69, R158: a port that is UP with room takes the CANVASS; one that is DOWN is not offered it. -/
theorem State.offerCanvass_of_room {s : State} {p : Port} (h : s.linkIsUp p = true → s.hasRoom p = true) (x : Payload) :
    (s.offerCanvass p x).taken = true ∧ (s.offerCanvass p x).state.cru = s.cru ∧
    (s.linkIsUp p = true → ((s.offerCanvass p x).state.port p).localQ = s.joined p dstAll x) := by
  unfold State.offerCanvass
  cases hup : s.linkIsUp p with
  | false => exact ⟨rfl, rfl, fun h => Bool.noConfusion h⟩
  | true =>
    rw [if_pos rfl, State.offer_of_hasRoom (h hup)]
    exact ⟨rfl, State.takeLocal_cru s p _ _, fun _ => State.takeLocal_localQ s p _ _⟩

/-- R70: a port refuses the CANVASS that is MISWIRED, or full of frames of its class or a higher one. -/
def LinkPort.RefusesCanvass (x : LinkPort) : Prop :=
  x.check = .miswired ∨ ∃ rest g, x.localQ = rest ++ [g] ∧ 7 ≤ rest.length ∧ frameClass g ≤ kindClass .canvass

theorem State.offerCanvass_refused {s : State} {p : Port} (hup : s.linkIsUp p = true) (h : (s.port p).RefusesCanvass)
    (origin : Byte) (n want : Half) : (s.offerCanvass p (.canvass origin n want)).taken = false := by
  unfold State.offerCanvass
  rw [if_pos hup]
  by_cases hcheck : (s.port p).check = .miswired
  · rw [State.offer_of_refuses (State.refuses_of_closed (.inr hcheck) Kind.noConfusion)]
  · obtain ⟨rest, g, hq, hfull, hclass⟩ := h.resolve_left hcheck
    rw [(State.offer_of_full hup hcheck hq hfull (s.frame dstAll (.canvass origin n want))).2 hclass]

/-! ### The offers to both ports -/

/-- R69: the CANVASS of a station that is short. -/
def State.canvassPayload (s : State) : Payload :=
  .canvass s.originByte (s.cru.counter + 1) (BitVec.ofNat 16 (s.cru.needed - s.cru.held))

/-- R69: the tracker's entry for it. -/
def State.newCanvass (s : State) : Canvass :=
  { number := s.cru.counter + 1, want := s.cru.needed - s.cru.held, expected := s.ldu.n.getD 0 - 1, received := 0, total := 0
    conflict := false, deadline := after s.now s.img.canvassTimeout }

/-- What the UP port answers. -/
def State.canvassUp (s : State) : Offered := s.withNewCanvass.offerCanvass .up s.canvassPayload

/-- What the DOWN port answers then. -/
def State.canvassDown (s : State) : Offered := s.canvassUp.state.offerCanvass .down s.canvassPayload

/-- R69: neither port has refused the CANVASS. -/
def State.canvassTaken (s : State) : Bool := s.canvassUp.taken && s.canvassDown.taken

/-- R69, R70: the outcomes of a re-evaluation that would open a canvass. -/
theorem State.openCanvass_eq (s : State) : s.openCanvass =
    if s.linkIsUp .up || s.linkIsUp .down then
      if s.canvassTaken then
        ({ s.canvassOffered with cru := { s.canvassOffered.cru with tracker := some s.newCanvass } } : State).count .canvassesOpened
      else s.canvassOffered.count .canvassNotOpened
    else s.count .canvassNotOpened := rfl

theorem State.withNewCanvass_joined (s : State) (p : Port) (dst : Byte) (x : Payload) :
    s.withNewCanvass.joined p dst x = s.joined p dst x := by cases p <;> rfl

theorem State.canvassUp_down (s : State) : s.canvassUp.state.port .down = s.port .down :=
  s.withNewCanvass.offerCanvass_other .up _

theorem State.canvassOffered_up (s : State) : s.canvassOffered.port .up = s.canvassUp.state.port .up :=
  s.canvassUp.state.offerCanvass_other .down _

theorem State.canvassUp_frame (s : State) : DemandFrame s s.canvassUp.state :=
  (DemandFrame.of_items (s := s)).trans (s.withNewCanvass.offerCanvass_link .up _).toDemandFrame

/-- R158: each port that is UP has room for a frame. -/
def State.RoomWhereUp (s : State) : Prop := ∀ p, s.linkIsUp p = true → s.hasRoom p = true

/-- R69: with room on each port that is UP each takes the CANVASS. -/
theorem State.canvassOffered_of_room {s : State} (h : s.RoomWhereUp) :
    s.canvassTaken = true ∧ s.canvassOffered.cru = { s.cru with counter := s.cru.counter + 1 } ∧
    ∀ p, s.linkIsUp p = true → (s.canvassOffered.port p).localQ = s.joined p dstAll s.canvassPayload := by
  have hlink : s.canvassUp.state.linkIsUp .down = s.linkIsUp .down := s.canvassUp_frame.linkIsUp .down
  have hcheck := congrArg LinkPort.check s.canvassUp_down
  have hlocalQ := congrArg LinkPort.localQ s.canvassUp_down
  have hroom : s.canvassUp.state.hasRoom .down = s.hasRoom .down := by
    unfold State.hasRoom
    rw [hlink, hcheck, hlocalQ]
  have hjoined : s.canvassUp.state.joined .down dstAll s.canvassPayload = s.joined .down dstAll s.canvassPayload := by
    unfold State.joined
    rw [s.canvassUp_frame.frame, hlocalQ]
  obtain ⟨htakenUp, hcruUp, hqueueUp⟩ := State.offerCanvass_of_room (s := s.withNewCanvass) (p := .up) (h .up) s.canvassPayload
  obtain ⟨htakenDown, hcruDown, hqueueDown⟩ := State.offerCanvass_of_room (s := s.canvassUp.state) (p := .down)
    (by rw [hlink, hroom]; exact h .down) s.canvassPayload
  refine ⟨Bool.and_eq_true_iff.mpr ⟨htakenUp, htakenDown⟩, hcruDown.trans hcruUp, fun p hup => ?_⟩
  cases p with
  | up =>
    rw [State.canvassOffered_up]
    exact (hqueueUp hup).trans (s.withNewCanvass_joined _ _ _)
  | down => exact (hqueueDown (hlink.trans hup)).trans hjoined

/-- R70: a refusal at either port keeps the canvass from opening. -/
theorem State.canvassTaken_of_refused {s : State} {p : Port} (hup : s.linkIsUp p = true) (h : (s.port p).RefusesCanvass) :
    s.canvassTaken = false := by
  cases p with
  | up => exact Bool.and_eq_false_iff.mpr (.inl (State.offerCanvass_refused (s := s.withNewCanvass) (p := .up) hup h _ _ _))
  | down =>
    refine Bool.and_eq_false_iff.mpr (.inr (State.offerCanvass_refused (s := s.canvassUp.state) (p := .down) ?_ ?_ _ _ _))
    · exact (s.canvassUp_frame.linkIsUp .down).trans hup
    · rw [State.canvassUp_down]
      exact h

/-! ### The re-evaluation (R68 to R70) -/

theorem State.mayCanvass_iff (s : State) : s.mayCanvass = true ↔
    s.cru.base + s.cru.loans < s.cru.need.getD 0 ∧ 1 < s.ldu.n.getD 0 ∧ s.cru.tracker = none ∧ s.cru.backoff = none ∧
    s.cru.recanvass = none ∧ s.onLine = true := by
  have hshort : s.cru.short = true ↔ s.cru.base + s.cru.loans < s.cru.need.getD 0 := decide_eq_true_iff
  simp [State.mayCanvass, hshort, and_assoc]

/-- R69: a canvass opens. -/
theorem State.reevaluate_opens {s : State} (hmay : s.mayCanvass = true) (hlink : s.linkIsUp .up = true ∨ s.linkIsUp .down = true)
    (hroom : s.RoomWhereUp) :
    s.reevaluate.cru = { s.cru with counter := s.cru.counter + 1, tracker := some s.newCanvass } ∧
    s.reevaluate.counter .canvassesOpened = satAdd (s.counter .canvassesOpened) 1 ∧
    ∀ p, s.linkIsUp p = true → (s.reevaluate.port p).localQ = s.joined p dstAll s.canvassPayload := by
  obtain ⟨htaken, hcru, hqueues⟩ := State.canvassOffered_of_room hroom
  have hopens : s.reevaluate = ({ s.canvassOffered with
      cru := { s.canvassOffered.cru with tracker := some s.newCanvass } } : State).count .canvassesOpened := by
    unfold State.reevaluate
    rw [if_pos hmay, State.openCanvass_eq, if_pos (Bool.or_eq_true_iff.mpr hlink), if_pos htaken]
  rw [hopens]
  refine ⟨?_, ?_, fun p hup => ?_⟩
  · show { s.canvassOffered.cru with tracker := some s.newCanvass } = _
    rw [hcru]
  · rw [State.counter_count]
    exact congrArg (satAdd · 1) (s.canvassOffered_only _ (by decide))
  · rw [State.count_port, ← hqueues p hup]
    cases p <;> rfl

/-- R70: no port is UP. -/
theorem State.reevaluate_noLink {s : State} (hmay : s.mayCanvass = true) (hup : s.linkIsUp .up = false)
    (hdown : s.linkIsUp .down = false) : s.reevaluate = s.count .canvassNotOpened := by
  unfold State.reevaluate
  rw [if_pos hmay, State.openCanvass_eq, hup, hdown]
  rfl

/-- R70: a port refuses the CANVASS. -/
theorem State.reevaluate_refused {s : State} (hmay : s.mayCanvass = true) {p : Port} (hup : s.linkIsUp p = true)
    (h : (s.port p).RefusesCanvass) :
    s.reevaluate.cru = { s.cru with counter := s.cru.counter + 1, loans := s.reevaluate.cru.loans } ∧
    s.reevaluate.counter .canvassNotOpened = satAdd (s.counter .canvassNotOpened) 1 := by
  have hlink : (s.linkIsUp .up || s.linkIsUp .down) = true := by
    cases p with
    | up => exact Bool.or_eq_true_iff.mpr (.inl hup)
    | down => exact Bool.or_eq_true_iff.mpr (.inr hup)
  have hoffers := (s.withNewCanvass.offerCanvass_link .up s.canvassPayload).trans
    (s.canvassUp.state.offerCanvass_link .down s.canvassPayload)
  have hfails : s.reevaluate = s.canvassOffered.count .canvassNotOpened := by
    unfold State.reevaluate
    rw [if_pos hmay, State.openCanvass_eq, if_pos hlink, State.canvassTaken_of_refused hup h]
    rfl
  rw [hfails]
  exact ⟨hoffers.cru, (State.counter_count _ _).trans (congrArg (satAdd · 1) (s.canvassOffered_only _ (by decide)))⟩

theorem State.reevaluate_idle {s : State} (h : s.mayCanvass = false) : s.reevaluate = s := if_neg (Bool.eq_false_iff.mp h)

/-- R81: with room on each port that is UP a re-evaluation displaces nothing. -/
theorem State.reevaluate_loans {s : State} (hroom : s.RoomWhereUp) : s.reevaluate.cru.loans = s.cru.loans := by
  cases hmay : s.mayCanvass with
  | false => rw [State.reevaluate_idle hmay]
  | true =>
    by_cases hlink : s.linkIsUp .up = true ∨ s.linkIsUp .down = true
    · rw [(State.reevaluate_opens hmay hlink hroom).1]
    · obtain ⟨hup, hdown⟩ := not_or.mp hlink
      rw [State.reevaluate_noLink hmay (Bool.not_eq_true _ ▸ hup) (Bool.not_eq_true _ ▸ hdown)]
      rfl

end Sys2Proof.Machine
end

section
/-!
PROOFS. The CANVASS of a period end, the call check that follows it (R69, R105), and the settlement of O34.
-/

namespace Sys2Proof.Machine

/-! ### The call check (R105) -/

theorem Port.eq_or_eq_other : ∀ p q : Port, q = p ∨ q = p.other
  | .up, .up => .inl rfl
  | .up, .down => .inr rfl
  | .down, .up => .inr rfl
  | .down, .down => .inl rfl

/-- A counted offer to a port that is DOWN or has room displaces nothing. -/
theorem State.offerCounted_of_room {s : State} {p : Port} (h : s.linkIsUp p = true → s.hasRoom p = true) (f : Frame)
    (a b : Counter) : (s.offerCounted p f a b).cru = s.cru ∧
    ∀ q, ∀ g ∈ (s.port q).localQ, g ∈ ((s.offerCounted p f a b).port q).localQ := by
  have hother : ∀ g ∈ (s.port p.other).localQ, g ∈ ((s.offerCounted p f a b).port p.other).localQ := by
    rw [State.offerCounted_other]
    exact fun g hg => hg
  have hport (hown : ∀ g ∈ (s.port p).localQ, g ∈ ((s.offerCounted p f a b).port p).localQ) (q : Port) :
      ∀ g ∈ (s.port q).localQ, g ∈ ((s.offerCounted p f a b).port q).localQ := by
    rcases Port.eq_or_eq_other p q with rfl | rfl
    · exact hown
    · exact hother
  cases hup : s.linkIsUp p with
  | false =>
    refine ⟨?_, hport fun g hg => ?_⟩
    · rw [State.offerCounted_eq, State.offer_of_linkDown hup]
      exact State.refuseLocal_cru s p f
    · rw [(State.offerCounted_of_linkDown hup f a b).1]
      exact hg
  | true =>
    refine ⟨?_, hport fun g hg => ?_⟩
    · rw [State.offerCounted_eq, State.offer_of_hasRoom (h hup)]
      exact State.takeLocal_cru s p _ f
    · rw [(State.offerCounted_of_hasRoom (h hup) f a b).1]
      exact (insertByClass_perm f _).mem_iff.mpr (List.mem_cons_of_mem f hg)

/-- R105: a call check whose CALL the UP port has room for displaces nothing. -/
theorem State.callCheck_of_room {s : State} (h : s.linkIsUp .up = true → s.hasRoom .up = true) :
    s.callCheck.cru = s.cru ∧ ∀ p, ∀ f ∈ (s.port p).localQ, f ∈ (s.callCheck.port p).localQ := by
  cases hsingle : s.isSingle with
  | true =>
    rw [State.callCheck_eq_of_single s hsingle]
    exact ⟨rfl, fun p f hf => by cases p <;> exact hf⟩
  | false =>
    cases hsends : s.checkSends s.tail s.exu.preview with
    | none =>
      rw [State.callCheck_none hsends]
      exact ⟨rfl, fun _ _ hf => hf⟩
    | some k =>
      obtain ⟨hcru, hqueues⟩ := State.offerCounted_of_room (s := s.withNewCall k) (p := .up) h
        (s.frame 0 (.call k (s.tail.counter + 1))) .callsSent .callsRefused
      rw [(State.callCheck_some hsends).1, State.sendCall_of_longer hsingle]
      exact ⟨hcru, fun | .up => hqueues .up | .down => hqueues .down⟩

/-! ### A period end up to its latch -/

/-- R53, R68: a period end as its demand is handed to the Credit Unit. -/
def State.assessed (s : State) : State := s.accounted.computeDemand

theorem State.assessed_frame (s : State) : PeriodFrame s s.assessed :=
  s.accounted_frame.trans s.accounted.computeDemand_frame.toPeriodFrame

theorem State.assessed_cru (s : State) : s.assessed.cru = { s.cru with need := s.assessed.cru.need } := by
  unfold State.assessed
  rw [State.computeDemand_eq, State.accounted_eq]

theorem State.assessed_port (s : State) (p : Port) : s.assessed.port p = s.port p := by
  unfold State.assessed
  rw [State.computeDemand_eq, State.accounted_eq]
  cases p <;> rfl

theorem State.assessed_counter (s : State) {d : Counter} (h : d ∉ sampleCounters ++ distributeCounters ++ demandCounters) :
    s.assessed.counter d = s.counter d := by
  have haccounted : CountsOnly (sampleCounters ++ distributeCounters ++ demandCounters) s s.accounted :=
    (CountsOnly.of_counters (t := s.nextPeriod) rfl).trans (s.nextPeriod.account_only.mono (by decide))
  exact haccounted.trans (s.accounted.computeDemand_only.mono (by decide)) d h

theorem State.assessed_hasRoom (s : State) (p : Port) : s.assessed.hasRoom p = s.hasRoom p := by
  unfold State.hasRoom State.linkIsUp
  rw [State.assessed_port]

theorem State.assessed_joined (s : State) (p : Port) (dst : Byte) (x : Payload) :
    s.assessed.joined p dst x = s.joined p dst x := by
  unfold State.joined
  rw [State.assessed_port, s.assessed_frame.frame]

/-- R57, R61: the latch leaves the Credit Unit, the ports and the counters of a canvass. -/
theorem State.periodClosed_reevaluated (s : State) :
    s.periodClosed.cru = s.assessed.reevaluate.cru ∧ (∀ p, s.periodClosed.port p = s.assessed.reevaluate.port p) ∧
    ∀ d ≠ .notReadyPeriods, s.periodClosed.counter d = s.assessed.reevaluate.counter d := by
  have hlatched : s.periodClosed = s.assessed.reevaluate.countNotReady.latchSetpoint := rfl
  have hcounts := s.assessed.reevaluate.countNotReady_only
  rw [hlatched]
  refine ⟨?_, fun p => ?_, fun d hd => hcounts d (fun hmem => hd (List.mem_singleton.mp hmem))⟩
  · rw [State.countNotReady_eq]
    rfl
  · rw [State.countNotReady_eq]
    cases p <;> rfl

/-! ### The period end and its call check -/

/-- R105: the station is a tail that may call at a call check. -/
def State.mayCall (s : State) : Bool := s.isTail && decide (s.ldu.state = .run) && s.tail.outstanding.isNone

/-- R24: the call check moves the loans of a displaced frame alone in the Credit Unit, and no counter of a canvass. -/
theorem State.endPeriod_cru (s : State) :
    s.endPeriod.cru = { s.assessed.reevaluate.cru with loans := s.endPeriod.cru.loans } ∧
    ∀ d ∈ [Counter.canvassesOpened, .canvassNotOpened], s.endPeriod.counter d = s.assessed.reevaluate.counter d := by
  obtain ⟨hclosed, -, hcounters⟩ := s.periodClosed_reevaluated
  obtain ⟨-, -, -, hcheck⟩ := s.endPeriod_leaves
  refine ⟨?_, fun d hd => ?_⟩
  · rw [← hclosed]
    cases htail : s.isTail with
    | false => rw [State.endPeriod_of_notTail htail]
    | true =>
      rw [State.endPeriod_of_tail htail]
      exact (State.callCheck_call s.periodPreviewed).cru
  · have hkept : ∀ d ∈ [Counter.canvassesOpened, .canvassNotOpened], d ∉ callCheckCounters ∧ d ≠ .notReadyPeriods := by decide
    obtain ⟨hcall, hready⟩ := hkept d hd
    exact (hcheck d hcall).trans (hcounters d hready)

/-- R105: a station that may not call leaves what its period end closed with. -/
theorem State.endPeriod_noCall {s : State} (h : s.mayCall = false) :
    s.endPeriod.cru = s.assessed.reevaluate.cru ∧ ∀ p, s.endPeriod.port p = s.assessed.reevaluate.port p := by
  obtain ⟨hclosed, hports, -⟩ := s.periodClosed_reevaluated
  cases htail : s.isTail with
  | false =>
    rw [State.endPeriod_of_notTail htail]
    exact ⟨hclosed, hports⟩
  | true =>
    have hnone : s.checkSends s.tail s.endPeriod.exu.preview = none := by
      refine if_neg fun hcalls => ?_
      obtain ⟨hrun, houtstanding⟩ := hcalls
      rw [State.mayCall, htail, hrun, houtstanding] at h
      contradiction
    rw [State.endPeriod_of_tail htail, State.callCheck_none ((State.endPeriod_checkSends htail).trans hnone)]
    exact ⟨hclosed, fun p => (by cases p <;> rfl : _ = s.periodClosed.port p).trans (hports p)⟩

/-- R105: a CALL that the UP port has room for after a CANVASS displaces nothing. -/
theorem State.endPeriod_of_room {s : State} (hroom : s.linkIsUp .up = true → s.hasRoom .up = true)
    (hshort : s.linkIsUp .up = true → s.upPort.localQ.length ≤ 6) :
    s.endPeriod.cru = s.assessed.reevaluate.cru ∧
    ∀ p, ∀ f ∈ (s.assessed.reevaluate.port p).localQ, f ∈ (s.endPeriod.port p).localQ := by
  obtain ⟨hclosed, hports, -⟩ := s.periodClosed_reevaluated
  cases htail : s.isTail with
  | false =>
    rw [State.endPeriod_of_notTail htail]
    exact ⟨hclosed, fun p f hf => hports p ▸ hf⟩
  | true =>
    have hframe := s.periodPreviewed_frame
    have hroom' : s.periodPreviewed.linkIsUp .up = true → s.periodPreviewed.hasRoom .up = true := fun hup => by
      rw [hframe.linkIsUp] at hup
      obtain ⟨hlength, -⟩ := s.periodClosed_upQueue
      exact hframe.hasRoom (hroom hup) (Nat.lt_of_le_of_lt hlength (Nat.add_lt_add_right (Nat.lt_succ_of_le (hshort hup)) 1))
    obtain ⟨hcru, hqueues⟩ := State.callCheck_of_room hroom'
    rw [State.endPeriod_of_tail htail]
    refine ⟨hcru.trans hclosed, fun p f hf => hqueues p f ?_⟩
    rw [← hports p] at hf
    cases p <;> exact hf

/-! ### The canvass of a period end (R69, R70) -/

theorem State.endPeriod_need (s : State) : s.endPeriod.cru.need = s.assessed.cru.need := by
  rw [s.endPeriod_cru.1, ← s.assessed.reevaluate_power.need]

theorem State.assessed_canvassPayload (s : State) : s.assessed.canvassPayload =
    .canvass s.originByte (s.cru.counter + 1) (BitVec.ofNat 16 (s.endPeriod.cru.need.getD 0 - (s.cru.base + s.cru.loans))) := by
  have horigin : s.assessed.originByte = s.originByte := by
    unfold State.originByte State.pos
    rw [s.assessed_frame.ldu]
  unfold State.canvassPayload Cru.needed Cru.held
  rw [horigin, State.endPeriod_need, State.assessed_cru]

theorem State.assessed_newCanvass (s : State) : s.assessed.newCanvass =
    { number := s.cru.counter + 1, want := s.endPeriod.cru.need.getD 0 - (s.cru.base + s.cru.loans)
      expected := s.ldu.n.getD 0 - 1, received := 0, total := 0, conflict := false
      deadline := after s.now s.img.canvassTimeout } := by
  unfold State.newCanvass Cru.needed Cru.held
  rw [State.endPeriod_need, s.assessed_frame.ldu, s.assessed_frame.now, s.assessed_frame.img, State.assessed_cru]

theorem State.assessed_roomWhereUp {s : State} (h : s.RoomWhereUp) : s.assessed.RoomWhereUp := fun p hup => by
  rw [s.assessed_frame.linkIsUp] at hup
  rw [State.assessed_hasRoom]
  exact h p hup

/-- R69: the conditions for a canvass, over what a period end reads and the credits it needs. -/
theorem State.assessed_mayCanvass_iff (s : State) : s.assessed.mayCanvass = true ↔
    s.cru.base + s.cru.loans < s.endPeriod.cru.need.getD 0 ∧ 1 < s.ldu.n.getD 0 ∧ s.cru.tracker = none ∧
    s.cru.backoff = none ∧ s.cru.recanvass = none ∧ s.onLine = true := by
  rw [State.mayCanvass_iff, State.endPeriod_need, s.assessed_frame.ldu, s.assessed_frame.onLine, State.assessed_cru]

/-- R24: no CALL, or room for it: the loans stand. -/
theorem State.endPeriod_loans {s : State} (hcall : s.mayCall = false ∨ s.upPort.localQ.length ≤ 6) (hroom : s.RoomWhereUp) :
    s.endPeriod.cru.loans = s.cru.loans := by
  have hcru : s.endPeriod.cru = s.assessed.reevaluate.cru := by
    rcases hcall with hnone | hshort
    · exact (State.endPeriod_noCall hnone).1
    · exact (State.endPeriod_of_room (hroom .up) fun _ => hshort).1
  rw [hcru, State.reevaluate_loans (State.assessed_roomWhereUp hroom), State.assessed_cru]

section
variable {s : State} (hmay : s.assessed.mayCanvass = true)
include hmay

/-- R69: with room on each port that is UP the canvass opens. -/
theorem State.endPeriod_opens (hlink : s.linkIsUp .up = true ∨ s.linkIsUp .down = true) (hroom : s.RoomWhereUp) :
    s.endPeriod.cru = { s.cru with
      need := s.endPeriod.cru.need, counter := s.cru.counter + 1, loans := s.endPeriod.cru.loans
      tracker := some s.assessed.newCanvass } ∧
    s.endPeriod.counter .canvassesOpened = satAdd (s.counter .canvassesOpened) 1 ∧
    ∀ p, s.linkIsUp p = true →
      (s.mayCall = false → (s.endPeriod.port p).localQ = s.joined p 255 s.assessed.canvassPayload) ∧
      (s.upPort.localQ.length ≤ 6 → s.frame 255 s.assessed.canvassPayload ∈ (s.endPeriod.port p).localQ) := by
  obtain ⟨hended, hcounters⟩ := s.endPeriod_cru
  obtain ⟨hcru, hopened, hqueues⟩ := State.reevaluate_opens hmay
    (by rwa [s.assessed_frame.linkIsUp, s.assessed_frame.linkIsUp]) (State.assessed_roomWhereUp hroom)
  have hqueue (p : Port) (hup : s.linkIsUp p = true) :
      (s.assessed.reevaluate.port p).localQ = s.joined p 255 s.assessed.canvassPayload :=
    (hqueues p ((s.assessed_frame.linkIsUp p).trans hup)).trans (s.assessed_joined _ _ _)
  refine ⟨?_, ?_, fun p hup => ⟨fun hnone => ?_, fun hshort => ?_⟩⟩
  · rw [State.endPeriod_need]
    refine hended.trans ?_
    rw [hcru, State.assessed_cru]
  · rw [hcounters _ (by decide), hopened, State.assessed_counter _ (by decide)]
  · rw [(State.endPeriod_noCall hnone).2, hqueue p hup]
  · refine (State.endPeriod_of_room (hroom .up) fun _ => hshort).2 p _ ?_
    rw [hqueue p hup]
    exact mem_insertByClass _ _

/-- R70: with no port UP none opens. -/
theorem State.endPeriod_noLink (hup : s.linkIsUp .up = false) (hdown : s.linkIsUp .down = false) :
    s.endPeriod.cru = { s.cru with need := s.endPeriod.cru.need } ∧
    s.endPeriod.counter .canvassNotOpened = satAdd (s.counter .canvassNotOpened) 1 := by
  have hcloses := State.reevaluate_noLink hmay ((s.assessed_frame.linkIsUp _).trans hup) ((s.assessed_frame.linkIsUp _).trans hdown)
  have hnever : ¬ s.linkIsUp .up = true := Bool.eq_false_iff.mp hup
  obtain ⟨hended, -⟩ := State.endPeriod_of_room (s := s) (fun h => absurd h hnever) (fun h => absurd h hnever)
  refine ⟨?_, ?_⟩
  · rw [State.endPeriod_need]
    refine hended.trans ?_
    rw [hcloses, ← State.assessed_cru]
    rfl
  · rw [s.endPeriod_cru.2 _ (by decide), hcloses, State.counter_count, State.assessed_counter _ (by decide)]

/-- R70: with a port that refuses the CANVASS none opens, and its number is spent. -/
theorem State.endPeriod_refused {p : Port} (hup : s.linkIsUp p = true) (hrefuses : (s.port p).RefusesCanvass) :
    s.endPeriod.cru = { s.cru with
      need := s.endPeriod.cru.need, counter := s.cru.counter + 1, loans := s.endPeriod.cru.loans } ∧
    s.endPeriod.counter .canvassNotOpened = satAdd (s.counter .canvassNotOpened) 1 := by
  obtain ⟨hended, hcounters⟩ := s.endPeriod_cru
  obtain ⟨hcru, hcounted⟩ := State.reevaluate_refused hmay ((s.assessed_frame.linkIsUp _).trans hup)
    (by rwa [s.assessed_port])
  refine ⟨?_, ?_⟩
  · rw [State.endPeriod_need]
    refine hended.trans ?_
    rw [hcru, State.assessed_cru]
  · rw [hcounters _ (by decide), hcounted, State.assessed_counter _ (by decide)]

end

/-- R69: without the conditions no canvass opens. -/
theorem State.endPeriod_noCanvass {s : State} (h : s.assessed.mayCanvass = false) :
    s.endPeriod.cru = { s.cru with need := s.endPeriod.cru.need, loans := s.endPeriod.cru.loans } ∧
    s.endPeriod.counter .canvassesOpened = s.counter .canvassesOpened ∧
    s.endPeriod.counter .canvassNotOpened = s.counter .canvassNotOpened ∧
    (s.mayCall = false → ∀ p, (s.endPeriod.port p).localQ = (s.port p).localQ) := by
  have hidle := State.reevaluate_idle h
  obtain ⟨hended, hcounters⟩ := s.endPeriod_cru
  refine ⟨?_, ?_, ?_, fun hnone p => ?_⟩
  · rw [State.endPeriod_need]
    refine hended.trans ?_
    rw [hidle, State.assessed_cru]
  · rw [hcounters _ (by decide), hidle, State.assessed_counter _ (by decide)]
  · rw [hcounters _ (by decide), hidle, State.assessed_counter _ (by decide)]
  · rw [(State.endPeriod_noCall hnone).2, hidle, State.assessed_port]

theorem State.observe_linkIsUp (s : State) (e : Env) (p : Port) : (s.observe e).linkIsUp p = s.linkIsUp p := by cases p <;> rfl

theorem State.observe_port (s : State) (e : Env) (p : Port) : (s.observe e).port p = s.port p := by cases p <;> rfl

theorem State.RoomWhereUp.observe {s : State} (h : s.RoomWhereUp) (e : Env) : (s.observe e).RoomWhereUp := fun p hup => by
  rw [State.observe_linkIsUp] at hup
  rw [State.observe_hasRoom]
  exact h p hup

/-- Settles O34: by the conditions of R69 and what the ports answer. -/
theorem shortStationOpensACanvass : Obligations.ShortStationOpensACanvass := by
  rintro e s u mayCall rfl hdue rfl
  refine ⟨_, exec_periodEnd_eq hdue, fun hcall hroom => State.endPeriod_loans (s := s.observe e) hcall (State.RoomWhereUp.observe hroom e),
    fun hlonger htracker hbackoff hwait hneeds => ?_, fun hidle => ?_⟩
  · have hmay : (s.observe e).assessed.mayCanvass = true :=
      (s.observe e).assessed_mayCanvass_iff.mpr ⟨hneeds, hlonger, htracker, hbackoff, hwait, State.onLine_of_and hdue⟩
    refine ⟨fun hlink hroom => ?_, fun hup hdown => ?_, fun p hup hrefuses => ?_⟩
    · rw [← s.observe_linkIsUp e, ← s.observe_linkIsUp e] at hlink
      obtain ⟨hcru, hopened, hqueues⟩ := State.endPeriod_opens hmay hlink (State.RoomWhereUp.observe hroom e)
      rw [State.assessed_newCanvass] at hcru
      rw [State.assessed_canvassPayload] at hqueues
      refine ⟨hcru, hopened, fun p hup => ?_⟩
      rw [← s.observe_joined e]
      exact hqueues p ((s.observe_linkIsUp e p).trans hup)
    · exact State.endPeriod_noLink hmay ((s.observe_linkIsUp e _).trans hup) ((s.observe_linkIsUp e _).trans hdown)
    · rw [← s.observe_port e] at hrefuses
      exact State.endPeriod_refused hmay ((s.observe_linkIsUp e p).trans hup) hrefuses
  · have hmay : (s.observe e).assessed.mayCanvass = false := Bool.eq_false_iff.mpr fun hmay => by
      obtain ⟨hneeds, hlonger, htracker, hbackoff, hwait, -⟩ := (s.observe e).assessed_mayCanvass_iff.mp hmay
      rcases hidle with h | h | h | h | h
      · exact absurd hneeds (Nat.not_lt.mpr h)
      · exact absurd hlonger (Nat.not_lt.mpr h)
      · exact h htracker
      · exact h hbackoff
      · exact h hwait
    obtain ⟨hcru, hopened, hnotOpened, hqueues⟩ := State.endPeriod_noCanvass hmay
    refine ⟨hcru, hopened, hnotOpened, fun hnone p => ?_⟩
    rw [← s.observe_port e]
    exact hqueues hnone p

end Sys2Proof.Machine
end

section
/-!
PROOFS. What the invariants of the pending calls and of the stroke tracker read (R88, R97), and the operations of the Stroke and Call
Unit that change it: calls, strokes, motion, and the modes that start a stroke.
-/

namespace Sys2Proof.Machine

/-! ### What the invariants read -/

/-- The invariants of the pending calls and of the tracker pass from one state to the other. -/
structure KeepsScu (s t : State) : Prop where
  calls : s.head.CallsOk → t.head.CallsOk
  counts : s.tracker.CountsOk → t.tracker.CountsOk

@[refl] theorem KeepsScu.refl (s : State) : KeepsScu s s := ⟨id, id⟩

@[trans] theorem KeepsScu.trans {s t u : State} (h : KeepsScu s t) (k : KeepsScu t u) : KeepsScu s u :=
  ⟨fun x => k.calls (h.calls x), fun x => k.counts (h.counts x)⟩

/-- A choice between two events. -/
theorem KeepsScu.ite {s t u : State} {p : Prop} [Decidable p] (ht : p → KeepsScu s t) (hu : ¬p → KeepsScu s u) :
    KeepsScu s (if p then t else u) := by
  split
  · exact ht ‹_›
  · exact hu ‹_›

/-- An event that acts under a condition alone. -/
theorem KeepsScu.whenever {s t : State} {p : Prop} [Decidable p] (h : p → KeepsScu s t) : KeepsScu s (if p then t else s) :=
  .ite h (fun _ => .refl s)

theorem KeepsScu.of_eq {s t : State} (head : t.head = s.head) (tracker : t.tracker = s.tracker) : KeepsScu s t :=
  ⟨fun x => head ▸ x, fun x => tracker ▸ x⟩

/-- A unit that starts with no call and no count. -/
theorem KeepsScu.of_fresh {s t : State} (calls : t.head.calls = []) (tracker : t.tracker = .reset) : KeepsScu s t := by
  refine ⟨fun _ => ?_, fun _ => ?_⟩
  · unfold Head.CallsOk
    rw [calls]
    exact ⟨Nat.zero_le _, List.nodup_nil, by simp⟩
  · rw [tracker]
    exact ⟨Nat.zero_le _, Nat.zero_le _, by decide, by decide⟩

theorem LinkFrame.scu {s t : State} (h : LinkFrame s t) : KeepsScu s t := .of_eq h.head h.tracker

theorem ExitFrame.scu {s t : State} (h : ExitFrame s t) : KeepsScu s t := .of_eq h.head h.tracker

/-- The Hold Unit leaves the tracker. -/
theorem HoldFrame.scu {s t : State} (h : HoldFrame s t) (head : t.head = s.head) : KeepsScu s t := .of_eq head h.tracker

/-! ### Plain updates -/

theorem State.count_scu (s : State) (c : Counter) : KeepsScu s (s.count c) := ⟨id, id⟩

theorem State.countBy_scu (s : State) (c : Counter) (n : Nat) : KeepsScu s (s.countBy c n) := ⟨id, id⟩

theorem State.setPort_scu (s : State) (p : Port) (x : LinkPort) : KeepsScu s (s.setPort p x) := by
  cases p <;> exact ⟨id, id⟩

theorem State.portCount_scu (s : State) (p : Port) (c : PortCounter) : KeepsScu s (s.portCount p c) := s.setPort_scu p _

theorem State.offerTrace_scu (s : State) (o : Offer) : KeepsScu s (s.offerTrace o) := ⟨id, id⟩

theorem State.offer_scu (s : State) (p : Port) (f : Frame) : KeepsScu s (s.offer p f).state := (s.offer_link p f).scu

/-! ### The pending calls (R97, R98) -/

/-- R97: the oldest call of a sound list, once it is executed, is none of those that wait. -/
theorem Head.CallsOk.execute {h h' : Head} {n : Half} {rest : List Half} (hok : h.CallsOk) (hcalls : h.calls = n :: rest)
    (hrest : h'.calls = rest) (hlast : h'.lastExecuted = some n) : h'.CallsOk := by
  obtain ⟨hlength, hnodup, -⟩ := hok
  rw [hcalls] at hlength hnodup
  obtain ⟨hnew, hnodup'⟩ := List.nodup_cons.mp hnodup
  refine ⟨?_, hrest ▸ hnodup', fun m hm heq => hnew ?_⟩
  · rw [hrest]
    exact (Nat.le_succ _).trans hlength
  · rw [hlast] at heq
    rw [hrest, ← Option.some.inj heq] at hm
    exact hm

/-- R97: a call that the head does not hold joins a list with room. -/
theorem Head.CallsOk.append {h h' : Head} {n : Half} (hok : h.CallsOk) (hnew : h.holds n = false)
    (hroom : h.calls.length < Config.pendingCallCapacity) (hcalls : h'.calls = h.calls ++ [n])
    (hlast : h'.lastExecuted = h.lastExecuted) : h'.CallsOk := by
  obtain ⟨-, hnodup, hfresh⟩ := hok
  simp only [Head.holds, Bool.or_eq_false_iff, beq_eq_false_iff_ne, List.contains_eq_mem, decide_eq_false_iff_not] at hnew
  obtain ⟨hexecuted, habsent⟩ := hnew
  refine ⟨?_, ?_, fun m hm => ?_⟩
  · rw [hcalls, List.length_append]
    exact hroom
  · rw [hcalls]
    exact List.nodup_append.mpr ⟨hnodup, List.nodup_singleton n, fun a ha b hb => by
      rw [List.mem_singleton.mp hb]
      exact fun he => habsent (he ▸ ha)⟩
  · rw [hcalls] at hm
    rw [hlast]
    rcases List.mem_append.mp hm with hold | hjoined
    · exact hfresh m hold
    · rw [List.mem_singleton.mp hjoined]
      exact hexecuted

/-- R97: a head whose calls and last executed number stand, or that forgets the number, keeps its calls sound. -/
theorem Head.CallsOk.of_calls {h h' : Head} (hok : h.CallsOk) (hcalls : h'.calls = h.calls)
    (hlast : h'.lastExecuted = h.lastExecuted ∨ h'.lastExecuted = none) : h'.CallsOk := by
  unfold Head.CallsOk at *
  obtain ⟨hlength, hnodup, hfresh⟩ := hok
  rw [hcalls]
  refine ⟨hlength, hnodup, fun n hn => ?_⟩
  rcases hlast with hsame | hnone
  · rw [hsame]
    exact hfresh n hn
  · rw [hnone]
    exact nofun

/-- A head update that leaves the calls and the last executed number. -/
theorem State.setHead_scu (s : State) (x : Head) (hcalls : x.calls = s.head.calls)
    (hlast : x.lastExecuted = s.head.lastExecuted ∨ x.lastExecuted = none) : KeepsScu s { s with head := x } :=
  ⟨fun h => h.of_calls hcalls hlast, id⟩

theorem State.tryStart_scu (s : State) : KeepsScu s s.tryStart := by
  unfold State.tryStart
  split
  · rename_i n rest hcalls
    exact .whenever fun _ => ⟨fun h => h.execute hcalls rfl rfl, id⟩
  · exact .refl s

theorem State.takeCall_scu (s : State) (k : CallKind) (n : Half) : KeepsScu s (s.takeCall k n) := by
  unfold State.takeCall
  split
  · exact s.count_scu _
  rename_i hnew
  split
  · rename_i hroom
    extract_lets src t
    have ht : KeepsScu s t := ⟨fun h => h.append (by simpa using hnew) hroom rfl rfl, id⟩
    exact (ht.trans (t.count_scu _)).trans (State.tryStart_scu _)
  · exact s.count_scu _

theorem State.passCall_scu (s : State) (k : CallKind) (n : Half) (c : Counter) : KeepsScu s (s.passCall k n c) :=
  .ite (fun _ => (s.count_scu c).trans (State.takeCall_scu _ k n)) (fun _ => (s.offerCounted_link _ _ _ _).scu)

theorem State.setTail_scu (s : State) (x : Tail) : KeepsScu s { s with tail := x } := ⟨id, id⟩

theorem State.sendCall_scu (s : State) (k : CallKind) : KeepsScu s (s.sendCall k) :=
  (s.setTail_scu _).trans (State.passCall_scu _ _ _ _)

theorem State.callCheck_scu (s : State) : KeepsScu s s.callCheck :=
  .whenever fun _ => .ite (fun _ => (s.sendCall_scu .self).trans (State.count_scu _ _))
    (fun _ => .whenever fun _ => (s.sendCall_scu .press).trans (State.setTail_scu _ _))

/-! ### The Hold Unit (R129 to R140) -/

theorem State.deriveMode_scu (s : State) : KeepsScu s s.deriveMode := by
  refine .whenever fun _ => KeepsScu.trans ?_ (State.tryStart_scu _)
  exact .ite (fun _ => .refl s) (fun _ => ⟨id, id⟩)

theorem State.raiseOwn_scu (s : State) (c : Cause) : KeepsScu s (s.raiseOwn c) := (s.raiseOwn_hold c).scu (s.raiseOwn_head c)

theorem State.removeOwn_scu (s : State) (c : Cause) : KeepsScu s (s.removeOwn c) := by
  unfold State.removeOwn
  split
  · extract_lets es src t
    have ht : KeepsScu s t := ⟨id, id⟩
    exact (ht.trans (t.offerBothCounted_link _ _ _).scu).trans (State.count_scu _ _)
  · exact .refl s

theorem State.removeListed_scu (s : State) (w : Cause → Bool) (es : List HoldEntry) : KeepsScu s (s.removeListed w es) := by
  induction es generalizing s with
  | nil => exact .refl s
  | cons e rest ih => exact .ite (fun _ => (s.removeOwn_scu _).trans (ih _)) (fun _ => ih s)

theorem State.setHlu_scu (s : State) (x : Hlu) : KeepsScu s { s with hlu := x } := ⟨id, id⟩

theorem State.hearHold_scu (s : State) (code origin : Byte) : KeepsScu s (s.hearHold code origin) := by
  unfold State.hearHold
  extract_lets t
  have ht : KeepsScu s t := s.count_scu _
  have hcount (c : Counter) : KeepsScu s (t.count c) := ht.trans (t.count_scu c)
  split
  · exact hcount _
  · exact .ite (fun _ => hcount _) fun _ => .ite (fun _ => (ht.trans (t.setHlu_scu _)).trans (State.deriveMode_scu _))
      fun _ => .ite (fun _ => (ht.trans (t.setHlu_scu _)).trans (State.deriveMode_scu _))
        fun _ => (hcount _).trans (State.deriveMode_scu _)

theorem State.hearClear_scu (s : State) (code origin : Byte) : KeepsScu s (s.hearClear code origin) := by
  unfold State.hearClear
  extract_lets t
  have ht : KeepsScu s t := s.count_scu _
  have hcount (c : Counter) : KeepsScu s (t.count c) := ht.trans (t.count_scu c)
  split
  · exact hcount _
  · exact .ite (fun _ => hcount _) fun _ =>
      .ite (fun _ => (ht.trans (t.setHlu_scu _)).trans (State.deriveMode_scu _)) fun _ => hcount _

theorem State.tripInverter_scu (s : State) : KeepsScu s s.tripInverter := .ite (fun _ => .refl s) (fun _ => ⟨id, id⟩)

/-- R101: the pusher's reset forgets an owed call. -/
theorem State.resetPusher_scu (s : State) : KeepsScu s s.resetPusher := by
  unfold State.resetPusher
  split
  · extract_lets src t
    have ht : KeepsScu s t := by
      refine s.setHead_scu _ rfl ?_
      cases s.head.owed
      · exact .inl rfl
      · exact .inr rfl
    exact ht.trans (t.count_scu _)
  · exact .refl s

theorem State.resetTrip_scu (s : State) : KeepsScu s s.resetTrip := by
  have hcount : KeepsScu s s.countTripReset := .ite (fun _ => .whenever fun _ => s.count_scu _) (fun _ => s.count_scu _)
  exact ((hcount.trans (State.resetPusher_scu _)).trans (State.removeListed_scu _ _ _)).trans (State.deriveMode_scu _)

/-! ### Shifts of the coil queue (R14) -/

theorem State.moveQueue_scu (s : State) (b : Byte) (x : Slot) : KeepsScu s (s.moveQueue b x) := by
  have hqueue (t : State) (q : CoilQueue) : KeepsScu t { t with cq := q } := ⟨id, id⟩
  exact ((s.beforeMove_exit b x).scu.trans (hqueue _ _)).trans (State.count_scu _ _)

theorem State.shift_scu (s : State) (b : Byte) (x : Slot) : KeepsScu s (s.shift b x) :=
  (s.moveQueue_scu b x).trans (.whenever fun _ =>
    ((State.setTail_scu _ _).trans (State.preview_exit _).scu).trans (State.callCheck_scu _))

theorem State.catchUp_scu (s : State) : KeepsScu s s.catchUp :=
  ((s.count_scu _).trans (State.shift_scu _ _ _)).trans (State.count_scu _ _)

theorem State.catchUps_scu (s : State) (k : Nat) : KeepsScu s (s.catchUps k) := by
  induction k generalizing s with
  | zero => exact .refl s
  | succ k ih => exact s.catchUp_scu.trans (ih _)

/-! ### The stroke tracker (R88 to R93) -/

/-- R88: a deadline that restarts while its count is above 0 runs exactly then. -/
theorem restartWhile_isSome (n : Nat) (now : Time) (ms : Nat) : (restartWhile n now ms).isSome = true ↔ 0 < n := by
  unfold restartWhile
  split <;> simp_all

/-- R88: a deadline that starts with its first count runs while its count is above 0. -/
theorem startedWith_isSome {n : Nat} {d : Option Time} (x : Time) (h : d.isSome = true ↔ 0 < n) :
    (if n = 0 then some x else d).isSome = true ↔ 0 < n + 1 := by
  split
  · simp
  · rw [h]
    omega

/-- R89, R93: one shift fewer waits for its edge. -/
theorem Tracker.CountsOk.confirm {x : Tracker} (h : x.CountsOk) (now : Time) (ms : Nat) :
    Tracker.CountsOk { x with
      unconfirmed := x.unconfirmed - 1, confirmDeadline := restartWhile (x.unconfirmed - 1) now ms } := by
  obtain ⟨hunmatched, hunconfirmed, hmotion, -⟩ := h
  exact ⟨hunmatched, (Nat.sub_le _ _).trans hunconfirmed, hmotion, restartWhile_isSome _ _ _⟩

/-- R90, R92: one unmatched edge fewer. -/
theorem Tracker.CountsOk.spend {x : Tracker} (h : x.CountsOk) (now : Time) (ms : Nat) :
    Tracker.CountsOk { x with
      unmatched := x.unmatched - 1, motionDeadline := restartWhile (x.unmatched - 1) now ms } := by
  obtain ⟨hunmatched, hunconfirmed, -, hconfirm⟩ := h
  exact ⟨(Nat.sub_le _ _).trans hunmatched, hunconfirmed, restartWhile_isSome _ _ _, hconfirm⟩

theorem State.motionTaken_scu (s : State) : KeepsScu s s.motionTaken := by
  refine .ite (fun _ => ⟨id, fun h => h.confirm _ _⟩) fun _ => .ite (fun hroom => ⟨id, fun h => ?_⟩) fun _ => s.count_scu _
  obtain ⟨-, hunconfirmed, hmotion, hconfirm⟩ := h
  exact ⟨hroom, hunconfirmed, startedWith_isSome _ hmotion, hconfirm⟩

theorem State.takeMotion_scu (s : State) : KeepsScu s s.takeMotion :=
  .ite (fun _ => s.motionTaken_scu) (fun _ => .ite (fun _ => .refl s) (fun _ => s.count_scu _))

theorem State.giveUpConfirm_scu (s : State) : KeepsScu s s.giveUpConfirm := ⟨id, fun h => h.confirm _ _⟩

theorem State.spendEdge_scu (s : State) : KeepsScu s s.spendEdge := ⟨id, fun h => h.spend _ _⟩

theorem State.frameAdjust_scu (s : State) : KeepsScu s s.frameAdjust := by
  refine .whenever fun _ => .ite (fun _ => s.spendEdge_scu) fun _ => .ite (fun hroom => ⟨id, fun h => ?_⟩) fun _ => s.count_scu _
  obtain ⟨hunmatched, -, hmotion, hconfirm⟩ := h
  exact ⟨hunmatched, hroom, hmotion, startedWith_isSome _ hconfirm⟩

theorem State.selfStroke_scu (s : State) : KeepsScu s s.selfStroke :=
  (((s.count_scu _).trans (State.shift_scu _ _ _)).trans (State.spendEdge_scu _)).trans (State.count_scu _ _)

theorem State.ownShift_scu (s : State) (x : Option WireRecord) : KeepsScu s (s.ownShift x) :=
  ((s.countPayload_link x).scu.trans (State.shift_scu _ _ _)).trans (State.frameAdjust_scu _)

theorem State.catchUpsAdjusted_scu (s : State) (k : Nat) : KeepsScu s (s.catchUpsAdjusted k) := by
  induction k generalizing s with
  | zero => exact .refl s
  | succ k ih => exact (s.catchUp_scu.trans (State.frameAdjust_scu _)).trans (ih _)

theorem State.mergeLate_scu (s : State) (w : WireRecord) (held : Record) (ss : SelfStroke) : KeepsScu s (s.mergeLate w held ss) := by
  unfold State.mergeLate
  extract_lets others m t src u v
  have ht : KeepsScu s t := (s.countRepair_link w).scu.trans (State.countDuplicate_link _ _ _).scu
  have hu : KeepsScu t u := ⟨id, id⟩
  have hv : KeepsScu s v := (ht.trans hu).trans (u.count_scu _)
  exact .ite (fun _ => hv.trans v.preview_exit.scu) (fun _ => hv)

theorem State.lateStroke_scu (s : State) (n : Half) (x : Option WireRecord) : KeepsScu s (s.lateStroke n x) := by
  unfold State.lateStroke
  split
  · exact s.mergeLate_scu _ _ _
  · exact s.count_scu _

theorem State.takeStroke_scu (s : State) (n : Half) (b : Byte) (x : Option WireRecord) : KeepsScu s (s.takeStroke n b x) := by
  unfold State.takeStroke
  extract_lets t
  have ht : KeepsScu s t := .whenever fun _ => s.count_scu _
  exact ht.trans (.ite (fun _ => t.count_scu _) fun _ =>
    .ite (fun _ => (t.catchUpsAdjusted_scu _).trans (State.ownShift_scu _ _)) fun _ => t.lateStroke_scu _ _)

/-! ### The head and the tail (R16, R99 to R108) -/

theorem State.headStroke_scu (s : State) : KeepsScu s s.headStroke := by
  unfold State.headStroke
  split
  · extract_lets t src u
    have ht : KeepsScu s t := .whenever fun _ => s.count_scu _
    have hu : KeepsScu t u := t.setHead_scu _ rfl (.inl rfl)
    exact (ht.trans hu).trans (u.shift_scu _ _)
  · exact s.shift_scu _ _

theorem State.takePushed_scu (s : State) : KeepsScu s s.takePushed := by
  unfold State.takePushed
  split
  · extract_lets t src u
    have hu : KeepsScu t u := t.setHead_scu _ rfl (.inl rfl)
    exact (s.headStroke_scu.trans hu).trans u.tryStart_scu
  · split
    · extract_lets t src u
      have hu : KeepsScu t u := t.setHead_scu _ rfl (.inl rfl)
      exact (s.headStroke_scu.trans hu).trans (u.count_scu _)
    · exact s.count_scu _
  · exact s.count_scu _

theorem State.pusherTimesOut_scu (s : State) : KeepsScu s s.pusherTimesOut := by
  unfold State.pusherTimesOut
  extract_lets src t
  have ht : KeepsScu s t := s.setHead_scu _ rfl (.inl rfl)
  exact ((ht.trans (t.count_scu _)).trans (State.raiseOwn_scu _ _)).trans (State.deriveMode_scu _)

theorem State.pressTiming_scu (s : State) : KeepsScu s s.pressTiming := by
  unfold State.pressTiming
  extract_lets t src
  have ht : KeepsScu s t := .whenever fun _ => (s.removeOwn_scu _).trans (State.deriveMode_scu _)
  exact .ite (fun _ => ht) (fun _ => ht.trans (t.setTail_scu _))

theorem State.takePressCall_scu (s : State) : KeepsScu s s.takePressCall := by
  unfold State.takePressCall
  extract_lets t src
  have ht : KeepsScu s t := (s.count_scu _).trans (State.pressTiming_scu _)
  exact .ite (fun _ => ht.trans (t.sendCall_scu _)) (fun _ => ht.trans (t.setTail_scu _))

theorem State.callTimeout_scu (s : State) : KeepsScu s s.callTimeout := by
  unfold State.callTimeout
  split
  · exact (s.setTail_scu _).trans (State.passCall_scu _ _ _ _)
  · exact s.setTail_scu _

theorem State.fillExpires_scu (s : State) : KeepsScu s s.fillExpires :=
  .ite (fun _ => ((s.setTail_scu _).trans (State.sendCall_scu _ _)).trans (State.count_scu _ _)) (fun _ => s.setTail_scu _)

theorem State.pressIdles_scu (s : State) : KeepsScu s s.pressIdles :=
  (((s.setTail_scu _).trans (State.count_scu _ _)).trans (State.raiseOwn_scu _ _)).trans (State.deriveMode_scu _)

theorem State.stepPulse_scu (s : State) : KeepsScu s s.stepPulse := by
  unfold State.stepPulse
  split
  · exact .refl s
  · exact .whenever fun _ => (s.setExu_exit _).scu
  · exact .whenever fun _ => .ite (fun _ => (s.setExu_exit _).scu) (fun _ => (s.setExu_exit _).scu)

end Sys2Proof.Machine
end

section
/-!
PROOFS. The rest of the part's operations keep the pending calls and the stroke tracker sound (R88, R97): the period end, the
credits, line discovery, the link ports and the service port; and from these the step (O12).
-/

namespace Sys2Proof.Machine

/-! ### The credits and the period end (R24, R68 to R79) -/

theorem State.setCru_scu (s : State) (x : Cru) : KeepsScu s { s with cru := x } := ⟨id, id⟩

theorem State.openCanvass_scu (s : State) : KeepsScu s s.openCanvass := by
  have hoffer (t : State) (p : Port) (x : Payload) : KeepsScu t (t.offerCanvass p x).state :=
    (t.offerCanvass_link p x).scu
  unfold State.openCanvass
  split
  · extract_lets n want src t x a b src2 src3 u
    have hb : KeepsScu s b.state := ((s.setCru_scu _).trans (hoffer t _ _)).trans (hoffer _ _ _)
    have hu : KeepsScu b.state u := State.setCru_scu _ _
    exact .ite (fun _ => (hb.trans hu).trans (u.count_scu _)) (fun _ => hb.trans (State.count_scu _ _))
  · exact s.count_scu _

theorem State.endPeriod_scu (s : State) : KeepsScu s s.endPeriod := by
  have haccount (t : State) : KeepsScu t t.account := by rw [State.account_eq]; exact ⟨id, id⟩
  have hdemand (t : State) : KeepsScu t t.computeDemand := by rw [State.computeDemand_eq]; exact ⟨id, id⟩
  have hlatch (t : State) : KeepsScu t t.countNotReady.latchSetpoint :=
    KeepsScu.trans (.whenever fun _ => t.count_scu _) ⟨id, id⟩
  have hnext : KeepsScu s s.nextPeriod := ⟨id, id⟩
  exact ((((hnext.trans (haccount _)).trans (hdemand _)).trans (.whenever fun _ => State.openCanvass_scu _)).trans (hlatch _)).trans
    (.whenever fun _ => (State.preview_exit _).scu.trans (State.callCheck_scu _))

theorem State.answerCanvass_scu (s : State) (origin : Byte) (n want : Half) : KeepsScu s (s.answerCanvass origin n want) := by
  unfold State.answerCanvass
  split
  · exact s.count_scu _
  · extract_lets ans t r src src2 u
    have hr : KeepsScu s r.state := (s.count_scu _).trans (t.offer_scu _ _)
    have hu : KeepsScu r.state u := State.setCru_scu _ _
    exact .ite (fun _ => (hr.trans hu).trans (u.countBy_scu _ _)) (fun _ => hr.trans (State.count_scu _ _))

theorem State.closeCanvass_scu (s : State) (c : Canvass) (why : Counter) : KeepsScu s (s.closeCanvass c why) := by
  have hjudge (t : State) (b : Bool) : KeepsScu t (t.judgeClose b) :=
    .whenever fun _ => .ite (fun _ => ⟨id, id⟩) (fun _ => ⟨id, id⟩)
  exact ((s.setCru_scu _).trans (State.count_scu _ why)).trans (hjudge _ _)

theorem State.countReturned_scu (s : State) (n : Nat) : KeepsScu s (s.countReturned n) := ⟨id, id⟩

theorem State.countUnreturned_scu (s : State) (n : Nat) : KeepsScu s (s.countUnreturned n) := ⟨id, id⟩

theorem State.takeLend_scu (s : State) (lender : Byte) (c : Canvass) (amount : Nat) : KeepsScu s (s.takeLend lender c amount) := by
  unfold State.takeLend
  extract_lets total src t u excess r src2 src3 v
  have hu : KeepsScu s u := (s.setCru_scu _).trans (t.countBy_scu _ _)
  have hr : KeepsScu s r.state := hu.trans (u.offer_scu _ _)
  have hv : KeepsScu r.state v := State.setCru_scu _ _
  refine .ite (fun _ => .ite (fun _ => ?_) fun _ => hr.trans (State.countUnreturned_scu _ _)) (fun _ => hu)
  exact ((hr.trans hv).trans (v.countReturned_scu _)).trans (.ite (fun _ => .refl _) (fun _ => ⟨id, id⟩))

theorem State.matchReply_scu (s : State) (lender : Byte) (c : Canvass) (k : ReplyKind) (amount : Nat) :
    KeepsScu s (s.matchReply lender c k amount) := by
  unfold State.matchReply
  extract_lets c' src t
  split
  · exact (s.setCru_scu _).trans (t.count_scu _)
  · exact s.setCru_scu _
  · exact s.takeLend_scu _ _ _

theorem State.closeIfAnswered_scu (s : State) : KeepsScu s s.closeIfAnswered := by
  unfold State.closeIfAnswered
  split
  · exact .whenever fun _ => s.closeCanvass_scu _ _
  · exact .refl s

theorem State.lateLend_scu (s : State) (lender : Byte) (n : Half) (amount : Nat) : KeepsScu s (s.lateLend lender n amount) := by
  unfold State.lateLend
  extract_lets k src t r src2 src3 v u
  have ht : KeepsScu s t := s.setCru_scu _
  have hr : KeepsScu s r.state := ht.trans (t.offer_scu _ _)
  have hv : KeepsScu r.state v := State.setCru_scu _ _
  have hu : KeepsScu s u :=
    .ite (fun _ => .ite (fun _ => hr.trans (State.countReturned_scu _ _)) fun _ => (hr.trans hv).trans (v.countUnreturned_scu _))
      (fun _ => ht)
  exact ((hu.trans (u.count_scu _)).trans (State.countBy_scu _ _ _)).trans (State.countBy_scu _ _ _)

theorem State.takeReply_scu (s : State) (lender : Byte) (n : Half) (k : ReplyKind) (amount : Nat) :
    KeepsScu s (s.takeReply lender n k amount) := by
  have hlate : KeepsScu s (s.lateReply lender n k amount) := by
    unfold State.lateReply
    split
    · exact s.lateLend_scu _ _ _
    · exact s.count_scu _
    · exact s.count_scu _
  unfold State.takeReply
  split
  · exact .ite (fun _ => (s.matchReply_scu _ _ _ _).trans (State.closeIfAnswered_scu _)) (fun _ => hlate)
  · exact hlate

theorem State.takeReturn_scu (s : State) (amount : Nat) : KeepsScu s (s.takeReturn amount) := ⟨id, id⟩

theorem State.hearTrim_scu (s : State) (step : TrimStep) (n : Half) : KeepsScu s (s.hearTrim step n) := by
  unfold State.hearTrim
  extract_lets t src u
  have ht : KeepsScu s t := by
    dsimp only [t]
    split
    · exact .whenever fun _ => s.countBy_scu _ _
    · exact .refl s
  have hu : KeepsScu t u := ⟨id, id⟩
  exact (ht.trans hu).trans (u.applyTrim_exit _).scu

/-! ### Going on line (R170, R172) -/

theorem State.raiseTrips_scu (s : State) : KeepsScu s s.raiseTrips := by
  have hraise (t : State) (b : Bool) (c : Cause) (k : Counter) : KeepsScu t (if b then (t.raiseOwn c).count k else t) :=
    .whenever fun _ => (t.raiseOwn_scu c).trans (State.count_scu _ k)
  exact (hraise s _ _ _).trans (hraise _ _ _ _)

theorem State.openLine_scu (s : State) : KeepsScu s s.openLine := by
  have hlatched : KeepsScu s (s.enterMode (modeOf s.hlu.entries)).latchSetpoint := ⟨id, id⟩
  exact hlatched.trans (State.preview_exit _).scu

theorem State.setCheck_scu (s : State) (p : Port) (c : Check) (x : Option Time) : KeepsScu s (s.setCheck p c x) :=
  s.setPort_scu p _

theorem State.settlePort_scu (s : State) (p : Port) : KeepsScu s (s.settlePort p) :=
  .whenever fun _ => .ite (fun _ => s.setCheck_scu _ _ _) (fun _ => s.raiseOwn_scu _)

theorem State.settleOtherPort_scu (s : State) (p : Port) : KeepsScu s (s.settleOtherPort p) :=
  .whenever fun _ => (s.setCheck_scu _ _ _).trans (State.raiseOwn_scu _ _)

/-- R88, R96: discovery makes a new head and a new tracker. -/
theorem State.discover_scu (s : State) (p : Fin 16) (n : Nat) : KeepsScu s (s.discover p n) := by
  unfold State.discover
  extract_lets t u
  have hpool : KeepsScu s (s.createUnits p n).headTakesPool :=
    .trans (.of_fresh rfl rfl) (.whenever fun _ => State.setCru_scu _ _)
  have ht : KeepsScu s t := hpool.trans (.whenever fun _ => State.setTail_scu _ _)
  have hu : KeepsScu t u := ⟨id, id⟩
  exact ((((ht.trans hu).trans ((u.settlePort_scu _).trans (State.settlePort_scu _ _))).trans (State.raiseTrips_scu _)).trans
    (State.openLine_scu _)).trans (State.count_scu _ _)

theorem State.nextFree_scu (s : State) : KeepsScu s s.nextFree := ⟨id, id⟩

theorem State.sendHello_scu (s : State) (p : Port) : KeepsScu s (s.sendHello p) :=
  (s.offerCountTaken_link _ _ _).scu.trans (State.nextFree_scu _)

theorem State.startCheck_scu (s : State) (p : Port) : KeepsScu s (s.startCheck p) :=
  (s.sendHello_scu p).trans (State.setCheck_scu _ _ _ _)

/-- R88, R96: a rejoin makes a new tracker, and a new head but for its next serial. -/
theorem State.rejoin_scu (s : State) (p : Port) (q : Fin 16) (h : Hello) : KeepsScu s (s.rejoin p q h) := by
  unfold State.rejoin
  obtain ⟨next, tail, heq, -⟩ := (s.createUnits q h.n.toNat).rejoinEnds_eq h
  rw [heq]
  extract_lets src t u v w
  have hv : KeepsScu s v := .of_fresh rfl rfl
  have hw : KeepsScu s w :=
    (((hv.trans (v.setCheck_scu _ _ _)).trans (State.settleOtherPort_scu _ _)).trans (State.raiseTrips_scu _)).trans
      (State.openLine_scu _)
  have hstarted : KeepsScu s (if w.hasNeighbour p.other && w.linkIsUp p.other then w.startCheck p.other else w) :=
    hw.trans (.whenever fun _ => w.startCheck_scu _)
  exact (hstarted.trans (State.count_scu _ _)).trans (State.nextFree_scu _)

/-! ### Line discovery (R165 to R173) -/

theorem State.setLdu_scu (s : State) (x : Ldu) : KeepsScu s { s with ldu := x } := ⟨id, id⟩

theorem State.enterFault_scu (s : State) (r : FaultReason) : KeepsScu s (s.enterFault r) := ⟨id, id⟩

theorem State.discoverOrBudget_scu (s : State) (n : Nat) : KeepsScu s (s.discoverOrBudget n) := by
  unfold State.discoverOrBudget
  extract_lets src t
  have ht : KeepsScu s t := s.setLdu_scu _
  exact .ite (fun _ => ht.trans (t.enterFault_scu _)) (fun _ => ht.trans (t.discover_scu _ _))

theorem State.headPos_scu (s : State) : KeepsScu s s.headPos :=
  (s.offerCountTaken_link _ _ _).scu.trans (State.setLdu_scu _ _)

theorem State.headDecision_scu (s : State) : KeepsScu s s.headDecision := by
  unfold State.headDecision State.becomeHead
  refine .whenever fun _ => ?_
  extract_lets src t
  have ht : KeepsScu s t := s.setLdu_scu _
  exact .ite (fun _ => ht.trans t.headPos_scu) (fun _ => ht.trans (t.discoverOrBudget_scu _))

theorem State.acceptCount_scu (s : State) (n : Nat) (b : Bool) : KeepsScu s (s.acceptCount n b) :=
  .ite (fun _ => s.discoverOrBudget_scu n) (fun _ => ⟨id, id⟩)

theorem State.takeCount_scu (s : State) (n : Nat) (b : Bool) : KeepsScu s (s.takeCount n b) :=
  .ite (fun _ => s.acceptCount_scu n b) (fun _ => s.count_scu _)

theorem State.offerCount_scu (s : State) (n : Nat) (b : Bool) : KeepsScu s (s.offerCount n b) := s.offer_scu _ _

theorem State.takePlace_scu (s : State) (q : Fin 16) (recipe : Half) (version : Byte) (b : Bool) :
    KeepsScu s (s.takePlace q recipe version b) := by
  unfold State.takePlace
  extract_lets src t n src2 u
  have ht : KeepsScu s t := s.setLdu_scu _
  have hu : KeepsScu t u := t.setLdu_scu _
  exact .ite (fun _ => ht.trans (t.offerCountTaken_link _ _ _).scu)
    (fun _ => ((ht.trans hu).trans (u.offerCount_scu _ _)).trans (State.acceptCount_scu _ _ _))

theorem State.takePos_scu (s : State) (q : Byte) (recipe : Half) (version : Byte) (b : Bool) :
    KeepsScu s (s.takePos q recipe version b) := by
  unfold State.takePos State.discoverPos
  split
  · split
    · exact s.takePlace_scu _ _ _ _
    · exact ⟨id, id⟩
  split
  · exact .ite (fun _ => (s.offerCount_scu _ _).trans (State.count_scu _ _)) (fun _ => s.count_scu _)
  · split
    · exact s.offerCount_scu _ _
    · exact s.count_scu _

theorem State.passCheck_scu (s : State) (p : Port) (h : Hello) : KeepsScu s (s.passCheck p h) := by
  unfold State.passCheck
  extract_lets t
  have ht : KeepsScu s t := (s.setCheck_scu _ _ _).trans (State.count_scu _ _)
  exact ((ht.trans (t.catchUps_scu _)).trans (State.removeOwn_scu _ _)).trans (State.deriveMode_scu _)

theorem State.hearAnswerOnLine_scu (s : State) (p : Port) (h : Hello) : KeepsScu s (s.hearAnswerOnLine p h) :=
  .ite (fun _ => .ite (fun _ => s.passCheck_scu p h) (fun _ => (s.setCheck_scu _ _ _).trans (State.count_scu _ _)))
    (fun _ => s.count_scu _)

theorem State.hearAnswerDiscover_scu (s : State) (p : Port) (h : Hello) : KeepsScu s (s.hearAnswerDiscover p h) := by
  unfold State.hearAnswerDiscover
  split
  · extract_lets src t
    have ht : KeepsScu s t := s.setLdu_scu _
    split
    · exact .ite (fun _ => ht.trans (t.enterFault_scu _)) (fun _ => ht.trans (t.rejoin_scu _ _ _))
    · exact ht.trans (t.count_scu _)
  · exact s.count_scu _

theorem State.takeHello_scu (s : State) (p : Port) (h : Hello) : KeepsScu s (s.takeHello p h) :=
  .ite (fun _ => ((s.offer_scu _ _).trans (State.count_scu _ _)).trans (State.nextFree_scu _)) fun _ =>
    .ite (fun _ => s.hearAnswerOnLine_scu p h) fun _ =>
      .ite (fun _ => s.hearAnswerDiscover_scu p h) (fun _ => s.count_scu _)

theorem State.sendHellos_scu (s : State) : KeepsScu s s.sendHellos := by
  have hsend (t : State) (p : Port) : KeepsScu t (if t.linkIsUp p then t.sendHello p else t) :=
    .whenever fun _ => t.sendHello_scu p
  exact (hsend s .up).trans (hsend _ .down)

theorem State.repeatHellos_scu (s : State) : KeepsScu s s.repeatHellos := s.sendHellos_scu.trans (State.setLdu_scu _ _)

theorem State.repeatCheck_scu (s : State) (p : Port) : KeepsScu s (s.repeatCheck p) :=
  .ite (fun _ => s.startCheck_scu p) (fun _ => s.setCheck_scu _ _ _)

theorem State.settled_scu (s : State) : KeepsScu s s.settled := (s.setLdu_scu _).trans (State.headDecision_scu _)

/-! ### The link ports (R145 to R160) -/

theorem State.linkComesUp_scu (s : State) (p : Port) : KeepsScu s (s.linkComesUp p) := by
  refine (s.setPort_scu p _).trans (.whenever fun _ => ?_)
  split
  · exact State.startCheck_scu _ p
  · exact State.setCheck_scu _ _ _ _
  · exact .refl _

theorem State.unitsLinkDown_scu (s : State) (p : Port) : KeepsScu s (s.unitsLinkDown p) := by
  unfold State.unitsLinkDown
  extract_lets t
  have ht : KeepsScu s t := s.setCheck_scu _ _ _
  exact ht.trans (.ite (fun _ => .whenever fun _ => (t.raiseOwn_scu _).trans (State.deriveMode_scu _))
    (fun _ => .whenever fun _ => t.headDecision_scu))

theorem State.carry_scu (s : State) (p : Port) (f : Frame) (copied : Bool) : KeepsScu s (s.carry p f copied) := by
  rw [State.carry_eq]
  exact (s.setPort_scu _ _).trans ⟨id, id⟩

theorem State.endReceive_scu (s : State) (p : Port) : KeepsScu s (s.endReceive p) := s.setPort_scu p _

theorem State.unitTakes_scu (s : State) (p : Port) (f : Frame) : KeepsScu s (s.unitTakes p f) := by
  unfold State.unitTakes
  split
  · exact s.hearHold_scu _ _
  · exact s.hearClear_scu _ _
  · exact s.takeStroke_scu _ _ _
  · exact .whenever fun _ => s.takeCall_scu _ _
  · exact s.takePos_scu _ _ _ _
  · exact s.takeCount_scu _ _
  · exact s.takeHello_scu _ _
  · exact s.answerCanvass_scu _ _ _
  · exact s.takeReply_scu _ _ _ _
  · exact s.takeReturn_scu _
  · exact s.hearTrim_scu _ _

theorem State.route_scu (s : State) (p : Port) (f : Frame) : KeepsScu s (s.route p f) := by
  unfold State.route
  split
  · exact (((s.portCount_scu p _).trans (State.offerTrace_scu _ _)).trans (State.endReceive_scu _ p)).trans
      (State.unitTakes_scu _ p f)
  · exact ((s.portCount_scu p _).trans (State.unitTakes_scu _ p f)).trans
      ((State.carry_scu _ _ _ _).trans (State.endReceive_scu _ _))
  · exact (s.carry_scu _ _ _).trans (State.endReceive_scu _ _)
  · exact ((s.portCount_scu _ _).trans (State.offerTrace_scu _ _)).trans (State.endReceive_scu _ _)

theorem State.dropReceived_scu (s : State) (p : Port) (c : PortCounter) (k : ErrorKind) (v : FrameView) :
    KeepsScu s (s.dropReceived p c k v) :=
  ((s.portCount_scu p c).trans (State.offerTrace_scu _ _)).trans (State.endReceive_scu _ _)

theorem State.receiveFrame_scu (s : State) (p : Port) (f : Frame) : KeepsScu s (s.receiveFrame p f) :=
  .ite (fun _ => (s.portCount_scu _ _).trans (State.route_scu _ _ _)) (fun _ => s.dropReceived_scu _ _ _ _)

theorem State.linkGoesDown_scu (s : State) (p : Port) (c : PortCounter) : KeepsScu s (s.linkGoesDown p c) := by
  have hdiscard (fs : List (Frame × Bool)) (t : State) : KeepsScu t (t.discardAll p fs) := by
    induction fs generalizing t with
    | nil => exact .refl t
    | cons f rest ih =>
      refine KeepsScu.trans ?_ (ih (t.discard p f))
      exact ((t.portCount_scu _ _).trans (State.offerTrace_scu _ _)).trans (.whenever fun _ => State.countBy_scu _ _ _)
  have hassembly (t : State) : KeepsScu t (t.dropAssembly p) := by
    unfold State.dropAssembly
    split
    · exact t.endReceive_scu p
    · exact .refl t
  exact ((((s.portCount_scu p c).trans (hdiscard _ _)).trans (hassembly _)).trans (State.setPort_scu _ p _)).trans
    (State.unitsLinkDown_scu _ p)

theorem State.setReceiver_scu (s : State) (p : Port) (r : Receiver) : KeepsScu s (s.setReceiver p r) := s.setPort_scu _ _

theorem State.dropOpen_scu (s : State) (p : Port) (got : List Byte) (c : PortCounter) (k : ErrorKind) :
    KeepsScu s (s.dropOpen p got c k) := (s.setReceiver_scu _ _).trans (State.dropReceived_scu _ _ _ _ _)

theorem State.completeFrame_scu (s : State) (p : Port) (got : List Byte) : KeepsScu s (s.completeFrame p got) := by
  unfold State.completeFrame
  extract_lets t body
  have ht : KeepsScu s t := s.setReceiver_scu _ _
  have hdrop (c : PortCounter) (k : ErrorKind) : KeepsScu s (t.dropReceived p c k (viewOfBytes got)) :=
    ht.trans (t.dropReceived_scu _ _ _ _)
  split
  · split
    · exact hdrop _ _
    · split
      · exact .ite (fun _ => ht.trans (t.receiveFrame_scu _ _)) (fun _ => hdrop _ _)
      · exact hdrop _ _
  · exact hdrop _ _

theorem State.collect_scu (s : State) (p : Port) (got : List Byte) (b : Byte) : KeepsScu s (s.collect p got b) := by
  unfold State.collect
  extract_lets got'
  split
  · exact .ite (fun _ => s.dropOpen_scu _ _ _ _) fun _ =>
      .ite (fun _ => s.completeFrame_scu _ _) (fun _ => s.setReceiver_scu _ _)
  · exact s.setReceiver_scu _ _

theorem State.receiverTakes_scu (s : State) (p : Port) (c : CharSort) : KeepsScu s (s.receiverTakes p c) := by
  unfold State.receiverTakes
  split
  · exact s.dropOpen_scu _ _ _ _
  · exact .refl s
  · exact (s.dropOpen_scu _ _ _ _).trans (State.setReceiver_scu _ _ _)
  · exact s.setReceiver_scu _ _
  · exact s.collect_scu _ _ _
  · exact s.portCount_scu _ _
  · exact s.dropOpen_scu _ _ _ _
  · exact .refl s

theorem State.errorChar_scu (s : State) (p : Port) : KeepsScu s (s.errorChar p) := by
  unfold State.errorChar
  extract_lets t u n src v
  have ht : KeepsScu s t := s.portCount_scu _ _
  split
  · have hv : KeepsScu s v := (ht.trans (t.receiverTakes_scu _ _)).trans (u.setPort_scu _ _)
    exact .ite (fun _ => hv.trans (v.linkGoesDown_scu _ _)) (fun _ => hv)
  · exact ht.trans (t.setPort_scu _ _)

theorem State.validChar_scu (s : State) (p : Port) (c : CharSort) : KeepsScu s (s.validChar p c) := by
  unfold State.validChar
  split
  · exact (s.setPort_scu p _).trans (State.receiverTakes_scu _ _ _)
  · unfold State.validWhileDown
    extract_lets t n
    have ht : KeepsScu s t := (s.noteStray_link p c).scu
    exact ht.trans (.ite (fun _ => .refl t) fun _ => .ite (fun _ => t.linkComesUp_scu p) (fun _ => t.setPort_scu _ _))

theorem State.receiveChar_scu (s : State) (p : Port) (c : RawChar) : KeepsScu s (s.receiveChar p c) := by
  unfold State.receiveChar
  split
  · exact s.errorChar_scu p
  · exact s.validChar_scu _ _
  · exact s.validChar_scu _ _
  · exact s.validChar_scu _ _

theorem State.frameArrives_scu (s : State) (a : Arrival) (x : Payload) : KeepsScu s (s.frameArrives a x) :=
  .whenever fun _ => ((s.setPort_scu _ _).trans (State.setReceiver_scu _ _ _)).trans (State.receiveFrame_scu _ _ _)

theorem State.becomeFree_scu (s : State) (p : Port) : KeepsScu s (s.becomeFree p) := by
  have hsent : KeepsScu s (s.frameSent p) := by
    unfold State.frameSent
    split
    · exact s.setPort_scu _ _
    · exact .refl s
    · exact .refl s
  have hegress (t : State) : KeepsScu t (t.egress p) := by
    unfold State.egress
    split
    · exact t.setPort_scu _ _
    · exact t.setPort_scu _ _
    · exact t.setPort_scu _ _
    · exact .ite (fun _ => .ite (fun _ => t.setPort_scu _ _) fun _ => (t.setPort_scu _ _).trans (State.portCount_scu _ _ _))
        (fun _ => t.setPort_scu _ _)
  exact .whenever fun _ => hsent.trans (hegress _)

/-! ### The service port (R182 to R187) -/

theorem State.setSvcReceiver_scu (s : State) (x : SvcReceiver) : KeepsScu s (s.setSvcReceiver x) := ⟨id, id⟩

/-- A command of the service port keeps the calls and the tracker sound. -/
def Service.KeepsScu (c : Service) : Prop := ∀ (s : State) (payload : List Byte), Machine.KeepsScu s (c.run s payload).state

theorem startService_scu : startService.KeepsScu := fun s _ => (s.setLdu_scu _).trans (State.sendHellos_scu _)

/-- R183, R190: every command byte names a command that keeps the calls and the tracker sound. -/
theorem serviceOf_scu {code : Byte} {c : Service} (h : serviceOf code = some c) : c.KeepsScu := by
  have hread (data : State → List Byte) : (readService data).KeepsScu := fun s _ => .refl s
  unfold serviceOf at h
  split at h <;> cases h
  · exact hread _
  · intro s payload
    unfold loadImageService
    dsimp only
    split <;> exact ⟨id, id⟩
  · exact startService_scu
  · exact hread _
  · exact hread _
  · intro s payload
    unfold readExitLogService
    dsimp only
    split <;> exact .refl s
  · intro s payload
    unfold readCountersService
    dsimp only
    split <;> exact .refl s
  · exact fun _ _ => ⟨id, id⟩
  · exact fun _ _ => ⟨id, id⟩
  · intro s payload
    unfold traceSetupService
    dsimp only
    split
    · exact ⟨id, id⟩
    · exact .refl s
  · exact fun _ _ => ⟨id, id⟩
  · exact fun _ _ => ⟨id, id⟩
  · intro s payload
    unfold readTraceService
    dsimp only
    split <;> exact .refl s

theorem State.takeRequest_scu (s : State) (code : Byte) {svc : Option Service} (h : ∀ c, svc = some c → c.KeepsScu)
    (r : Request) : KeepsScu s (s.takeRequest code svc r) := by
  have hrespond (a : Answer) : KeepsScu a.state (State.respond a) :=
    KeepsScu.trans (.ite (fun _ => .refl _) (fun _ => State.count_scu _ _)) (State.setSvcReceiver_scu _ _)
  have hanswer (t : State) : KeepsScu t (t.answerRequest code svc r).state := by
    unfold State.answerRequest
    split
    · exact .refl t
    split
    · exact .refl t
    · split
      · exact .refl t
      split
      · exact .refl t
      · exact h _ rfl t r.payload
  exact ((s.count_scu _).trans (hanswer _)).trans (hrespond _)

theorem State.abandonRequest_scu (s : State) : KeepsScu s s.abandonRequest :=
  (s.count_scu _).trans (State.setSvcReceiver_scu _ _)

theorem State.requestArrives_scu (s : State) (code : Byte) {svc : Option Service} (h : ∀ c, svc = some c → c.KeepsScu)
    (r : Request) : KeepsScu s (s.requestArrives code svc r) := by
  have htake : KeepsScu s (if 1024 < r.payload.length then s.abandonRequest else s.takeRequest code svc r) :=
    .ite (fun _ => s.abandonRequest_scu) (fun _ => s.takeRequest_scu code h r)
  unfold State.requestArrives
  split
  · exact s.countBy_scu _ _
  · exact htake
  · exact htake

theorem State.serviceByte_scu (s : State) (b : Byte) : KeepsScu s (s.serviceByte b) := by
  have hhunt (t : State) : KeepsScu t (t.huntByte b) := .ite (fun _ => t.setSvcReceiver_scu _) (fun _ => t.count_scu _)
  unfold State.serviceByte State.collectByte
  split
  · exact hhunt s
  · exact .ite (fun _ => s.abandonRequest_scu.trans (hhunt _)) fun _ => .ite (fun _ => s.setSvcReceiver_scu _) fun _ =>
      .ite (fun _ => s.abandonRequest_scu) fun _ => .ite (fun _ => s.setSvcReceiver_scu _) fun _ =>
        s.takeRequest_scu _ (fun _ => serviceOf_scu) _
  · exact s.count_scu _

theorem State.gapExpires_scu (s : State) : KeepsScu s s.gapExpires := by
  unfold State.gapExpires
  split
  · exact .whenever fun _ => s.abandonRequest_scu
  · exact .refl s
  · exact .refl s

theorem State.responseSent_scu (s : State) : KeepsScu s s.responseSent := by
  unfold State.responseSent
  split
  · exact s.setSvcReceiver_scu _
  · exact .refl s
  · exact .refl s

/-! ### Every command -/

/-- A level of a plant line is not read by the invariants. -/
theorem State.setPins_scu (s : State) (x : Pins) : KeepsScu s { s with pins := x } := ⟨id, id⟩

theorem State.observe_scu (s : State) (e : Env) : KeepsScu s (s.observe e) := ⟨id, id⟩

/-- R61 to R64: a plant line takes its level, and may act. -/
theorem KeepsScu.line {s t : State} {x : Pins} {p : Prop} [Decidable p] (h : p → KeepsScu { s with pins := x } t) :
    KeepsScu s (if p then t else { s with pins := x }) := (s.setPins_scu x).trans (.whenever h)

/-- R62, R63: a trip edge on line. -/
theorem State.tripEdge_scu (s : State) (c : Cause) (k : Counter) :
    KeepsScu s ((s.tripInverter.raiseOwn c).count k).deriveMode :=
  ((s.tripInverter_scu.trans (State.raiseOwn_scu _ c)).trans (State.count_scu _ k)).trans (State.deriveMode_scu _)

theorem execPushed_scu (e : Env) (s : State) : ∃ t, execPushed e s = .next t ∧ KeepsScu s t :=
  ⟨_, rfl, (s.observe_scu e).trans (.ite (fun _ => State.takePushed_scu _) (fun _ => State.count_scu _ _))⟩

theorem execSampleDeadlineExpiry_scu (e : Env) (s : State) :
    ∃ t, execSampleDeadlineExpiry e s = .next t ∧ KeepsScu s t := by
  refine ⟨_, rfl, (s.observe_scu e).trans ?_⟩
  split
  · exact (State.takeSample_exit _ _).scu
  · exact .refl _

theorem execCanvassDeadlineExpiry_scu (e : Env) (s : State) :
    ∃ t, execCanvassDeadlineExpiry e s = .next t ∧ KeepsScu s t := by
  refine ⟨_, rfl, (s.observe_scu e).trans ?_⟩
  split
  · exact State.closeCanvass_scu _ _ _
  · exact .refl _

theorem execLinkUp_scu (e : Env) (p : Port) (s : State) : ∃ t, execLinkUp e p s = .next t ∧ KeepsScu s t :=
  ⟨_, rfl, (s.observe_scu e).trans (.ite (fun _ => .refl _) (fun _ => State.linkComesUp_scu _ _))⟩

theorem State.refreshOwn_scu (s : State) : KeepsScu s s.refreshOwn :=
  (s.repeatOwn_link s.hlu.entries).scu.trans (State.setHlu_scu _ _)

theorem State.expireHeard_scu (s : State) (c : Cause) (origin : Byte) :
    KeepsScu s ((s.dropHeard c origin).count .holdExpiries).deriveMode :=
  ((s.setHlu_scu _).trans (State.count_scu _ .holdExpiries)).trans (State.deriveMode_scu _)

/-- Every command keeps the calls and the tracker sound. -/
theorem exec_keepsScu (c : Instr) (s : State) : ∃ t, exec c s = .next t ∧ KeepsScu s t := by
  have request (e : Env) (code code' : Byte) {svc : Service} (r : Request) (h : serviceOf code' = some svc) :
      KeepsScu s ((s.observe e).requestArrives code (some svc) r) :=
    (s.observe_scu e).trans (State.requestArrives_scu _ _ (fun _ hc => serviceOf_scu (h.trans hc)) r)
  have frame (e : Env) (a : Arrival) (x : Payload) : KeepsScu s ((s.observe e).frameArrives a x) :=
    (s.observe_scu e).trans (State.frameArrives_scu _ a x)
  have timed (e : Env) {t : State} {p : Prop} [Decidable p] (h : KeepsScu (s.observe e) t) :
      KeepsScu s (if p then t else s.observe e) := (s.observe_scu e).trans (.whenever fun _ => h)
  cases c with
  | powerOn e => exact ⟨_, rfl, .of_fresh rfl rfl⟩
  | resetPin e => exact ⟨_, rfl, .of_fresh rfl rfl⟩
  | identify e r => exact ⟨_, rfl, request e _ 1 r rfl⟩
  | loadImage e r => exact ⟨_, rfl, request e _ 2 r rfl⟩
  | start e r => exact ⟨_, rfl, request e _ 3 r rfl⟩
  | readStatus e r => exact ⟨_, rfl, request e _ 16 r rfl⟩
  | readQueue e r => exact ⟨_, rfl, request e _ 17 r rfl⟩
  | readExitLog e r => exact ⟨_, rfl, request e _ 18 r rfl⟩
  | readCounters e r => exact ⟨_, rfl, request e _ 19 r rfl⟩
  | clearCounters e r => exact ⟨_, rfl, request e _ 20 r rfl⟩
  | clearResetCause e r => exact ⟨_, rfl, request e _ 21 r rfl⟩
  | traceSetup e r => exact ⟨_, rfl, request e _ 32 r rfl⟩
  | traceArm e r => exact ⟨_, rfl, request e _ 33 r rfl⟩
  | traceStop e r => exact ⟨_, rfl, request e _ 34 r rfl⟩
  | readTrace e r => exact ⟨_, rfl, request e _ 35 r rfl⟩
  | unknownCommand e code r =>
    exact ⟨_, rfl, (s.observe_scu e).trans (State.requestArrives_scu _ _ (fun _ => serviceOf_scu) r)⟩
  | serviceAbandoned e => exact ⟨_, rfl, (s.observe_scu e).trans (State.gapExpires_scu _)⟩
  | serviceResponseSent e => exact ⟨_, rfl, (s.observe_scu e).trans (State.responseSent_scu _)⟩
  | serviceByteReceived e b => exact ⟨_, rfl, (s.observe_scu e).trans (State.serviceByte_scu _ b)⟩
  | periodEnd e => exact ⟨_, rfl, timed e (State.endPeriod_scu _)⟩
  | estopAsserted e => exact ⟨_, rfl, (s.observe_scu e).trans (.line fun _ => State.tripEdge_scu _ .estop .estopTrips)⟩
  | estopReleased e => exact ⟨_, rfl, (s.observe_scu e).trans (State.setPins_scu _ _)⟩
  | faultHigh e =>
    exact ⟨_, rfl, (s.observe_scu e).trans (.line fun _ => State.tripEdge_scu _ .inverterFault .inverterFaultTrips)⟩
  | faultLow e => exact ⟨_, rfl, (s.observe_scu e).trans (State.setPins_scu _ _)⟩
  | readyLow e => exact ⟨_, rfl, (s.observe_scu e).trans (.line fun _ => ⟨id, id⟩)⟩
  | readyHigh e => exact ⟨_, rfl, (s.observe_scu e).trans (State.setPins_scu _ _)⟩
  | tripReset e => exact ⟨_, rfl, (s.observe_scu e).trans (.line fun _ => State.resetTrip_scu _)⟩
  | motionEdge e => exact ⟨_, rfl, (s.observe_scu e).trans (State.takeMotion_scu _)⟩
  | pushed e => exact execPushed_scu e s
  | pressCall e => exact ⟨_, rfl, timed e (State.takePressCall_scu _)⟩
  | motionDeadlineExpiry e => exact ⟨_, rfl, timed e (State.selfStroke_scu _)⟩
  | confirmDeadlineExpiry e => exact ⟨_, rfl, timed e (State.giveUpConfirm_scu _)⟩
  | pusherTimeout e => exact ⟨_, rfl, timed e (State.pusherTimesOut_scu _)⟩
  | pushPulseEnd e => exact ⟨_, rfl, timed e (State.setHead_scu _ _ rfl (.inl rfl))⟩
  | callTimerExpiry e => exact ⟨_, rfl, timed e (State.callTimeout_scu _)⟩
  | fillTimerExpiry e => exact ⟨_, rfl, timed e (State.fillExpires_scu _)⟩
  | pressIdleExpiry e => exact ⟨_, rfl, timed e (State.pressIdles_scu _)⟩
  | sampleDeadlineExpiry e => exact execSampleDeadlineExpiry_scu e s
  | deliveredPulseEnd e => exact ⟨_, rfl, (s.observe_scu e).trans (State.stepPulse_scu _)⟩
  | canvassDeadlineExpiry e => exact execCanvassDeadlineExpiry_scu e s
  | backoffExpiry e => exact ⟨_, rfl, timed e (State.setCru_scu _ _)⟩
  | recanvassExpiry e => exact ⟨_, rfl, timed e (State.setCru_scu _ _)⟩
  | refreshTimerExpiry e => exact ⟨_, rfl, timed e (State.refreshOwn_scu _)⟩
  | holdExpiry e cause origin => exact ⟨_, rfl, timed e (State.expireHeard_scu _ cause origin)⟩
  | settleExpiry e => exact ⟨_, rfl, timed e (State.settled_scu _)⟩
  | helloTimerExpiry e => exact ⟨_, rfl, timed e (State.repeatHellos_scu _)⟩
  | posTimerExpiry e => exact ⟨_, rfl, timed e (State.headPos_scu _)⟩
  | helloCheckRepeat e p => exact ⟨_, rfl, timed e (State.repeatCheck_scu _ p)⟩
  | linkUp e p => exact execLinkUp_scu e p s
  | linkDownErrors e p => exact ⟨_, rfl, timed e ((State.setPort_scu _ p _).trans (State.errorChar_scu _ p))⟩
  | linkDownSilence e p => exact ⟨_, rfl, timed e (State.linkGoesDown_scu _ p _)⟩
  | breakPeriodEnd e p => exact ⟨_, rfl, timed e (State.setPort_scu _ p _)⟩
  | transmitterFree e p => exact ⟨_, rfl, (s.observe_scu e).trans (State.becomeFree_scu _ p)⟩
  | frameDropped e p c => exact ⟨_, rfl, (s.observe_scu e).trans (State.receiveChar_scu _ p c)⟩
  | characterReceived e p c => exact ⟨_, rfl, (s.observe_scu e).trans (State.receiveChar_scu _ p c)⟩
  | hold e a cause origin => exact ⟨_, rfl, frame e a _⟩
  | clear e a cause origin => exact ⟨_, rfl, frame e a _⟩
  | stroke e a n synth content => exact ⟨_, rfl, frame e a _⟩
  | call e a kind n => exact ⟨_, rfl, frame e a _⟩
  | pos e a q recipe version agrees => exact ⟨_, rfl, frame e a _⟩
  | count e a n agrees => exact ⟨_, rfl, frame e a _⟩
  | hello e a h => exact ⟨_, rfl, frame e a _⟩
  | canvass e a origin n want => exact ⟨_, rfl, frame e a _⟩
  | reply e a n kind amount => exact ⟨_, rfl, frame e a _⟩
  | ret e a n amount => exact ⟨_, rfl, frame e a _⟩
  | trim e a step n => exact ⟨_, rfl, frame e a _⟩

/-- Settles O12: the step takes the command at the front, and every command keeps the calls and the tracker sound. -/
theorem stepKeepsCallsAndTracker : Obligations.StepKeepsCallsAndTracker := by
  intro s t h
  unfold step at h
  split at h
  · rename_i c rest _
    obtain ⟨t', ht', hkeeps⟩ := exec_keepsScu c { s with pending := rest }
    cases ht'.symm.trans h
    exact ⟨hkeeps.calls, hkeeps.counts⟩
  · cases h
    exact ⟨id, id⟩

end Sys2Proof.Machine
end

section
/-!
PROOFS. The stroke tracker (O27, O36): what a motion edge and the expiry of the confirm deadline do, and what a shift and a self-stroke
count (R88, R89, R92, R93).
-/

namespace Sys2Proof.Machine

/-! ### The motion edge (R88, R89) -/

/-- R88: a deadline after one fewer waits runs on while one more does. -/
theorem restartWhile_pred (n : Nat) (now : Time) (ms : Nat) :
    restartWhile (n - 1) now ms = if 1 < n then some (after now ms) else none := by
  unfold restartWhile
  exact if_congr (by omega) rfl rfl

/-- R89: an edge confirms the oldest unconfirmed shift. -/
theorem State.motionTaken_confirms {s : State} (h : 0 < s.tracker.unconfirmed) : s.motionTaken =
    { s.count .motionConfirmed with
      tracker := { s.tracker with
        unconfirmed := s.tracker.unconfirmed - 1
        confirmDeadline :=
          if 1 < s.tracker.unconfirmed then some (after s.now s.img.confirmWindow) else none } } := by
  unfold State.motionTaken
  rw [if_pos h, ← restartWhile_pred]
  rfl

/-- R89: an edge that no shift waits for is remembered as unmatched. -/
theorem State.motionTaken_remembers {s : State} (h : s.tracker.unconfirmed = 0) (hroom : s.tracker.unmatched < 2) : s.motionTaken =
    { s with
      tracker := { s.tracker with
        unmatched := s.tracker.unmatched + 1
        motionDeadline :=
          if s.tracker.unmatched = 0 then some (after s.now s.img.motionDeadline) else s.tracker.motionDeadline } } := by
  unfold State.motionTaken
  rw [if_neg (by omega), if_pos hroom]

/-- R89: a third unmatched edge is counted alone. -/
theorem State.motionTaken_excess {s : State} (h : s.tracker.unconfirmed = 0) (hfull : 2 ≤ s.tracker.unmatched) :
    s.motionTaken = s.count .motionExcess := by
  unfold State.motionTaken
  rw [if_neg (by omega), if_neg (by omega)]

/-- R88: a tracker is used on line, not at the head, and with the motion sense enabled. -/
theorem State.tracks_iff (s : State) :
    s.tracks = true ↔ s.onLine = true ∧ s.isHead = false ∧ s.img.motionSense = 1 := by
  simp [State.tracks, Image.senses, and_assoc]

theorem exec_motionEdge_of_tracks {s : State} (h : s.tracks = true) (e : Env) :
    exec (.motionEdge e) s = .next (s.observe e).motionTaken :=
  congrArg Host.Outcome.next (if_pos (show (s.observe e).tracks = true from h))

/-- R89: an edge is ignored and counted off line, and on line where the tracker is not used; the head does not read it (log 20). -/
theorem exec_motionEdge_ignored {s : State} (h : s.onLine = false ∨ (s.isHead = false ∧ s.img.motionSense ≠ 1)) (e : Env) :
    exec (.motionEdge e) s = .next ((s.observe e).count .motionIgnored) := by
  have htracks : ¬ (s.observe e).tracks = true := by
    rw [State.tracks_iff]
    rintro ⟨hon, -, hsense⟩
    rcases h with hoff | ⟨-, hnone⟩
    · exact absurd (hoff.symm.trans hon) (by decide)
    · exact hnone hsense
  have hhead : ¬ ((s.observe e).onLine && (s.observe e).isHead) = true := by
    rw [Bool.and_eq_true]
    rintro ⟨hon, hhead⟩
    rcases h with hoff | ⟨hnot, -⟩
    · exact absurd (hoff.symm.trans hon) (by decide)
    · exact absurd (hnot.symm.trans hhead) (by decide)
  exact congrArg Host.Outcome.next ((if_neg htracks).trans (if_neg hhead))

/-- Settles O27, a case of the tracker for each clause. -/
theorem motionEdgeMovesTheTracker : Obligations.MotionEdgeMovesTheTracker := by
  rintro e s u rfl
  refine ⟨fun htracks hwaits => ?_, fun htracks hnone hroom => ?_, fun htracks hnone hfull => ?_,
    fun h => exec_motionEdge_ignored h e⟩
  · rw [exec_motionEdge_of_tracks htracks, State.motionTaken_confirms (s := s.observe e) hwaits]
    rfl
  · rw [exec_motionEdge_of_tracks htracks, State.motionTaken_remembers (s := s.observe e) hnone hroom]
    rfl
  · rw [exec_motionEdge_of_tracks htracks, State.motionTaken_excess (s := s.observe e) hnone hfull]

/-! ### What a shift and a self-stroke count (R14, R92) -/

/-- The counters of a shift, with what follows it at the tail. -/
def shiftCounters : List Counter :=
  [.excursions, .strokesSent, .strokesRefused, .duplicateSerials, .shifts] ++ exuCounters ++ callCheckCounters

theorem State.shift_only (s : State) (b : Byte) (x : Slot) : CountsOnly shiftCounters s (s.shift b x) :=
  (((s.handedOn_any b).mono (by decide)).trans ((s.moveQueue_only b x).mono (by decide))).trans
    ((s.shift_after_moveQueue b x).mono (by decide))

/-- R14: a shift is counted once. -/
theorem State.shift_shifts (s : State) (b : Byte) (x : Slot) : (s.shift b x).counter .shifts = satAdd (s.counter .shifts) 1 := by
  rw [s.shift_after_moveQueue b x _ (by decide), State.moveQueue_shifts, s.handedOn_any b _ (by decide)]

/-- R92: the record that a self-stroke brings into slot 0. -/
def State.selfRecord (s : State) : Record := s.placeholder (some { accrued := 0, createdAt := s.cq.lastStroke + 1 })

/-- R92: the state of a self-stroke up to its shift. -/
def State.selfShifted (s : State) : State := (s.count .placeholdersMade).shift (BitVec.ofNat 8 s.pos.val) (some s.selfRecord)

theorem State.selfShifted_shift (s : State) : ShiftFrame s s.selfShifted :=
  (s.count_link _).toShiftFrame.trans (State.shift_shift _ _ _)

/-- R92: after its shift a self-stroke spends the oldest unmatched edge, and is counted. -/
theorem State.selfStroke_eq (s : State) : s.selfStroke =
    { s.selfShifted with
      tracker := { s.tracker with
        unmatched := s.tracker.unmatched - 1
        motionDeadline := if 1 < s.tracker.unmatched then some (after s.now s.img.motionDeadline) else none }
      counters := (s.selfShifted.count .selfStrokes).counters } := by
  have hframe := s.selfShifted_shift
  have hspend : s.selfStroke = (s.selfShifted.spendEdge).count .selfStrokes := rfl
  rw [hspend, ← restartWhile_pred, ← hframe.tracker, ← hframe.now, ← hframe.img]
  rfl

theorem State.selfStroke_counter_selfStrokes (s : State) :
    s.selfStroke.counter .selfStrokes = satAdd (s.counter .selfStrokes) 1 := by
  have hshift : CountsOnly (.placeholdersMade :: shiftCounters) s s.selfShifted :=
    (State.count_only (by decide) s).trans ((State.shift_only _ _ _).mono (by decide))
  rw [State.selfStroke_eq]
  exact (s.selfShifted.counter_count .selfStrokes).trans (by rw [hshift _ (by decide)])

/-- R92: the command of the motion deadline, when it runs out where a tracker is used. -/
theorem exec_motionDeadlineExpiry_eq {s : State} (e : Env) (htracks : s.tracks = true)
    (hdue : due (s.observe e).now s.tracker.motionDeadline = true) :
    exec (.motionDeadlineExpiry e) s = .next (s.observe e).selfStroke :=
  congrArg Host.Outcome.next (if_pos (Bool.and_eq_true_iff.mpr ⟨htracks, hdue⟩))

/-! ### The confirm deadline (R93) -/

/-- R93: the oldest unconfirmed shift is given up. -/
theorem State.giveUpConfirm_eq (s : State) : s.giveUpConfirm =
    { s.count .motionMissing with
      tracker := { s.tracker with
        unconfirmed := s.tracker.unconfirmed - 1
        confirmDeadline := if 1 < s.tracker.unconfirmed then some (after s.now s.img.confirmWindow) else none } } := by
  rw [← restartWhile_pred]
  rfl

theorem exec_confirmDeadlineExpiry_eq {s : State} (e : Env) (htracks : s.tracks = true) (hwaits : 0 < s.tracker.unconfirmed)
    (hdue : due (s.observe e).now s.tracker.confirmDeadline = true) :
    exec (.confirmDeadlineExpiry e) s = .next (s.observe e).giveUpConfirm :=
  congrArg Host.Outcome.next (if_pos (by
    rw [Bool.and_eq_true, Bool.and_eq_true, decide_eq_true_eq]
    exact ⟨⟨htracks, hwaits⟩, hdue⟩))

/-- R89, R92, R93: an edge that no shift waits for is remembered, and its deadline leads to a self-stroke. -/
theorem State.edge_leads_to_selfStroke {t : State} (htracks : t.tracks = true) (hnone : t.tracker.unconfirmed = 0)
    (hroom : t.tracker.unmatched < 2) (e : Env) :
    ∃ v, exec (.motionEdge e) t = .next v ∧ v.tracker.unmatched = t.tracker.unmatched + 1 ∧ v.tracker.unconfirmed = 0 ∧
      v.cq = t.cq ∧
      (t.tracker.unmatched = 0 → v.tracker.motionDeadline = some (after (t.observe e).now t.img.motionDeadline)) ∧
      ∀ e' : Env, due (v.observe e').now v.tracker.motionDeadline = true → ∃ w,
        exec (.motionDeadlineExpiry e') v = .next w ∧ w.cq.lastStroke = t.cq.lastStroke + 1 ∧
        w.tracker.unmatched = t.tracker.unmatched ∧ w.counter .selfStrokes = satAdd (t.counter .selfStrokes) 1 := by
  have hedge := exec_motionEdge_of_tracks htracks e
  rw [State.motionTaken_remembers (s := t.observe e) hnone hroom] at hedge
  refine ⟨_, hedge, rfl, hnone, rfl, fun hfirst => if_pos hfirst, fun e' hdue => ?_⟩
  refine ⟨_, exec_motionDeadlineExpiry_eq e' htracks hdue, ?_, ?_, State.selfStroke_counter_selfStrokes _⟩
  · rw [State.selfStroke_cq]
    rfl
  · rw [State.selfStroke_eq]
    rfl

/-- Settles O36: the give-up leaves the queue, so that the next edge is remembered and leads to a self-stroke. -/
theorem confirmDeadlineGivesUpAShift : Obligations.ConfirmDeadlineGivesUpAShift := by
  rintro e s u rfl htracks hwaits hdue
  refine ⟨_, exec_confirmDeadlineExpiry_eq e htracks hwaits hdue, State.giveUpConfirm_eq _, rfl, fun hone hroom e' => ?_⟩
  have hnone : (s.observe e).giveUpConfirm.tracker.unconfirmed = 0 := by
    show s.tracker.unconfirmed - 1 = 0
    omega
  have hcounter : (s.observe e).giveUpConfirm.counter .selfStrokes = s.counter .selfStrokes :=
    State.counter_countBy_ne _ .motionMissing .selfStrokes 1 (by decide)
  rw [← hcounter]
  exact State.edge_leads_to_selfStroke (t := (s.observe e).giveUpConfirm) htracks hnone hroom e'

end Sys2Proof.Machine
end

section
/-!
PROOFS. A CALL at the head and a late STROKE (O50, O52): frames addressed to the station whose unit offers nothing (R94, R97, R98, R162).
-/

namespace Sys2Proof.Machine

/-! ### A frame whose unit leaves the ports (R154, R162) -/

/-- R154, R162: the ports and the trace after a consumed frame whose unit offers nothing. -/
theorem State.consumed_quiet {s t : State} {p : Port} {f : Frame} (hports : ∀ q, t.port q = (s.consumed p f).port q)
    (hltr : t.ltr = (s.consumed p f).ltr) :
    t.ltr = (s.traceAction p .consumed (viewOfFrame f)).ltr ∧ s.PortsReceived t p ∧ ∀ q, (t.port q).localQ = (s.port q).localQ :=
  ⟨hltr.trans (by rw [State.consumed_eq]), .of_consumed (f := f) fun q => by rw [hports]; rfl,
    fun q => by rw [hports, (s.consumed_frame p f).localQ]⟩

/-! ### A CALL at the head (R97, R98) -/

/-- R97: the state after a CALL that the station on line consumes as head. -/
def State.calledBy (s : State) (p : Port) (f : Frame) (k : CallKind) (n : Half) : State := (s.consumed p f).takeCall k n

section
variable (s : State) (p : Port) (f : Frame) (k : CallKind) (n : Half)

/-- R97: a call taken changes the head and counts. -/
theorem State.calledBy_eq : s.calledBy p f k n =
    { s.consumed p f with head := (s.calledBy p f k n).head, counters := (s.calledBy p f k n).counters } :=
  (s.consumed p f).takeCall_eq k n

theorem State.calledBy_port (q : Port) : (s.calledBy p f k n).port q = (s.consumed p f).port q := by
  rw [State.calledBy_eq]
  cases q <;> rfl

theorem State.calledBy_ltr : (s.calledBy p f k n).ltr = (s.consumed p f).ltr := by rw [State.calledBy_eq]

theorem State.calledBy_rest : s.calledBy p f k n = { s with
    head := (s.calledBy p f k n).head, upPort := (s.calledBy p f k n).upPort, downPort := (s.calledBy p f k n).downPort
    ltr := (s.calledBy p f k n).ltr, counters := (s.calledBy p f k n).counters } := by
  have hrest := (s.consumed_frame p f).rest
  have heq := s.calledBy_eq p f k n
  generalize s.calledBy p f k n = t at heq ⊢
  rw [hrest] at heq
  rw [heq]

/-- R97, R98: the head takes the call as it would without the frame. -/
theorem State.calledBy_headTakesCall (hon : s.onLine = true) (hhead : s.isHead = true) :
    s.HeadTakesCall (s.calledBy p f k n) k n := by
  have hframe := s.consumed_frame p f
  have hldu : (s.consumed p f).ldu = s.ldu := by rw [hframe.rest]
  have hon' : (s.consumed p f).onLine = true := by unfold State.onLine; rw [hldu]; exact hon
  have hhead' : (s.consumed p f).isHead = true := by unfold State.isHead; rw [hldu]; exact hhead
  exact (State.takeCall_headTakesCall hon' hhead' k n).congr (by rw [hframe.rest]) (by rw [hframe.rest]) hframe.now.symm
    hframe.img.symm (fun c _ => (hframe.counter c).symm) rfl (fun _ _ => rfl)

end

theorem exec_call_eq {e : Env} {a : Arrival} {k : CallKind} {n : Half} {s : State} (h : s.admits a (.call k n) = true)
    (hdst : a.dst = s.originByte) (hhead : s.isHead = true) : exec (.call e a k n) s =
      .next ((s.observe e).calledBy a.port (arrivedFrame a (.call k n)) k n) := by
  have hconsumed := State.frameArrives_consumed (s := s.observe e) h rfl hdst
  have hhead' : ((s.observe e).consumed a.port (arrivedFrame a (.call k n))).isHead = true := by
    unfold State.isHead
    rw [((s.observe e).consumed_frame _ _).rest]
    exact hhead
  exact congrArg Host.Outcome.next (hconsumed.trans (if_pos hhead'))

/-- Settles O52: the head takes the call of the frame it consumes. -/
theorem callAtTheHead : Obligations.CallAtTheHead := by
  rintro e a k n s u rfl hadmits hdst hhead
  obtain ⟨-, hon, -, -⟩ := (s.admits_iff a _).mp hadmits
  refine ⟨_, exec_call_eq hadmits hdst hhead, State.calledBy_headTakesCall _ _ _ _ _ hon hhead, ?_⟩
  obtain ⟨htrace, hreceived, hqueues⟩ :=
    State.consumed_quiet ((s.observe e).calledBy_port a.port (arrivedFrame a (.call k n)) k n) (State.calledBy_ltr _ _ _ _ _)
  refine ⟨htrace, hreceived, fun p => (hqueues p).trans ?_, State.calledBy_rest _ _ _ _ _⟩
  cases p <;> rfl

/-! ### The synthesised-by field of a STROKE (R87, R110) -/

/-- R87: a STROKE whose synthesised-by field names a position is counted. -/
def State.synthCounted (s : State) (b : Byte) : State := if synthNames b then s.count .synthStrokesTaken else s

theorem State.synthCounted_eq (s : State) (b : Byte) : s.synthCounted b = { s with counters := (s.synthCounted b).counters } := by
  unfold State.synthCounted
  split <;> rfl

theorem State.synthCounted_counter (s : State) (b : Byte) : (s.synthCounted b).counter .synthStrokesTaken =
    satAdd (s.counter .synthStrokesTaken) (if b.toNat ≤ 15 then 1 else 0) := by
  unfold State.synthCounted synthNames
  by_cases hb : b.toNat ≤ 15
  · rw [if_pos (decide_eq_true hb), if_pos hb, State.counter_count]
  · rw [if_neg (by simpa using hb), if_neg hb, satAdd_zero]

theorem State.synthCounted_only (s : State) (b : Byte) : CountsOnly [.synthStrokesTaken] s (s.synthCounted b) := by
  unfold State.synthCounted
  split
  · exact State.count_only List.mem_cons_self s
  · exact .refl s

/-! ### What a STROKE frame reaches (R87, R154) -/

/-- R154: a STROKE consumed by the station, its synthesised-by field counted, before it is judged. -/
def State.strokeTaken (s : State) (p : Port) (f : Frame) (b : Byte) : State := (s.consumed p f).synthCounted b

section
variable (s : State) (p : Port) (f : Frame) (b : Byte)

theorem State.strokeTaken_rest : s.strokeTaken p f b = { s with
    upPort := (s.consumed p f).upPort, downPort := (s.consumed p f).downPort, ltr := (s.consumed p f).ltr
    counters := (s.strokeTaken p f b).counters } := by
  have hcounted := (s.consumed p f).synthCounted_eq b
  unfold State.strokeTaken
  generalize (s.consumed p f).synthCounted b = t at hcounted ⊢
  rw [hcounted]
  conv_lhs => rw [(s.consumed_frame p f).rest]

theorem State.strokeTaken_port (q : Port) : (s.strokeTaken p f b).port q = (s.consumed p f).port q := by
  unfold State.strokeTaken
  rw [State.synthCounted_eq]
  cases q <;> rfl

theorem State.strokeTaken_counter : (s.strokeTaken p f b).counter .synthStrokesTaken =
    satAdd (s.counter .synthStrokesTaken) (if b.toNat ≤ 15 then 1 else 0) := by
  unfold State.strokeTaken
  rw [State.synthCounted_counter, (s.consumed_frame p f).counter]

theorem State.strokeTaken_only : CountsOnly [.synthStrokesTaken] s (s.strokeTaken p f b) := fun c hc =>
  ((s.consumed p f).synthCounted_only b c hc).trans ((s.consumed_frame p f).counter c)

end

/-- R87, R154: the command of a STROKE that the station consumes. -/
theorem exec_stroke_eq {e : Env} {a : Arrival} {n : Half} {b : Byte} {x : Option WireRecord} {s : State}
    (h : s.admits a (.stroke n b x) = true) (hdst : a.dst = s.originByte) :
    exec (.stroke e a n b x) s = .next (((s.observe e).consumed a.port (arrivedFrame a (.stroke n b x))).takeStroke n b x) :=
  congrArg Host.Outcome.next (State.frameArrives_consumed (s := s.observe e) h rfl hdst)

/-- R87: how a STROKE is judged, once its synthesised-by field is counted. -/
theorem State.takeStroke_eq (s : State) (n : Half) (b : Byte) (x : Option WireRecord) : s.takeStroke n b x =
    if (s.synthCounted b).isHead then (s.synthCounted b).count .strokesUnexpected
    else if isAhead n (s.synthCounted b).cq.lastStroke then
      ((s.synthCounted b).catchUpsAdjusted (aheadBy n (s.synthCounted b).cq.lastStroke - 1)).ownShift x
    else (s.synthCounted b).lateStroke n x := rfl

section
variable {e : Env} {a : Arrival} {n : Half} {b : Byte} {x : Option WireRecord} {s : State}

/-- R110: a STROKE at the head is counted alone. -/
theorem exec_stroke_atHead (h : s.admits a (.stroke n b x) = true) (hdst : a.dst = s.originByte) (hhead : s.isHead = true) :
    exec (.stroke e a n b x) s =
      .next (((s.observe e).strokeTaken a.port (arrivedFrame a (.stroke n b x)) b).count .strokesUnexpected) := by
  have hhead' : ((s.observe e).strokeTaken a.port (arrivedFrame a (.stroke n b x)) b).isHead = true := by
    rw [State.strokeTaken_rest]
    exact hhead
  rw [exec_stroke_eq h hdst, State.takeStroke_eq]
  exact congrArg Host.Outcome.next (if_pos hhead')

/-- R90, R91: a STROKE ahead shifts the queue to its number. -/
theorem exec_stroke_ahead (h : s.admits a (.stroke n b x) = true) (hdst : a.dst = s.originByte) (hhead : s.isHead = false)
    (hahead : isAhead n s.cq.lastStroke = true) : exec (.stroke e a n b x) s =
      .next ((((s.observe e).strokeTaken a.port (arrivedFrame a (.stroke n b x)) b).catchUpsAdjusted
        (aheadBy n s.cq.lastStroke - 1)).ownShift x) := by
  have hhead' : ¬ ((s.observe e).strokeTaken a.port (arrivedFrame a (.stroke n b x)) b).isHead = true := by
    rw [State.strokeTaken_rest]
    exact Bool.eq_false_iff.mp hhead
  have hcq : ((s.observe e).strokeTaken a.port (arrivedFrame a (.stroke n b x)) b).cq = s.cq := by
    rw [State.strokeTaken_rest]
    rfl
  rw [exec_stroke_eq h hdst, State.takeStroke_eq]
  refine congrArg Host.Outcome.next ((if_neg hhead').trans ?_)
  refine Eq.trans (if_pos ?_) ?_
  · exact (congrArg (fun q : CoilQueue => isAhead n q.lastStroke) hcq).trans hahead
  · exact congrArg
      (fun q : CoilQueue => (((s.observe e).strokeTaken a.port (arrivedFrame a (.stroke n b x)) b).catchUpsAdjusted
        (aheadBy n q.lastStroke - 1)).ownShift x) hcq

/-- R94: any other STROKE is late. -/
theorem exec_stroke_late (h : s.admits a (.stroke n b x) = true) (hdst : a.dst = s.originByte) (hhead : s.isHead = false)
    (hlate : isAhead n s.cq.lastStroke = false) : exec (.stroke e a n b x) s =
      .next (((s.observe e).strokeTaken a.port (arrivedFrame a (.stroke n b x)) b).lateStroke n x) := by
  have hhead' : ¬ ((s.observe e).strokeTaken a.port (arrivedFrame a (.stroke n b x)) b).isHead = true := by
    rw [State.strokeTaken_rest]
    exact Bool.eq_false_iff.mp hhead
  have hlate' : ¬ isAhead n ((s.observe e).strokeTaken a.port (arrivedFrame a (.stroke n b x)) b).cq.lastStroke = true := by
    rw [State.strokeTaken_rest]
    exact Bool.eq_false_iff.mp hlate
  rw [exec_stroke_eq h hdst, State.takeStroke_eq]
  exact congrArg Host.Outcome.next ((if_neg hhead').trans (if_neg hlate'))

end

/-! ### A late STROKE (R94) -/

/-- R94: the record that a late record and the placeholder of slot 0 make, as it stands in slot 0 (R9). -/
def State.mergedRecord (s : State) (w : WireRecord) (held : Record) (ss : SelfStroke) : Record :=
  (mergeRecords (repairRecord s.pos.val w) held ss).dedupe s.cq.slots.tail

theorem State.countRepair_eq (s : State) (w : WireRecord) : s.countRepair w = { s with counters := (s.countRepair w).counters } := by
  unfold State.countRepair
  split <;> rfl

theorem State.countRepair_only (s : State) (w : WireRecord) : CountsOnly [.recordRepaired] s (s.countRepair w) := by
  unfold State.countRepair
  split
  · exact State.count_only List.mem_cons_self s
  · exact .refl s

/-- R113: at the tail the preview is the judgement of the lead. -/
theorem State.preview_of_tail {s : State} (h : s.isTail = true) :
    s.preview = { s with exu := { s.exu with preview := s.cq.lead.map (Record.judge s.img) } } := if_pos h

theorem State.preview_of_notTail {s : State} (h : ¬ s.isTail = true) : s.preview = s := if_neg h

/-- R94, R113: a merge changes slot 0, counts, and at the tail the preview where slot 0 is the lead. -/
theorem State.mergeLate_eq (s : State) (w : WireRecord) (held : Record) (ss : SelfStroke) : ∃ counted, s.mergeLate w held ss =
    { s with
      cq := { s.cq with slots := some (s.mergedRecord w held ss) :: s.cq.slots.tail }
      exu := { s.exu with
        preview :=
          if s.isTail = true ∧ s.cq.slots.tail = [] then some ((s.mergedRecord w held ss).judge s.img) else s.exu.preview }
      counters := counted } := by
  unfold State.mergeLate
  extract_lets others m t src u v
  have ht : t = { s with counters := t.counters } := by
    dsimp only [t]
    rw [State.countDuplicate_eq, State.countRepair_eq]
  have hv : v = { s with
      cq := { s.cq with slots := some (s.mergedRecord w held ss) :: s.cq.slots.tail }, counters := v.counters } := by
    show ({ t with cq := { t.cq with slots := some (m.dedupe others) :: others } } : State).count .lateMerged = _
    rw [ht]
    rfl
  refine ⟨v.counters, ?_⟩
  generalize v.counters = counted at hv ⊢
  have hvtail : v.isTail = s.isTail := by rw [hv]; rfl
  cases hslots : s.cq.slots.tail with
  | nil =>
    rw [hslots] at hv
    rw [show others.isEmpty = true by dsimp only [others]; rw [hslots]; rfl, if_pos rfl]
    by_cases htail : s.isTail = true
    · rw [if_pos ⟨htail, rfl⟩, State.preview_of_tail (hvtail.trans htail), hv]
      rfl
    · rw [if_neg fun h => htail h.1, State.preview_of_notTail (by rwa [hvtail]), hv]
  | cons y rest =>
    rw [hslots] at hv
    rw [show others.isEmpty = false by dsimp only [others]; rw [hslots]; rfl, if_neg Bool.false_ne_true,
      if_neg (fun h => by cases h.2), hv]

/-- R94: a merge is counted. -/
theorem State.mergeLate_counter (s : State) (w : WireRecord) (held : Record) (ss : SelfStroke) :
    (s.mergeLate w held ss).counter .lateMerged = satAdd (s.counter .lateMerged) 1 := by
  unfold State.mergeLate
  extract_lets others m t src u v
  have ht : CountsOnly [.recordRepaired, .duplicateSerials] s t :=
    ((s.countRepair_only w).mono (by decide)).trans ((State.countDuplicate_only _ _ _).mono (by decide))
  have hv : v.counter .lateMerged = satAdd (s.counter .lateMerged) 1 :=
    State.counter_counted (ht.trans (.of_counters rfl)) (by decide) (ds := []) (.refl _) (by decide)
  have hpreview : v.preview.counter .lateMerged = v.counter .lateMerged := by
    unfold State.preview
    split <;> rfl
  split
  · exact hpreview.trans hv
  · exact hv

/-- R94: a late record that finds its placeholder in slot 0 merges. -/
theorem State.lateStroke_merges {s : State} {n : Half} {held : Record} {ss : SelfStroke} {rest : List Slot}
    (hslots : s.cq.slots = some held :: rest) (hself : held.self = some ss) (hnumber : ss.createdAt = n) (w : WireRecord) :
    s.lateStroke n (some w) = s.mergeLate w held ss := by
  have hmergeable : s.cq.mergeable n = some (held, ss) := by
    unfold CoilQueue.mergeable
    rw [hslots]
    dsimp only
    rw [hself]
    exact if_pos hnumber
  unfold State.lateStroke
  rw [hmergeable]

/-- R94: any other late frame is discarded. -/
theorem State.lateStroke_discards {s : State} {n : Half} {x : Option WireRecord} (h : x = none ∨ s.cq.mergeable n = none) :
    s.lateStroke n x = s.count .lateDiscarded := by
  unfold State.lateStroke
  split
  · rename_i hmergeable
    rcases h with hnone | hnone
    · cases hnone
    · rw [hnone] at hmergeable
      cases hmergeable
  · rfl

/-- R94: a late frame changes the queue, the preview and counters alone. -/
theorem State.lateStroke_eq (s : State) (n : Half) (x : Option WireRecord) : s.lateStroke n x =
    { s with
      cq := (s.lateStroke n x).cq, exu := { s.exu with preview := (s.lateStroke n x).exu.preview }
      counters := (s.lateStroke n x).counters } := by
  unfold State.lateStroke
  split
  · obtain ⟨counted, hmerges⟩ := s.mergeLate_eq _ _ _
    rw [hmerges]
  · rfl

/-- Settles O50: the late frame merges or is discarded in the state that has consumed it. -/
theorem lateStrokeMergesOrIsDiscarded : Obligations.LateStrokeMergesOrIsDiscarded := by
  rintro e a n b x s u rfl hadmits hdst hhead hlate
  refine ⟨_, exec_stroke_late hadmits hdst hhead hlate, ?_⟩
  have hrest := (s.observe e).strokeTaken_rest a.port (arrivedFrame a (.stroke n b x)) b
  have hports := (s.observe e).strokeTaken_port a.port (arrivedFrame a (.stroke n b x)) b
  have honly := (s.observe e).strokeTaken_only a.port (arrivedFrame a (.stroke n b x)) b
  generalize (s.observe e).strokeTaken a.port (arrivedFrame a (.stroke n b x)) b = v at hrest hports honly ⊢
  have hcq : v.cq = s.cq := by rw [hrest]; rfl
  have hexu : v.exu = s.exu := by rw [hrest]; rfl
  have hlateEq := v.lateStroke_eq n x
  obtain ⟨htrace, hreceived, hqueues⟩ := State.consumed_quiet (s := s.observe e) (t := v.lateStroke n x) (p := a.port)
    (f := arrivedFrame a (.stroke n b x))
    (fun q => Eq.trans (by rw [hlateEq]; cases q <;> rfl) (hports q)) (by rw [hlateEq, hrest])
  refine ⟨fun w held ss rest late merged hx hslots hself hnumber hlateIs hmerged => ?_, fun h => ?_, htrace, hreceived,
    fun p => (hqueues p).trans (by cases p <;> rfl), ?_⟩
  · subst hx hlateIs
    have hmerges := State.lateStroke_merges (s := v) (by rw [hcq]; exact hslots) hself hnumber w
    have htail : v.cq.slots.tail = rest := by rw [hcq, hslots]; rfl
    have hrecord : v.mergedRecord w held ss = merged.dedupe rest := by
      unfold State.mergedRecord
      rw [htail, hmerged, hrest]
      rfl
    obtain ⟨counted, heq⟩ := v.mergeLate_eq w held ss
    rw [hrecord, htail, hcq, hexu] at heq
    have htailed : v.isTail = s.isTail := by rw [hrest]; rfl
    have himg : v.img = s.img := by rw [hrest]; rfl
    rw [hmerges, State.mergeLate_counter, honly _ (by decide), heq, htailed, himg]
    exact ⟨rfl, rfl, rfl⟩
  · have hdiscards := State.lateStroke_discards (s := v) (n := n) (x := x) (by rw [hcq]; exact h)
    rw [hdiscards]
    exact ⟨hcq, hexu, (State.counter_count _ _).trans (by rw [honly _ (by decide)]; rfl)⟩
  · generalize ((s.observe e).consumed a.port (arrivedFrame a (.stroke n b x))).upPort = up,
      ((s.observe e).consumed a.port (arrivedFrame a (.stroke n b x))).downPort = down,
      ((s.observe e).consumed a.port (arrivedFrame a (.stroke n b x))).ltr = trace, v.counters = counted at hrest
    subst hrest
    generalize State.lateStroke _ n x = t at hlateEq ⊢
    generalize t.cq = q, t.exu.preview = preview, t.counters = counted' at hlateEq
    subst hlateEq
    rfl

end Sys2Proof.Machine
end

section
/-!
PROOFS. The pusher timeout, the pulses, and the timers of the tail (O37, O38): a cause raised by a timer, and a call that a timer sends
(R98, R100, R103, R106 to R109, R118, R130).
-/

namespace Sys2Proof.Machine

/-! ### A cause that an event raises (R129, R130) -/

/-- What an event leaves whose count `k` is followed by the raise of the cause `c` and by the mode. -/
structure State.RaisesBy (v t : State) (c : Cause) (k : Counter) : Prop where
  hasOwn : t.hlu.hasOwn c = true
  raised : v.OwnRaised t c
  offers : v.hlu.hasOwn c = false → v.isSingle = false → ∀ p, v.hasRoom p = true →
    (t.port p).localQ = v.joined p 255 (v.holdOf c)
  single : v.isSingle = true → (∀ p, t.port p = v.port p) ∧ t.counter .holdsSent = v.counter .holdsSent
  ldu : t.ldu = { v.ldu with state := modeOf t.hlu.entries }
  counted : t.counter k = satAdd (v.counter k) 1
  frame : HoldFrame v t
  head : t.head = v.head

theorem State.OwnRaised.of_count {v t : State} {c : Cause} {k : Counter} (hk : k ∉ raiseCounters)
    (h : (v.count k).OwnRaised t c) : v.OwnRaised t c := by
  have hsame (d : Counter) (hd : d ∈ raiseCounters) : (v.count k).counter d = v.counter d :=
    State.counter_countBy_ne _ _ _ _ (fun he => hk (he ▸ hd))
  unfold State.OwnRaised at h
  rw [hsame _ (by decide), hsame _ (by decide)] at h
  exact h

/-- R129, R130: the cause stands once it is raised, so that the mode follows it and no stroke starts. -/
theorem State.raisesBy {v : State} (hon : v.onLine = true) (c : Cause) {k : Counter} (hk : k ∉ raiseCounters ++ modeCounters) :
    v.RaisesBy ((v.count k).raiseOwn c).deriveMode c k := by
  obtain ⟨hraise, hmode⟩ := not_or.mp (mt List.mem_append.mpr hk)
  have hraised := State.raiseOwn_ownRaised (v.count k) c
  have hhas := State.raiseOwn_hasOwn (v.count k) c
  have hquiet := State.raiseOwn_quiet (s := v.count k) (c := c)
  have hoffers := State.raiseOwn_offers (s := v.count k) (c := c)
  have honly := State.raiseOwn_only (v.count k) c
  have hframe := State.raiseOwn_hold (v.count k) c
  have hhead := State.raiseOwn_head (v.count k) c
  have hldu := State.raiseOwn_ldu (v.count k) c
  generalize (v.count k).raiseOwn c = r at *
  have honr : r.onLine = true := by unfold State.onLine; rw [hldu]; exact hon
  have hheld : r.hlu.entries ≠ [] := fun hnil => by
    unfold Hlu.hasOwn at hhas
    rw [hnil] at hhas
    cases hhas
  have hsame (d : Counter) (hd : d ∈ raiseCounters) : r.deriveMode.counter d = r.counter d :=
    r.deriveMode_only d (modeCounters_disjoint d hd)
  constructor
  · rw [State.deriveMode_hlu]
    exact hhas
  · exact .of_count hraise (hraised.of_same (State.deriveMode_hlu _) hsame)
  · intro hnew hlines p hroom
    obtain ⟨hports, -, -⟩ := hoffers hnew hlines
    obtain ⟨hup, -⟩ := (v.hasRoom_iff p).mp hroom
    have hup' : (v.count k).linkIsUp p = true := by unfold State.linkIsUp; rw [State.count_port]; exact hup
    rw [State.deriveMode_port, hports p, if_pos hup', State.count_port]
    exact State.afterOffer_joined hroom _ _
  · intro hsingle
    obtain ⟨hports, -, hsent⟩ := hquiet (.inr hsingle)
    refine ⟨fun p => by rw [State.deriveMode_port, hports p, State.count_port], ?_⟩
    rw [hsame _ (by decide), hsent]
    exact State.counter_countBy_ne _ _ _ _ (fun he => hraise (he ▸ by decide))
  · rw [State.deriveMode_ldu honr, State.deriveMode_hlu, hldu, State.count_ldu]
  · rw [r.deriveMode_only k hmode, honly k hraise, State.counter_count]
  · exact ((v.count_link k).toHoldFrame.trans hframe).trans r.deriveMode_hold
  · rw [State.deriveMode_head honr, State.startedHead_held _ hheld, hhead, State.count_head]

/-! ### The pusher timeout and the pulses (R98, R100, R118) -/

theorem exec_pusherTimeout_eq {s : State} (e : Env) (hon : s.onLine = true) (hhead : s.isHead = true)
    (hpushing : s.head.pusher = .pushing) (hdue : due (s.observe e).now s.head.timer = true) :
    exec (.pusherTimeout e) s = .next (s.observe e).pusherTimesOut :=
  congrArg Host.Outcome.next (if_pos (by
    rw [Bool.and_eq_true, Bool.and_eq_true, Bool.and_eq_true, beq_iff_eq]
    exact ⟨⟨⟨hon, hhead⟩, hpushing⟩, hdue⟩))

/-- R118: the end of the high interval of the delivered pulse. -/
theorem State.stepPulse_high {s : State} {x : Time} (h : s.exu.pulse = .high x) (hdue : reached s.now x = true) :
    s.stepPulse = { s with exu := { s.exu with pulse := .low (after s.now 100) } } := by
  unfold State.stepPulse
  rw [h]
  exact if_pos hdue

/-- R118: the end of the low interval starts the next pulse owed. -/
theorem State.stepPulse_low_owed {s : State} {x : Time} (h : s.exu.pulse = .low x) (hdue : reached s.now x = true)
    (howed : 0 < s.exu.owed) : s.stepPulse =
      { s with exu := { s.exu with pulse := .high (after s.now 100), owed := s.exu.owed - 1 } } := by
  unfold State.stepPulse
  rw [h]
  exact (if_pos hdue).trans (if_pos howed)

/-- R118: with no pulse owed the line stays low. -/
theorem State.stepPulse_low_done {s : State} {x : Time} (h : s.exu.pulse = .low x) (hdue : reached s.now x = true)
    (howed : s.exu.owed = 0) : s.stepPulse = { s with exu := { s.exu with pulse := .off } } := by
  unfold State.stepPulse
  rw [h]
  exact (if_pos hdue).trans (if_neg (by omega))

/-- R109: a head is alone on its line where it is the tail as well. -/
theorem State.isSingle_of_head {s : State} (h : s.isHead = true) : s.isSingle = s.isTail := by
  unfold State.isSingle
  rw [h]
  rfl

theorem State.isSingle_of_tail {s : State} (h : s.isTail = true) : s.isSingle = s.isHead := by
  unfold State.isSingle
  rw [h, Bool.and_true]

/-- R98, R100: the state of a pusher timeout before its cause is raised. -/
def State.pusherFaultedHead (s : State) : State :=
  { s with head := { s.head with pusher := .fault, pulse := none, timer := none, owed := true } }

/-- Settles O37: the timeout raises its cause, and the ends of the pulses are the branches of R98 and R118. -/
theorem pusherTimeoutAndPulseEnds : Obligations.PusherTimeoutAndPulseEnds := by
  rintro e s u rfl
  refine ⟨fun hon hhead hpushing hdue => ⟨_, exec_pusherTimeout_eq e hon hhead hpushing hdue, ?_⟩,
    fun hdue => congrArg Host.Outcome.next (if_pos hdue), fun x hdue => ⟨fun hhigh => ?_, fun hlow howed => ?_, fun hlow hdone => ?_⟩⟩
  · have hraises : (s.observe e).pusherFaultedHead.RaisesBy (s.observe e).pusherTimesOut .pusherFault .pusherTimeouts :=
      State.raisesBy (v := (s.observe e).pusherFaultedHead) hon .pusherFault (by decide)
    have hsingle : (s.observe e).pusherFaultedHead.isSingle = s.isTail := State.isSingle_of_head hhead
    generalize (s.observe e).pusherTimesOut = t at hraises ⊢
    obtain ⟨hhas, hraised, hoffers, hquiet, hldu, hcounted, hframe, hheadEq⟩ := hraises
    refine ⟨hheadEq, hhas, hraised, fun hnew htail p hroom => ?_, fun htail => ?_, hldu, hcounted, fun p => ?_, ?_⟩
    · refine (hoffers hnew (hsingle.trans htail) p ?_).trans (by cases p <;> rfl)
      cases p <;> exact hroom
    · obtain ⟨hports, hsent⟩ := hquiet (hsingle.trans htail)
      exact ⟨fun p => (hports p).trans (by cases p <;> rfl), hsent⟩
    · refine (hframe.offered p).trans ?_
      cases p <;> rfl
    · exact hframe.eq
  · exact congrArg Host.Outcome.next (State.stepPulse_high (s := s.observe e) hhigh hdue)
  · exact congrArg Host.Outcome.next (State.stepPulse_low_owed (s := s.observe e) hlow hdue howed)
  · exact congrArg Host.Outcome.next (State.stepPulse_low_done (s := s.observe e) hlow hdue hdone)

/-! ### A call handed to the head (R103, R109, R158) -/

/-- R109: what the tail of a line of one station does with a call, counted by `c` as it goes. -/
structure State.PassesWithin (v t : State) (k : CallKind) (n : Half) (c : Counter) : Prop where
  counted : t.counter c = satAdd (v.counter c) 1
  takes : v.HeadTakesCall t k n
  frame : t = { v with head := t.head, counters := t.counters }

/-- Another event counted besides. -/
theorem State.PassesWithin.count {v t : State} {k : CallKind} {n : Half} {c d : Counter} (h : v.PassesWithin t k n c)
    (hd : d ∉ c :: takeCallCounters) : v.PassesWithin (t.count d) k n c := by
  obtain ⟨hdc, hdtake⟩ := not_or.mp (mt List.mem_cons.mpr hd)
  obtain ⟨hcounted, htakes, hframe⟩ := h
  refine ⟨(State.counter_countBy_ne _ _ _ _ hdc).trans hcounted, ?_, ?_⟩
  · exact htakes.congr rfl rfl rfl rfl (fun _ _ => rfl) rfl
      (fun x hx => State.counter_countBy_ne _ _ _ _ (fun he => hdtake (he ▸ hx)))
  · generalize t.head = x, t.counters = counted at hframe
    subst hframe
    rfl

/-- Seen from the state whose tail the event has changed. -/
theorem State.PassesWithin.of_tail {u t : State} {x : Tail} {k : CallKind} {n : Half} {c : Counter}
    (h : ({ u with tail := x } : State).PassesWithin t k n c) : t.tail = x ∧ t.counter c = satAdd (u.counter c) 1 ∧
      u.HeadTakesCall t k n ∧ t = { u with tail := t.tail, head := t.head, counters := t.counters } := by
  obtain ⟨hcounted, htakes, hframe⟩ := h
  refine ⟨congrArg State.tail hframe, hcounted, htakes, ?_⟩
  generalize t.head = y, t.counters = counted at hframe
  subst hframe
  rfl

theorem State.passCall_of_single {v : State} (h : v.isSingle = true) (k : CallKind) (n : Half) (c : Counter) :
    v.passCall k n c = (v.count c).takeCall k n := if_pos h

theorem State.passCall_of_longer {v : State} (h : v.isSingle = false) (k : CallKind) (n : Half) (c : Counter) :
    v.passCall k n c = v.offerCounted .up (v.frame 0 (.call k n)) c .callsRefused := if_neg (Bool.eq_false_iff.mp h)

theorem State.passCall_only (v : State) (k : CallKind) (n : Half) (c : Counter) :
    CountsOnly (c :: .creditsRestored :: .callsRefused :: takeCallCounters) v (v.passCall k n c) := by
  cases h : v.isSingle with
  | true =>
    rw [State.passCall_of_single h]
    exact (State.count_only List.mem_cons_self v).trans (((v.count c).takeCall_only k n).mono fun d hd => by simp [hd])
  | false =>
    rw [State.passCall_of_longer h]
    exact (v.offerCounted_only _ _ _ _).mono fun d hd => by
      simp only [List.mem_cons, List.not_mem_nil, or_false] at hd ⊢
      tauto

theorem State.passCall_within {v : State} (hon : v.onLine = true) (hsingle : v.isSingle = true) (k : CallKind) (n : Half)
    {c : Counter} (hc : c ∉ takeCallCounters) : v.PassesWithin (v.passCall k n c) k n c := by
  have hhead : v.isHead = true := (Bool.and_eq_true_iff.mp hsingle).1
  have htakes : (v.count c).HeadTakesCall ((v.count c).takeCall k n) k n :=
    State.takeCall_headTakesCall (s := v.count c) hon hhead k n
  have hother (d : Counter) (hd : d ∈ takeCallCounters) : v.counter d = (v.count c).counter d :=
    (State.counter_countBy_ne _ _ _ _ (fun he : c = d => hc (he ▸ hd))).symm
  rw [State.passCall_of_single hsingle]
  exact ⟨((v.count c).takeCall_only k n c hc).trans (v.counter_count c),
    htakes.congr rfl rfl rfl rfl hother rfl (fun _ _ => rfl), (v.count c).takeCall_eq k n⟩

/-- R103, R158: what the tail of a longer line does with a call: it is offered to the UP port and counted by `c` if it is taken. -/
structure State.PassesUp (v t : State) (k : CallKind) (n : Half) (c : Counter) : Prop where
  room : v.hasRoom .up = true → t.upPort.localQ = v.joined .up 0 (.call k n) ∧ t.counter c = satAdd (v.counter c) 1
  down : v.linkIsUp .up = false → t.upPort.localQ = v.upPort.localQ ∧
    t.counter .callsRefused = satAdd (v.counter .callsRefused) 1
  frame : t = { v with
    upPort := v.upPort.offered t.upPort, ltr := t.ltr, counters := t.counters, cru := { v.cru with loans := t.cru.loans } }

/-- Another event counted besides. -/
theorem State.PassesUp.count {v t : State} {k : CallKind} {n : Half} {c d : Counter} (h : v.PassesUp t k n c) (hdc : d ≠ c)
    (hd : d ≠ .callsRefused) : v.PassesUp (t.count d) k n c := by
  have hother {x : Counter} (hx : d ≠ x) : (t.count d).counter x = t.counter x := State.counter_countBy_ne _ _ _ _ hx
  obtain ⟨hroom, hdown, hframe⟩ := h
  refine ⟨fun h => ?_, fun h => ?_, ?_⟩
  · obtain ⟨hq, hcounted⟩ := hroom h
    exact ⟨hq, (hother hdc).trans hcounted⟩
  · obtain ⟨hq, hcounted⟩ := hdown h
    exact ⟨hq, (hother hd).trans hcounted⟩
  · generalize t.upPort = up, t.ltr = trace, t.counters = counted, t.cru.loans = loans at hframe
    subst hframe
    rfl

/-- Seen from the state whose tail the event has changed. -/
theorem State.PassesUp.of_tail {u t : State} {x : Tail} {k : CallKind} {n : Half} {c : Counter}
    (h : ({ u with tail := x } : State).PassesUp t k n c) : t.tail = x ∧ t = { u with
      tail := t.tail, upPort := u.upPort.offered t.upPort, ltr := t.ltr, counters := t.counters
      cru := { u.cru with loans := t.cru.loans } } := by
  obtain ⟨-, -, hframe⟩ := h
  refine ⟨congrArg State.tail hframe, ?_⟩
  generalize t.upPort = up, t.ltr = trace, t.counters = counted, t.cru.loans = loans at hframe
  subst hframe
  rfl

theorem State.passCall_up {v : State} (hsingle : v.isSingle = false) (k : CallKind) (n : Half) (c : Counter) :
    v.PassesUp (v.passCall k n c) k n c := by
  rw [State.passCall_of_longer hsingle]
  refine ⟨fun hroom => State.offerCounted_of_hasRoom hroom _ _ _, fun hdown => State.offerCounted_of_linkDown hdown _ _ _, ?_⟩
  have hlink := v.offerCounted_link .up (v.frame 0 (.call k n)) c .callsRefused
  have hdownPort : (v.offerCounted .up (v.frame 0 (.call k n)) c .callsRefused).downPort = v.downPort :=
    v.offerCounted_other .up _ _ _
  generalize v.offerCounted .up (v.frame 0 (.call k n)) c .callsRefused = t at *
  refine hlink.eq.trans ?_
  rw [hdownPort]
  exact congrArg (fun x => ({ v with
    cru := { v.cru with loans := t.cru.loans }, upPort := x, ltr := t.ltr, counters := t.counters } : State)) hlink.upPort

/-- R103: a new call goes as any does. -/
theorem State.sendCall_eq_passCall (s : State) (k : CallKind) :
    s.sendCall k = (s.withNewCall k).passCall k (s.tail.counter + 1) .callsSent := rfl

/-! ### The timers of the tail (R106 to R108) -/

/-- R106: the call timer runs again. -/
def State.withCallTimer (s : State) : State :=
  { s with tail := { s.tail with callTimer := some (after s.now s.img.callTimeout) } }

/-- R108: the fill timer runs again. -/
def State.withFillTimer (s : State) : State :=
  { s with tail := { s.tail with fillTimer := some (after s.now s.img.fillInterval) } }

/-- R107: the press-idle timer has stopped. -/
def State.withoutPressIdle (s : State) : State := { s with tail := { s.tail with pressIdle := none } }

section
variable {s : State} (e : Env) (hon : s.onLine = true) (htail : s.isTail = true)
include hon htail

theorem exec_callTimerExpiry_eq {n : Half} {k : CallKind} (hcall : s.tail.outstanding = some (n, k))
    (hdue : due (s.observe e).now s.tail.callTimer = true) :
    exec (.callTimerExpiry e) s = .next ((s.observe e).withCallTimer.passCall k n .callResends) := by
  have htimeout : (s.observe e).callTimeout = (s.observe e).withCallTimer.passCall k n .callResends := by
    unfold State.callTimeout
    rw [show (s.observe e).tail.outstanding = some (n, k) from hcall]
    rfl
  rw [← htimeout]
  exact congrArg Host.Outcome.next (if_pos (by
    rw [Bool.and_eq_true, Bool.and_eq_true]
    exact ⟨⟨hon, htail⟩, hdue⟩))

theorem exec_fillTimerExpiry_eq (hfill : s.tail.fill = true) (hdue : due (s.observe e).now s.tail.fillTimer = true) :
    exec (.fillTimerExpiry e) s = .next (s.observe e).fillExpires :=
  congrArg Host.Outcome.next (if_pos (by
    rw [Bool.and_eq_true, Bool.and_eq_true, Bool.and_eq_true]
    exact ⟨⟨⟨hon, htail⟩, hfill⟩, hdue⟩))

theorem exec_pressIdleExpiry_eq (hdue : due (s.observe e).now s.tail.pressIdle = true) :
    exec (.pressIdleExpiry e) s = .next (s.observe e).pressIdles :=
  congrArg Host.Outcome.next (if_pos (by
    rw [Bool.and_eq_true, Bool.and_eq_true]
    exact ⟨⟨hon, htail⟩, hdue⟩))

end

/-- R108: with no call outstanding in RUN the fill timer sends a SELF call, and counts it. -/
theorem State.fillExpires_sends {s : State} (hnone : s.tail.outstanding = none) (hrun : s.ldu.state = .run) :
    s.fillExpires =
      ((s.withFillTimer.withNewCall .self).passCall .self (s.tail.counter + 1) .callsSent).count .fillCalls :=
  if_pos ⟨hnone, hrun⟩

/-- R108: otherwise it only runs again. -/
theorem State.fillExpires_waits {s : State} (h : s.tail.outstanding ≠ none ∨ s.ldu.state ≠ .run) :
    s.fillExpires = s.withFillTimer := if_neg (fun hsends => h.elim (· hsends.1) (· hsends.2))

/-- R108: the call of a fill timer, before it is counted as such. -/
def State.fillCall (s : State) : State :=
  (s.withFillTimer.withNewCall .self).passCall .self (s.tail.counter + 1) .callsSent

theorem exec_fillTimerExpiry_sends {s : State} (e : Env) (hon : s.onLine = true) (htail : s.isTail = true)
    (hfill : s.tail.fill = true) (hdue : due (s.observe e).now s.tail.fillTimer = true) (hnone : s.tail.outstanding = none)
    (hrun : s.ldu.state = .run) : exec (.fillTimerExpiry e) s = .next ((s.observe e).fillCall.count .fillCalls) :=
  (exec_fillTimerExpiry_eq e hon htail hfill hdue).trans
    (congrArg Host.Outcome.next (State.fillExpires_sends (s := s.observe e) hnone hrun))

/-- R108: FILL_CALLS counts the call of a fill timer. -/
theorem State.fillCall_counted (s : State) : (s.fillCall.count .fillCalls).counter .fillCalls = satAdd (s.counter .fillCalls) 1 :=
  (State.counter_count _ _).trans (congrArg (satAdd · 1) (State.passCall_only _ _ _ _ _ (by decide)))

theorem State.fillCall_within {s : State} (hon : s.onLine = true) (hsingle : s.isSingle = true) :
    (s.withFillTimer.withNewCall .self).PassesWithin (s.fillCall.count .fillCalls) .self (s.tail.counter + 1) .callsSent :=
  (State.passCall_within (v := s.withFillTimer.withNewCall .self) hon hsingle _ _ (by decide)).count (by decide)

theorem State.fillCall_up {s : State} (hsingle : s.isSingle = false) :
    (s.withFillTimer.withNewCall .self).PassesUp (s.fillCall.count .fillCalls) .self (s.tail.counter + 1) .callsSent :=
  (State.passCall_up (v := s.withFillTimer.withNewCall .self) hsingle _ _ _).count (by decide) (by decide)

/-- Settles O38: each timer on a line of one station and on a longer one. -/
theorem tailTimersAct : Obligations.TailTimersAct := by
  rintro e s u rfl hon htail
  have hsingle : s.isSingle = s.isHead := State.isSingle_of_tail htail
  refine ⟨fun hhead => ⟨fun n k hcall hdue => ?_, fun hfill hdue hnone hrun => ?_⟩, fun hhead n k hcall hdue => ?_,
    fun hfill hdue => ⟨fun hhead hnone hrun => ?_, fun hwaits => ?_⟩, fun hdue => ?_⟩
  · exact ⟨_, exec_callTimerExpiry_eq e hon htail hcall hdue, (State.passCall_within (v := (s.observe e).withCallTimer) hon
      (hsingle.trans hhead) k n (by decide)).of_tail⟩
  · obtain ⟨htailed, hcounted, htakes, hframe⟩ := (State.fillCall_within (s := s.observe e) hon (hsingle.trans hhead)).of_tail
    exact ⟨_, exec_fillTimerExpiry_sends e hon htail hfill hdue hnone hrun, htailed, hcounted, State.fillCall_counted _, htakes,
      hframe⟩
  · have hup := State.passCall_up (v := (s.observe e).withCallTimer) (hsingle.trans hhead) k n .callResends
    obtain ⟨htailed, hframe⟩ := hup.of_tail
    exact ⟨_, exec_callTimerExpiry_eq e hon htail hcall hdue, htailed, hup.room, hup.down, hframe⟩
  · have hup := State.fillCall_up (s := s.observe e) (hsingle.trans hhead)
    obtain ⟨htailed, hframe⟩ := hup.of_tail
    exact ⟨_, exec_fillTimerExpiry_sends e hon htail hfill hdue hnone hrun, htailed, hup.room, State.fillCall_counted _, hframe⟩
  · exact (exec_fillTimerExpiry_eq e hon htail hfill hdue).trans
      (congrArg Host.Outcome.next (State.fillExpires_waits (s := s.observe e) hwaits))
  · refine ⟨_, exec_pressIdleExpiry_eq e hon htail hdue, ?_⟩
    have hraises : (s.observe e).withoutPressIdle.RaisesBy (s.observe e).pressIdles .pressIdle .pressIdleHolds :=
      State.raisesBy (v := (s.observe e).withoutPressIdle) hon .pressIdle (by decide)
    generalize (s.observe e).pressIdles = t at hraises ⊢
    obtain ⟨hhas, hraised, hoffers, hquiet, hldu, hcounted, hframe, hheadEq⟩ := hraises
    refine ⟨hframe.tail, hhas, hraised, fun hnew hhead p hroom => ?_, fun hhead => ?_, hldu, hcounted, fun p => ?_, ?_⟩
    · refine (hoffers hnew (hsingle.trans hhead) p ?_).trans (by cases p <;> rfl)
      cases p <;> exact hroom
    · obtain ⟨hports, hsent⟩ := hquiet (hsingle.trans hhead)
      exact ⟨fun p => (hports p).trans (by cases p <;> rfl), hsent⟩
    · refine (hframe.offered p).trans ?_
      cases p <;> rfl
    · rw [hframe.tail]
      refine hframe.eq.trans ?_
      rw [hheadEq]
      rfl

end Sys2Proof.Machine
end

section
/-!
PROOFS. The self-stroke (O35): what a shift leaves at a station that is not the head, at the tail and before it (R86, R92, R103, R105, R106,
R113 to R115).
-/

namespace Sys2Proof.Machine

/-! ### The call check on a longer line (R103, R158) -/

theorem State.callCheck_head_of_longer {s : State} (hsingle : s.isSingle = false) : s.callCheck.head = s.head := by
  cases h : s.checkSends s.tail s.exu.preview with
  | none => rw [State.callCheck_none h]
  | some k =>
    obtain ⟨hhead, -⟩ := State.callCheck_offers hsingle h
    exact hhead

/-- R103, R158: the CALL of a call check joins the local queue of the UP port. -/
theorem State.callCheck_callOffered {s : State} (hsingle : s.isSingle = false) : s.CallOffered s.callCheck s.tail := by
  have hexu : s.callCheck.exu = s.exu := (State.callCheck_call s).exu
  unfold State.CallOffered
  rw [hexu]
  refine ⟨fun hnone => ?_, fun k hsends => ?_⟩
  · rw [State.callCheck_none hnone]
    exact ⟨rfl, rfl, rfl⟩
  · obtain ⟨-, -, hrefused⟩ := State.callCheck_offers hsingle hsends
    obtain ⟨heq, honly⟩ := State.callCheck_some hsends
    have hport : s.callCheck.upPort = (s.sendCall k).port .up := by rw [heq]; rfl
    refine ⟨fun hup hcheck hlen => ?_, hrefused⟩
    have hroom : s.hasRoom .up = true := (s.hasRoom_iff .up).mpr ⟨hup, hcheck, hlen⟩
    rw [honly _ (by decide), hport, State.sendCall_of_longer hsingle]
    exact State.offerCounted_of_hasRoom (s := s.withNewCall k) (p := .up) hroom _ _ _

/-! ### A shift at a station that is not the head (R86, R105, R114) -/

theorem State.isSingle_of_notHead {s : State} (h : s.isHead = false) : s.isSingle = false := by
  unfold State.isSingle
  rw [h]
  rfl

/-- A shift leaves the head's block of a station that is not the head. -/
theorem State.shift_head {s : State} (hhead : s.isHead = false) (b : Byte) (x : Slot) : (s.shift b x).head = s.head := by
  cases htail : s.isTail with
  | false =>
    rw [State.shift_eq_moveQueue htail, State.moveQueue_eq]
    exact (State.handedOn_link htail b).head
  | true =>
    have hleft := State.leftLead_preview_eq htail b x
    have hsingle : (s.leftLead b x).preview.isSingle = false := by
      rw [hleft]
      exact State.isSingle_of_notHead hhead
    rw [State.shift_eq_callCheck htail, State.callCheck_head_of_longer hsingle, hleft]

/-- A shift leaves the tail's blocks of a station that is not the tail. -/
theorem State.shift_of_notTail {s : State} (htail : s.isTail = false) (b : Byte) (x : Slot) :
    (s.shift b x).tail = s.tail ∧ (s.shift b x).exu = s.exu ∧ (s.shift b x).tau = s.tau := by
  have hlink := State.handedOn_link htail b
  rw [State.shift_eq_moveQueue htail, State.moveQueue_eq]
  exact ⟨hlink.tail, hlink.exu, hlink.tau⟩

/-- R86, R158: the STROKE frame of a shift joins the local queue of the DOWN port. -/
theorem State.shift_sends {s : State} (htail : s.isTail = false) (hroom : s.hasRoom .down = true) (b : Byte) (x : Slot) :
    (s.shift b x).downPort.localQ = insertByClass (s.strokeFrame b) s.downPort.localQ := by
  obtain ⟨hq, -⟩ := State.handedOn_of_hasRoom htail hroom b
  rw [State.shift_eq_moveQueue htail, State.moveQueue_eq]
  exact hq

/-- R105, R113 to R115: what a tail that is not the head does with the shift numbered `n`. -/
structure State.TailStroke (u t : State) (n : Half) : Prop where
  decided : u.LeadDecided t n
  checked : u.TailChecked t u.tailLeft
  offered : u.CallOffered t u.tailLeft

/-- The counters that `TailStroke` reads. -/
def tailStrokeCounters : List Counter :=
  [.exitLogEntries, .gateReject, .pyroForced, .selfCalls, .callsSent, .callsRefused]

/-- A count before the shift that is of none of these. -/
theorem State.TailStroke.of_count {u t : State} {n : Half} {k : Counter} (h : (u.count k).TailStroke t n)
    (hk : k ∉ tailStrokeCounters) : u.TailStroke t n := by
  have hsame (c : Counter) (hc : c ∈ tailStrokeCounters) : (u.count k).counter c = u.counter c :=
    State.counter_countBy_ne _ _ _ _ (fun he => hk (he ▸ hc))
  obtain ⟨hdecided, hchecked, hoffered⟩ := h
  unfold State.LeadDecided at hdecided
  unfold State.TailChecked at hchecked
  unfold State.CallOffered at hoffered
  rw [hsame _ (by decide), hsame _ (by decide), hsame _ (by decide)] at hdecided
  rw [hsame _ (by decide)] at hchecked
  rw [hsame _ (by decide), hsame _ (by decide)] at hoffered
  exact ⟨hdecided, hchecked, hoffered⟩

/-- A count after the shift that is of none of these, and a change of the tracker. -/
theorem State.TailStroke.spent {u t : State} {n : Half} {k : Counter} (h : u.TailStroke t n) (x : Tracker)
    (hk : k ∉ tailStrokeCounters) : u.TailStroke { t with tracker := x, counters := (t.count k).counters } n := by
  have hsame (c : Counter) (hc : c ∈ tailStrokeCounters) :
      ({ t with tracker := x, counters := (t.count k).counters } : State).counter c = t.counter c :=
    State.counter_countBy_ne t _ _ _ (fun he => hk (he ▸ hc))
  obtain ⟨hdecided, hchecked, hoffered⟩ := h
  constructor
  · unfold State.LeadDecided
    rw [hsame _ (by decide), hsame _ (by decide), hsame _ (by decide)]
    exact hdecided
  · unfold State.TailChecked
    rw [hsame _ (by decide)]
    exact hchecked
  · unfold State.CallOffered
    rw [hsame _ (by decide), hsame _ (by decide)]
    exact hoffered

/-- R105, R113 to R115: a shift at the tail of a longer line. -/
theorem State.shift_tailStroke {s : State} (hhead : s.isHead = false) (htail : s.isTail = true) (b : Byte) (x : Slot) :
    s.TailStroke (s.shift b x) (s.cq.lastStroke + 1) := by
  have hleft := State.leftLead_preview_eq htail b x
  have hmoved : CountsOnly ([.duplicateSerials, .shifts] ++ .excursions :: exuCounters) s (s.leftLead b x).preview := by
    rw [hleft]
    exact CountsOnly.trans ((State.handedOn_only_of_tail htail b).mono (by decide))
      (CountsOnly.trans ((s.moveQueue_only b x).mono (by decide)) (.of_counters rfl))
  have hhanded : CountsOnly afterHandOnCounters (s.handedOn b) (s.leftLead b x).preview := by
    rw [hleft]
    exact CountsOnly.trans ((s.moveQueue_only b x).mono (by decide)) (.of_counters rfl)
  rw [State.shift_eq_callCheck htail]
  generalize (s.leftLead b x).preview = v at hleft hmoved hhanded
  have hcall := State.callCheck_call v
  have hvtail : v.tail = s.tailLeft := by rw [hleft]
  have hldu : v.ldu = s.ldu := by rw [hleft]
  have hlink := s.countExcursion_link
  constructor
  · refine State.leadDecided_of_handOn (p := s.countExcursion) (b := b) (hlink.isTail.trans htail) hlink.exu hlink.img hlink.now
      (s.countExcursion_only.mono (by decide)) (hcall.tau.trans (by rw [hleft])) ?_
      (hhanded.trans (v.callCheck_only.mono (by decide)))
    rw [hcall.exu, hleft]
    rfl
  · rw [← hvtail]
    refine State.callCheck_tailChecked hldu ?_ ?_ ?_ (hmoved _ (by decide))
    · rw [hleft]
      rfl
    · rw [hleft]
      rfl
    · rw [hleft]
  · have hoffered := State.callCheck_callOffered (s := v) (by rw [hleft]; exact State.isSingle_of_notHead hhead)
    unfold State.CallOffered at hoffered
    rw [hmoved _ (by decide), hmoved _ (by decide), hvtail] at hoffered
    generalize v.callCheck = t at hoffered
    subst hleft
    exact hoffered

/-! ### The self-stroke (R92) -/

/-- R92: what a self-stroke leaves besides the tracker. -/
theorem State.selfShifted_eq {s : State} (hhead : s.isHead = false) : s.selfShifted =
    { s with
      cq := s.selfShifted.cq, tail := s.selfShifted.tail, exu := s.selfShifted.exu
      tau := { s.tau with trim := s.selfShifted.tau.trim }, upPort := s.selfShifted.upPort, downPort := s.selfShifted.downPort
      ltr := s.selfShifted.ltr, counters := s.selfShifted.counters
      cru := { s.cru with loans := s.selfShifted.cru.loans } } := by
  have hframe := s.selfShifted_shift
  have hsame : s.selfShifted.head = s.head := State.shift_head (s := s.count .placeholdersMade) hhead _ _
  generalize s.selfShifted = t at hframe hsame ⊢
  rw [← hframe.cru, ← hframe.tau, ← hsame, ← hframe.micros, ← hframe.freeIndex, ← hframe.pins, ← hframe.ldu, ← hframe.pdu,
    ← hframe.ivi, ← hframe.tracker, ← hframe.hlu, ← hframe.svi, ← hframe.pending]

/-- Settles O35: the self-stroke is a shift of its placeholder, spends the edge, and is counted. -/
theorem motionDeadlineTakesASelfStroke : Obligations.MotionDeadlineTakesASelfStroke := by
  rintro e s u rfl htracks hdue
  obtain ⟨-, hhead, -⟩ := s.tracks_iff.mp htracks
  refine ⟨_, exec_motionDeadlineExpiry_eq e htracks hdue, ?_⟩
  have hframe := (s.observe e).selfShifted_shift
  have hrest := State.selfShifted_eq (s := s.observe e) hhead
  have hcounted := (s.observe e).selfStroke_counter_selfStrokes
  rw [State.selfStroke_eq] at hcounted ⊢
  have hcount (c : Counter) (hc : c ≠ .selfStrokes) :
      ((s.observe e).selfShifted.count .selfStrokes).counter c = (s.observe e).selfShifted.counter c :=
    State.counter_count_ne _ hc.symm
  refine ⟨((s.observe e).count .placeholdersMade).shift_cq _ _, rfl, hcounted, ?_, ?_, fun htail => ?_, fun htail => ?_,
    fun htail hroom => ?_, fun p => ?_, ?_⟩
  · refine (hcount .placeholdersMade (by decide)).trans ((State.shift_only _ _ _ _ (by decide)).trans ?_)
    exact (s.observe e).counter_count _
  · refine (hcount .shifts (by decide)).trans ((State.shift_shifts _ _ _).trans (congrArg (satAdd · 1) ?_))
    exact State.counter_count_ne (s.observe e) (by decide)
  · exact State.shift_of_notTail (s := (s.observe e).count .placeholdersMade) htail _ _
  · have hstroke := (State.shift_tailStroke (s := (s.observe e).count .placeholdersMade) hhead htail
      (BitVec.ofNat 8 s.pos.val) (some (s.observe e).selfRecord)).of_count (by decide)
    obtain ⟨hdecided, hchecked, hoffered⟩ := hstroke.spent (k := .selfStrokes) _ (by decide)
    exact ⟨hdecided, hchecked, hoffered⟩
  · exact State.shift_sends (s := (s.observe e).count .placeholdersMade) htail hroom _ _
  · cases p with
    | up => exact hframe.upPort
    | down => exact hframe.downPort
  · generalize (s.observe e).selfShifted = t at hrest ⊢
    generalize t.cq = q, t.tail = x, t.exu = y, t.tau.trim = trim, t.upPort = up, t.downPort = down, t.ltr = trace,
      t.cru.loans = loans, t.counters = counted at hrest
    subst hrest
    rfl

end Sys2Proof.Machine
end

section
/-!
PROOFS. A STROKE frame ahead, and one at the head (O49): the catch-up shifts, the frame's own shift, and the tracker after each (R87, R90,
R91, R110).
-/

namespace Sys2Proof.Machine

theorem StrokeFrame.isHead {s t : State} (h : StrokeFrame s t) : t.isHead = s.isHead := by unfold State.isHead; rw [h.ldu]

theorem StrokeFrame.isTail {s t : State} (h : StrokeFrame s t) : t.isTail = s.isTail := by unfold State.isTail; rw [h.ldu]

theorem StrokeFrame.now {s t : State} (h : StrokeFrame s t) : t.now = s.now := by unfold State.now; rw [h.micros]

theorem StrokeFrame.img {s t : State} (h : StrokeFrame s t) : t.img = s.img := by unfold State.img; rw [h.svi]

/-- Nothing else differs where the head's block stays. -/
theorem StrokeFrame.eq {s t : State} (h : StrokeFrame s t) (hhead : t.head = s.head) : t = { s with
    cq := t.cq, tracker := t.tracker, tail := t.tail, exu := t.exu, tau := { s.tau with trim := t.tau.trim }
    upPort := t.upPort, downPort := t.downPort, ltr := t.ltr, counters := t.counters
    cru := { s.cru with loans := t.cru.loans } } := by
  rw [← h.cru, ← h.tau, ← hhead, ← h.micros, ← h.freeIndex, ← h.pins, ← h.ldu, ← h.pdu, ← h.ivi, ← h.hlu, ← h.svi, ← h.pending]

/-! ### The frame adjustment (R90) -/

theorem State.frameAdjust_eq (s : State) : s.frameAdjust =
    { s with tracker := s.frameAdjust.tracker, counters := s.frameAdjust.counters } := by
  unfold State.frameAdjust
  split
  · split
    · rfl
    · split <;> rfl
  · rfl

theorem State.frameAdjust_only (s : State) : CountsOnly [.motionMissing] s s.frameAdjust := by
  unfold State.frameAdjust
  split
  · split
    · exact .of_counters rfl
    · split
      · exact .of_counters rfl
      · exact State.count_only List.mem_cons_self s
  · exact .refl s

theorem Image.senses_iff (img : Image) : img.senses = true ↔ img.motionSense = 1 := by simp [Image.senses]

/-- R90: the shift is that of the oldest unmatched edge. -/
theorem State.frameAdjust_matches {s : State} (hsense : s.img.motionSense = 1) (hedge : 0 < s.tracker.unmatched) :
    s.frameAdjust.tracker = { s.tracker with
      unmatched := s.tracker.unmatched - 1
      motionDeadline := if 1 < s.tracker.unmatched then some (after s.now s.img.motionDeadline) else none } := by
  unfold State.frameAdjust
  rw [if_pos ((Image.senses_iff _).mpr hsense), if_pos hedge, ← restartWhile_pred]
  rfl

/-- R90: the shift waits for its edge. -/
theorem State.frameAdjust_waits {s : State} (hsense : s.img.motionSense = 1) (hnone : s.tracker.unmatched = 0)
    (hroom : s.tracker.unconfirmed < 2) : s.frameAdjust.tracker = { s.tracker with
      unconfirmed := s.tracker.unconfirmed + 1
      confirmDeadline :=
        if s.tracker.unconfirmed = 0 then some (after s.now s.img.confirmWindow) else s.tracker.confirmDeadline } := by
  unfold State.frameAdjust
  rw [if_pos ((Image.senses_iff _).mpr hsense), if_neg (by omega), if_pos hroom]

/-- R88, R90: with no motion sense, or two shifts that wait, the tracker stays. -/
theorem State.frameAdjust_stays {s : State}
    (h : s.img.motionSense ≠ 1 ∨ s.tracker.unmatched = 0 ∧ 2 ≤ s.tracker.unconfirmed) :
    s.frameAdjust.tracker = s.tracker := by
  unfold State.frameAdjust
  rcases h with hsense | ⟨hnone, hfull⟩
  · rw [if_neg (mt (Image.senses_iff _).mp hsense)]
  · split
    · rw [if_neg (by omega), if_neg (by omega)]
      rfl
    · rfl

/-! ### The tail after one shift or more (R105, R106, R113) -/

/-- R106, R108: the tail's items once its lead has left. -/
theorem State.tailLeft_items (u : State) : u.tailLeft.outstanding = none ∧ u.tailLeft.callTimer = none ∧
    u.tailLeft.counter = u.tail.counter ∧ u.tailLeft.pressWaiting = u.tail.pressWaiting := by
  unfold State.tailLeft
  dsimp only
  split <;> exact ⟨rfl, rfl, rfl, rfl⟩

/-- R105: the call check of a tail with no call outstanding, by what it sends. -/
theorem State.checkSends_of_none {u : State} {x : Tail} (hnone : x.outstanding = none) (preview : Option Reasons) :
    (u.ldu.state ≠ .run → u.checkSends x preview = none) ∧
    (u.ldu.state = .run → preview.any (fun r => !r.pass) = true → u.checkSends x preview = some .self) ∧
    (u.ldu.state = .run → preview.any (fun r => !r.pass) = false →
      u.checkSends x preview = if x.pressWaiting then some .press else none) := by
  unfold State.checkSends
  refine ⟨fun hrun => if_neg fun h => hrun h.1, fun hrun hreject => ?_, fun hrun hpass => ?_⟩
  · rw [if_pos ⟨hrun, hnone⟩, if_pos hreject]
  · rw [if_pos ⟨hrun, hnone⟩, if_neg (Bool.eq_false_iff.mp hpass)]

/-- R105, R106, R113: a tail whose lead has just left and whose call check has acted. -/
theorem State.TailChecked.shifted {u t : State} (h : u.TailChecked t u.tailLeft) : u.TailShifted t := by
  obtain ⟨hpreview, htail, -⟩ := h
  obtain ⟨hnone, htimer, hcounter, hwaiting⟩ := u.tailLeft_items
  obtain ⟨hheld, hself, hpress⟩ := State.checkSends_of_none (u := u) hnone t.exu.preview
  refine ⟨hpreview, fun hrun => ?_, fun hrun hreject => ?_, fun hrun hpass => ?_⟩
  · rw [hheld hrun] at htail
    rw [htail]
    exact ⟨hnone, htimer, hcounter, hwaiting⟩
  · rw [hself hrun hreject] at htail
    rw [htail]
    exact ⟨rfl, rfl⟩
  · rw [hpress hrun hpass] at htail
    cases hw : u.tailLeft.pressWaiting with
    | true =>
      rw [hw] at htail
      rw [htail]
      exact ⟨rfl, .inr ⟨rfl, rfl⟩⟩
    | false =>
      rw [hw] at htail
      rw [htail]
      exact ⟨hw, .inl ⟨hnone, htimer⟩⟩

/-- The tail after the last of several shifts, seen from before the first: outside RUN the earlier ones leave the items it keeps. -/
theorem State.TailShifted.of_prior {u v t : State} (h : v.TailShifted t) (hldu : v.ldu = u.ldu) (hnow : v.now = u.now)
    (himg : v.img = u.img) (hitems : u.ldu.state ≠ .run →
      v.tail.counter = u.tail.counter ∧ v.tail.pressWaiting = u.tail.pressWaiting) : u.TailShifted t := by
  obtain ⟨hpreview, hheld, hself, hpress⟩ := h
  rw [himg] at hpreview
  rw [hldu] at hheld
  rw [hldu, hnow, himg] at hself hpress
  refine ⟨hpreview, fun hrun => ?_, hself, hpress⟩
  obtain ⟨hcounter, hwaiting⟩ := hitems hrun
  obtain ⟨hnone, htimer, hcounter', hwaiting'⟩ := hheld hrun
  exact ⟨hnone, htimer, hcounter'.trans hcounter, hwaiting'.trans hwaiting⟩

/-! ### One frame-driven shift (R90, R91) -/

/-- What one frame-driven shift leaves at a station that is not the head, the tracker and the counters aside. -/
structure State.FrameShifted (s t : State) : Prop where
  stroke : StrokeFrame s t
  head : t.head = s.head
  lastStroke : t.cq.lastStroke = s.cq.lastStroke + 1
  before : s.isTail = false → t.tail = s.tail ∧ t.exu = s.exu ∧ t.tau = s.tau
  tail : s.isTail = true → s.TailShifted t

/-- A shift after what leaves the station as it is. -/
theorem State.FrameShifted.of_shift {s v : State} (hhead : s.isHead = false) (h : LinkFrame s v) (b : Byte) (x : Slot) :
    s.FrameShifted (v.shift b x) := by
  have hheadv : v.isHead = false := h.isHead.trans hhead
  refine ⟨h.toStrokeFrame.trans (State.shift_shift v b x).toStrokeFrame, (State.shift_head hheadv b x).trans h.head, ?_,
    fun htail => ?_, fun htail => ?_⟩
  · rw [State.shift_cq, h.cq]
    rfl
  · obtain ⟨htl, hexu, htau⟩ := State.shift_of_notTail (h.isTail.trans htail) b x
    exact ⟨htl.trans h.tail, hexu.trans h.exu, htau.trans h.tau⟩
  · have hstroke := State.shift_tailStroke hheadv (h.isTail.trans htail) b x
    exact hstroke.checked.shifted.of_prior h.ldu h.now h.img (fun _ => by rw [h.tail]; exact ⟨rfl, rfl⟩)

/-- What follows a shift in the tracker and in counters. -/
theorem State.FrameShifted.after {s t u : State} (h : s.FrameShifted t)
    (hu : u = { t with tracker := u.tracker, counters := u.counters }) : s.FrameShifted u := by
  obtain ⟨⟨hmicros, hfree, hpins, hldu, htau, hpdu, hivi, hcru, hheadf, hhlu, hupPort, hdownPort, hsvi, hpending⟩, hhead, hlast,
    hbefore, htail⟩ := h
  generalize u.tracker = x, u.counters = counted at hu
  subst hu
  exact ⟨⟨hmicros, hfree, hpins, hldu, htau, hpdu, hivi, hcru, hheadf, hhlu, hupPort, hdownPort, hsvi, hpending⟩, hhead, hlast,
    hbefore, htail⟩

/-- R91: a catch-up shift with its frame adjustment. -/
theorem State.catchUp_frameShifted {s : State} (hhead : s.isHead = false) : s.FrameShifted s.catchUp.frameAdjust :=
  ((State.FrameShifted.of_shift hhead (s.count_link .placeholdersMade) synthNone (some (s.placeholder none))).after rfl).after
    (State.frameAdjust_eq s.catchUp)

/-- R90: the frame's own shift with its frame adjustment. -/
theorem State.ownShift_frameShifted {s : State} (hhead : s.isHead = false) (x : Option WireRecord) :
    s.FrameShifted (s.ownShift x) :=
  (State.FrameShifted.of_shift hhead (s.countPayload_link x) synthNone (s.payloadSlot x)).after (State.frameAdjust_eq _)

/-! ### The shifts of a STROKE frame (R91) -/

/-- What `k` catch-up shifts leave at a station that is not the head, the tracker and the other counters aside. -/
structure State.CaughtUp (s t : State) (k : Nat) : Prop where
  stroke : StrokeFrame s t
  head : t.head = s.head
  lastStroke : t.cq.lastStroke = s.cq.lastStroke + BitVec.ofNat 16 k
  before : s.isTail = false → t.tail = s.tail ∧ t.exu = s.exu ∧ t.tau = s.tau
  items : s.isTail = true → s.ldu.state ≠ .run →
    t.tail.counter = s.tail.counter ∧ t.tail.pressWaiting = s.tail.pressWaiting
  shifts : t.counter .shifts = satAdd (s.counter .shifts) k
  catchups : t.counter .catchupShifts = satAdd (s.counter .catchupShifts) k
  placeholders : t.counter .placeholdersMade = satAdd (s.counter .placeholdersMade) k
  synth : t.counter .synthStrokesTaken = s.counter .synthStrokesTaken

theorem State.CaughtUp.refl (s : State) : s.CaughtUp s 0 :=
  ⟨.refl s, rfl, (BitVec.add_zero _).symm, fun _ => ⟨rfl, rfl, rfl⟩, fun _ _ => ⟨rfl, rfl⟩, (satAdd_zero _).symm,
    (satAdd_zero _).symm, (satAdd_zero _).symm, rfl⟩

theorem State.CaughtUp.trans {s t u : State} {j k : Nat} (h : s.CaughtUp t j) (l : t.CaughtUp u k) : s.CaughtUp u (j + k) where
  stroke := h.stroke.trans l.stroke
  head := l.head.trans h.head
  lastStroke := by rw [l.lastStroke, h.lastStroke, BitVec.add_assoc, BitVec.ofNat_add]
  before htail := by
    obtain ⟨htl, hexu, htau⟩ := h.before htail
    obtain ⟨htl', hexu', htau'⟩ := l.before (h.stroke.isTail.trans htail)
    exact ⟨htl'.trans htl, hexu'.trans hexu, htau'.trans htau⟩
  items htail hrun := by
    obtain ⟨hcounter, hwaiting⟩ := h.items htail hrun
    obtain ⟨hcounter', hwaiting'⟩ := l.items (h.stroke.isTail.trans htail) (by rw [h.stroke.ldu]; exact hrun)
    exact ⟨hcounter'.trans hcounter, hwaiting'.trans hwaiting⟩
  shifts := by rw [l.shifts, h.shifts, satAdd_satAdd]
  catchups := by rw [l.catchups, h.catchups, satAdd_satAdd]
  placeholders := by rw [l.placeholders, h.placeholders, satAdd_satAdd]
  synth := l.synth.trans h.synth

/-- R91: one catch-up shift. -/
theorem State.catchUp_caughtUp {s : State} (hhead : s.isHead = false) : s.CaughtUp s.catchUp.frameAdjust 1 := by
  obtain ⟨hstroke, hheadEq, hlast, hbefore, htail⟩ := State.catchUp_frameShifted hhead
  have hadjust := s.catchUp.frameAdjust_only
  have hcatch (c : Counter) (hc : c ≠ .catchupShifts) : s.catchUp.counter c =
      ((s.count .placeholdersMade).shift synthNone (some (s.placeholder none))).counter c :=
    State.counter_count_ne _ hc.symm
  have hshift := (s.count .placeholdersMade).shift_only synthNone (some (s.placeholder none))
  refine ⟨hstroke, hheadEq, hlast, hbefore, fun hat hrun => ?_, ?_, ?_, ?_, ?_⟩
  · obtain ⟨-, hheld, -, -⟩ := htail hat
    obtain ⟨-, -, hitems⟩ := hheld hrun
    exact hitems
  · rw [hadjust _ (by decide), hcatch _ (by decide), State.shift_shifts, State.counter_count_ne _ (by decide)]
  · refine (hadjust _ (by decide)).trans ((State.counter_count _ _).trans (congrArg (satAdd · 1) ?_))
    rw [hshift _ (by decide), State.counter_count_ne _ (by decide)]
  · rw [hadjust _ (by decide), hcatch _ (by decide), hshift _ (by decide), State.counter_count]
  · rw [hadjust _ (by decide), hcatch _ (by decide), hshift _ (by decide), State.counter_count_ne _ (by decide)]

/-- R91: the catch-up shifts of a STROKE frame. -/
theorem State.catchUpsAdjusted_caughtUp {s : State} (hhead : s.isHead = false) (k : Nat) :
    s.CaughtUp (s.catchUpsAdjusted k) k := by
  induction k generalizing s with
  | zero => exact .refl s
  | succ k ih =>
    have hfirst := State.catchUp_caughtUp hhead
    have hrest := ih (s := s.catchUp.frameAdjust) (hfirst.stroke.isHead.trans hhead)
    have hall := hfirst.trans hrest
    rw [Nat.add_comm] at hall
    exact hall

/-! ### The frame's own shift (R90) -/

/-- The counters of a frame's own shift. -/
def ownShiftCounters : List Counter := .recordRepaired :: .motionMissing :: shiftCounters

theorem State.countPayload_only (s : State) (x : Option WireRecord) : CountsOnly [.recordRepaired] s (s.countPayload x) := by
  unfold State.countPayload
  split
  · exact State.countRepair_only _ _
  · exact .refl s

theorem State.ownShift_only (s : State) (x : Option WireRecord) : CountsOnly ownShiftCounters s (s.ownShift x) :=
  (((s.countPayload_only x).mono (by decide)).trans ((State.shift_only _ _ _).mono (by decide))).trans
    ((State.frameAdjust_only _).mono (by decide))

theorem State.ownShift_shifts (s : State) (x : Option WireRecord) :
    (s.ownShift x).counter .shifts = satAdd (s.counter .shifts) 1 := by
  refine (State.frameAdjust_only _ _ (by decide)).trans ((State.shift_shifts _ _ _).trans ?_)
  rw [s.countPayload_only x _ (by decide)]

/-- The state of a frame's own shift before its frame adjustment. -/
def State.ownShifted (s : State) (x : Option WireRecord) : State := (s.countPayload x).shift synthNone (s.payloadSlot x)

theorem State.ownShifted_shift (s : State) (x : Option WireRecord) : ShiftFrame s (s.ownShifted x) :=
  (s.countPayload_link x).toShiftFrame.trans (State.shift_shift _ _ _)

/-- R90: a frame's own shift is matched with motion. -/
theorem State.ownShift_tracker (s : State) (x : Option WireRecord) :
    (s.img.motionSense = 1 → 0 < s.tracker.unmatched → (s.ownShift x).tracker = { s.tracker with
      unmatched := s.tracker.unmatched - 1
      motionDeadline := if 1 < s.tracker.unmatched then some (after s.now s.img.motionDeadline) else none }) ∧
    (s.img.motionSense = 1 → s.tracker.unmatched = 0 → s.tracker.unconfirmed < 2 → (s.ownShift x).tracker = { s.tracker with
      unconfirmed := s.tracker.unconfirmed + 1
      confirmDeadline :=
        if s.tracker.unconfirmed = 0 then some (after s.now s.img.confirmWindow) else s.tracker.confirmDeadline }) ∧
    (s.img.motionSense ≠ 1 ∨ (s.tracker.unmatched = 0 ∧ 2 ≤ s.tracker.unconfirmed) →
      (s.ownShift x).tracker = s.tracker) := by
  have hframe := s.ownShifted_shift x
  have heq : s.ownShift x = (s.ownShifted x).frameAdjust := rfl
  rw [heq, ← hframe.img, ← hframe.now, ← hframe.tracker]
  exact ⟨State.frameAdjust_matches, State.frameAdjust_waits, State.frameAdjust_stays⟩

theorem LinkFrame.strokeFrame {s t : State} (h : LinkFrame s t) (b : Byte) : t.strokeFrame b = s.strokeFrame b := by
  unfold State.strokeFrame
  rw [h.frame, h.cq, h.img, h.pos]

/-- R86: a frame's own shift sends what left the lead downstream. -/
theorem State.ownShift_sends {s : State} (htail : s.isTail = false) (hroom : s.hasRoom .down = true) (x : Option WireRecord) :
    (s.ownShift x).downPort.localQ = insertByClass (s.strokeFrame synthNone) s.downPort.localQ := by
  have hlink := s.countPayload_link x
  have hcounted : s.countPayload x = { s with counters := (s.countPayload x).counters } := by
    unfold State.countPayload
    cases x with
    | none => rfl
    | some w => exact s.countRepair_eq w
  have hport : (s.countPayload x).downPort = s.downPort := by rw [hcounted]
  have hroom' : (s.countPayload x).hasRoom .down = true := by rw [hcounted]; exact hroom
  have hsends := State.shift_sends (hlink.isTail.trans htail) hroom' synthNone (s.payloadSlot x)
  rw [hlink.strokeFrame, hport] at hsends
  exact Eq.trans (congrArg (fun t : State => t.downPort.localQ) (State.frameAdjust_eq _)) hsends

/-! ### The number of a frame ahead (R87) -/

/-- R87: the shifts of a frame ahead end at its number. -/
theorem aheadBy_reaches {n last : Half} (h : 1 ≤ aheadBy n last) :
    last + BitVec.ofNat 16 (aheadBy n last - 1) + 1 = n := by
  unfold aheadBy at h ⊢
  bv_omega

/-- R87: a frame ahead by 1 has the next number. -/
theorem aheadBy_one {n last : Half} (h : aheadBy n last = 1) : last + 1 = n := by
  unfold aheadBy at h
  bv_omega

/-! ### The STROKE frame (R87, R90, R91, R110) -/

section
variable (s : State) (p : Port) (f : Frame) (b : Byte)

theorem State.strokeTaken_hasRoom (q : Port) : (s.strokeTaken p f b).hasRoom q = s.hasRoom q := by
  rw [← (s.consumed_frame p f).hasRoom q]
  unfold State.hasRoom State.linkIsUp
  rw [State.strokeTaken_port]

theorem State.strokeTaken_localQ (q : Port) : ((s.strokeTaken p f b).port q).localQ = (s.port q).localQ := by
  rw [State.strokeTaken_port, (s.consumed_frame p f).localQ]

end

/-- What the shifts of a frame ahead leave at a station that is not the head, the tracker aside. -/
structure State.TakenAhead (v t : State) (n : Half) : Prop where
  stroke : StrokeFrame v t
  head : t.head = v.head
  lastStroke : t.cq.lastStroke = n
  shifts : t.counter .shifts = satAdd (v.counter .shifts) (aheadBy n v.cq.lastStroke)
  catchups : t.counter .catchupShifts = satAdd (v.counter .catchupShifts) (aheadBy n v.cq.lastStroke - 1)
  placeholders : t.counter .placeholdersMade = satAdd (v.counter .placeholdersMade) (aheadBy n v.cq.lastStroke - 1)
  synth : t.counter .synthStrokesTaken = v.counter .synthStrokesTaken
  before : v.isTail = false → t.tail = v.tail ∧ t.exu = v.exu ∧ t.tau = v.tau
  tail : v.isTail = true → v.TailShifted t

/-- R87, R90, R91: the catch-up shifts, and then the frame's own. -/
theorem State.takenAhead {v : State} (hhead : v.isHead = false) {n : Half} (hahead : isAhead n v.cq.lastStroke = true)
    (x : Option WireRecord) :
    v.TakenAhead ((v.catchUpsAdjusted (aheadBy n v.cq.lastStroke - 1)).ownShift x) n := by
  obtain ⟨hone, -⟩ := of_decide_eq_true hahead
  have hcaught := State.catchUpsAdjusted_caughtUp hhead (aheadBy n v.cq.lastStroke - 1)
  have hown := State.ownShift_frameShifted (s := v.catchUpsAdjusted (aheadBy n v.cq.lastStroke - 1))
    (hcaught.stroke.isHead.trans hhead) x
  have hshifts := State.ownShift_shifts (v.catchUpsAdjusted (aheadBy n v.cq.lastStroke - 1)) x
  have honly := State.ownShift_only (v.catchUpsAdjusted (aheadBy n v.cq.lastStroke - 1)) x
  generalize v.catchUpsAdjusted (aheadBy n v.cq.lastStroke - 1) = w at hcaught hown hshifts honly ⊢
  have hw := hcaught.stroke
  refine ⟨hw.trans hown.stroke, hown.head.trans hcaught.head, ?_, ?_, (honly _ (by decide)).trans hcaught.catchups,
    (honly _ (by decide)).trans hcaught.placeholders, (honly _ (by decide)).trans hcaught.synth, fun htail => ?_,
    fun htail => ?_⟩
  · rw [hown.lastStroke, hcaught.lastStroke]
    exact aheadBy_reaches hone
  · rw [hshifts, hcaught.shifts, satAdd_satAdd, Nat.sub_add_cancel hone]
  · obtain ⟨htl, hexu, htau⟩ := hcaught.before htail
    obtain ⟨htl', hexu', htau'⟩ := hown.before (hw.isTail.trans htail)
    exact ⟨htl'.trans htl, hexu'.trans hexu, htau'.trans htau⟩
  · exact (hown.tail (hw.isTail.trans htail)).of_prior hw.ldu hw.now hw.img (hcaught.items htail)

/-- Settles O49: a frame at the head is counted, and one ahead is taken by its shifts in the state that has consumed it. -/
theorem strokeFrameShiftsTheQueue : Obligations.StrokeFrameShiftsTheQueue := by
  rintro e a n b x s u rfl hadmits hdst
  have hrest := (s.observe e).strokeTaken_rest a.port (arrivedFrame a (.stroke n b x)) b
  have hports := (s.observe e).strokeTaken_port a.port (arrivedFrame a (.stroke n b x)) b
  have honly := (s.observe e).strokeTaken_only a.port (arrivedFrame a (.stroke n b x)) b
  have hsynth := (s.observe e).strokeTaken_counter a.port (arrivedFrame a (.stroke n b x)) b
  refine ⟨fun hhead => ⟨_, exec_stroke_atHead hadmits hdst hhead, ?_⟩,
    fun hhead hahead => ⟨_, exec_stroke_ahead hadmits hdst hhead hahead, ?_⟩⟩
  · generalize (s.observe e).strokeTaken a.port (arrivedFrame a (.stroke n b x)) b = v at hrest hports honly hsynth ⊢
    obtain ⟨htrace, hreceived, hqueues⟩ := State.consumed_quiet (s := s.observe e) (t := v.count .strokesUnexpected)
      (fun q => (State.count_port v _ q).trans (hports q)) (by rw [State.count_ltr, hrest])
    refine ⟨?_, ?_, htrace, hreceived, fun p => (hqueues p).trans (by cases p <;> rfl), ?_⟩
    · rw [State.counter_count, honly _ (by decide)]
      rfl
    · exact (State.counter_count_ne v (by decide)).trans hsynth
    · generalize ((s.observe e).consumed a.port (arrivedFrame a (.stroke n b x))).upPort = up,
        ((s.observe e).consumed a.port (arrivedFrame a (.stroke n b x))).downPort = down,
        ((s.observe e).consumed a.port (arrivedFrame a (.stroke n b x))).ltr = trace, v.counters = counted at hrest
      subst hrest
      rfl
  · have hroomEq := (s.observe e).strokeTaken_hasRoom a.port (arrivedFrame a (.stroke n b x)) b .down
    have hqueueEq := (s.observe e).strokeTaken_localQ a.port (arrivedFrame a (.stroke n b x)) b .down
    generalize (s.observe e).strokeTaken a.port (arrivedFrame a (.stroke n b x)) b = v at *
    have hcq : v.cq = s.cq := by rw [hrest]; rfl
    have hheadv : v.isHead = false := by rw [hrest]; exact hhead
    have htailv : v.isTail = s.isTail := by rw [hrest]; rfl
    have hstroke : v.strokeFrame synthNone = (s.observe e).strokeFrame synthNone := by rw [hrest]; rfl
    have htaken := State.takenAhead hheadv (by rw [hcq]; exact hahead) x
    have halone : aheadBy n s.cq.lastStroke = 1 →
        (v.catchUpsAdjusted (aheadBy n s.cq.lastStroke - 1)).ownShift x = v.ownShift x := fun hone => by rw [hone]; rfl
    rw [hcq] at htaken
    generalize (v.catchUpsAdjusted (aheadBy n s.cq.lastStroke - 1)).ownShift x = t at htaken halone ⊢
    obtain ⟨hframe, hheadEq, hlast, hshifts, hcatchups, hplaceholders, hsynthEq, hbefore, htail⟩ := htaken
    rw [hcq, honly _ (by decide)] at hshifts hcatchups hplaceholders
    refine ⟨hlast, hshifts, hcatchups, hplaceholders, hsynthEq.trans hsynth, fun hone => ?_, fun hnot => ?_, fun hat => ?_,
      .of_consumed (f := arrivedFrame a (.stroke n b x)) fun q => ?_, ?_⟩
    · rw [halone hone]
      have htracker : v.tracker = s.tracker := by rw [hrest]; rfl
      have himg : v.img = s.img := by rw [hrest]; rfl
      have hnow : v.now = (s.observe e).now := by rw [hrest]; rfl
      obtain ⟨hmatches, hwaits, hstays⟩ := v.ownShift_tracker x
      rw [htracker, himg] at hstays
      rw [htracker, himg, hnow] at hmatches hwaits
      refine ⟨(v.ownShift_cq x).trans (by rw [hrest]; rfl), hmatches, hwaits, hstays, fun hnot hroom => ?_⟩
      have hsends := State.ownShift_sends (htailv.trans hnot) (hroomEq.trans hroom) x
      rw [hstroke] at hsends
      refine hsends.trans ?_
      rw [← aheadBy_one hone]
      exact congrArg (insertByClass _) hqueueEq
    · obtain ⟨htl, hexu, htau⟩ := hbefore (htailv.trans hnot)
      rw [hrest] at htl hexu htau
      exact ⟨htl, hexu, htau⟩
    · have hshifted := htail (htailv.trans hat)
      rw [hrest] at hshifted
      exact hshifted
    · rw [← hports q]
      cases q with
      | up => exact hframe.upPort
      | down => exact hframe.downPort
    · have heq := hframe.eq hheadEq
      generalize ((s.observe e).consumed a.port (arrivedFrame a (.stroke n b x))).upPort = up,
        ((s.observe e).consumed a.port (arrivedFrame a (.stroke n b x))).downPort = down,
        ((s.observe e).consumed a.port (arrivedFrame a (.stroke n b x))).ltr = trace, v.counters = counted at hrest
      subst hrest
      exact heq

end Sys2Proof.Machine
end

section
/-!
PROOFS. The press call (O29): the end of a PRESS_IDLE cause with its CLEAR and the mode that follows, and the CALL that the tail sends or
keeps waiting (R98, R103, R104, R107, R109, R133).
-/

namespace Sys2Proof.Machine

/-! ### What a removal of the Hold Unit leaves (R133) -/

theorem HoldFrame.now {s t : State} (h : HoldFrame s t) : t.now = s.now := by unfold State.now; rw [h.micros]

theorem HoldFrame.img {s t : State} (h : HoldFrame s t) : t.img = s.img := by unfold State.img; rw [h.svi]

theorem HoldFrame.isHead {s t : State} (h : HoldFrame s t) : t.isHead = s.isHead := by unfold State.isHead; rw [h.ldu]

theorem HoldFrame.isTail {s t : State} (h : HoldFrame s t) : t.isTail = s.isTail := by unfold State.isTail; rw [h.ldu]

theorem HoldFrame.frameOf {s t : State} (h : HoldFrame s t) (dst : Byte) (x : Payload) : t.frame dst x = s.frame dst x := by
  unfold State.frame State.source
  rw [h.ldu, h.freeIndex]

theorem HoldFrame.linkIsUp {s t : State} (h : HoldFrame s t) (p : Port) : t.linkIsUp p = s.linkIsUp p := by
  unfold State.linkIsUp
  rw [h.offered p]
  rfl

theorem HoldFrame.hasRoom_iff {s t : State} (h : HoldFrame s t) (p : Port) : t.hasRoom p = true ↔
    s.linkIsUp p = true ∧ (s.port p).check ≠ .miswired ∧ (t.port p).localQ.length < 8 := by
  rw [State.hasRoom_iff, h.linkIsUp]
  conv_lhs => rw [show (t.port p).check = (s.port p).check by rw [h.offered p]; rfl]

/-- R133: the list without an own cause does not hold it. -/
theorem Hlu.without_hasOwn (x : Hlu) (c : Cause) : (x.without c).hasOwn c = false := by
  unfold Hlu.hasOwn Hlu.without
  rw [List.any_filter]
  exact List.any_eq_false.mpr fun e _ => by cases e.own && e.cause == c <;> decide

/-- R133: what the removal of one own cause leaves of the list. -/
theorem Hlu.without_ownRemoved {u t : State} {c : Cause} (h : u.hlu.hasOwn c = true) (ht : t.hlu = u.hlu.without c) :
    u.OwnRemoved t (fun x => x.own && x.cause == c) := by
  unfold State.OwnRemoved
  refine (ht.trans ?_).trans (if_pos h).symm
  unfold Hlu.without
  rw [List.any_filter]

/-- R133: where no own cause stands the list stays. -/
theorem Hlu.same_ownRemoved {u t : State} {c : Cause} (h : u.hlu.hasOwn c = false) (ht : t.hlu = u.hlu) :
    u.OwnRemoved t (fun x => x.own && x.cause == c) := by
  unfold State.OwnRemoved
  exact ht.trans (if_neg (Bool.eq_false_iff.mp h)).symm

/-- R98: the derivation of the mode counts no start where no call is pending. -/
theorem State.deriveMode_pushes {s : State} (h : s.head.calls = []) :
    s.deriveMode.counter .pushesStarted = s.counter .pushesStarted := by
  have hnone {v : State} (hv : v.head.calls = []) : v.tryStart = v := by
    unfold State.tryStart
    rw [hv]
  unfold State.deriveMode
  split
  · split
    · rw [hnone h]
    · rw [hnone (v := s.enterMode _) h]
      exact State.counter_countBy_ne _ _ _ _ (by cases modeOf s.hlu.entries <;> decide)
  · rfl

/-! ### The end of PRESS_IDLE (R107, R133) -/

/-- R104, R107: a press call counted, and its PRESS_IDLE cause removed, with the mode that follows. -/
def State.idleEnded (s : State) : State :=
  if s.hlu.hasOwn .pressIdle then ((s.count .pressCalls).removeOwn .pressIdle).deriveMode else s.count .pressCalls

theorem State.idleEnded_none {s : State} (h : s.hlu.hasOwn .pressIdle = false) : s.idleEnded = s.count .pressCalls :=
  if_neg (Bool.eq_false_iff.mp h)

theorem State.idleEnded_some {s : State} (h : s.hlu.hasOwn .pressIdle = true) :
    s.idleEnded = ((s.count .pressCalls).removeOwn .pressIdle).deriveMode := if_pos h

/-- The counters of the end of PRESS_IDLE. -/
def idleEndCounters : List Counter := removalCounters ++ modeCounters

theorem State.idleEnded_hold (s : State) : HoldFrame s s.idleEnded := by
  unfold State.idleEnded
  split
  · exact ((s.count_link _).toHoldFrame.trans (State.removeOwn_hold _ _)).trans (State.deriveMode_hold _)
  · exact (s.count_link _).toHoldFrame

theorem State.idleEnded_only (s : State) : CountsOnly idleEndCounters (s.count .pressCalls) s.idleEnded := by
  unfold State.idleEnded
  split
  · exact ((State.removeOwn_only _ _).mono (by decide)).trans ((State.deriveMode_only _).mono (by decide))
  · exact .refl _

theorem State.idleEnded_pressCalls (s : State) : s.idleEnded.counter .pressCalls = satAdd (s.counter .pressCalls) 1 :=
  (s.idleEnded_only _ (by decide)).trans (s.counter_count _)

theorem State.idleEnded_counter (s : State) {c : Counter} (hc : c ∉ .pressCalls :: idleEndCounters) :
    s.idleEnded.counter c = s.counter c := by
  obtain ⟨hpress, hend⟩ := not_or.mp (mt List.mem_cons.mpr hc)
  exact (s.idleEnded_only c hend).trans (State.counter_count_ne s (Ne.symm hpress))

/-- What the end of a PRESS_IDLE cause leaves. -/
structure State.IdleEnds (s m : State) : Prop where
  hlu : m.hlu = s.hlu.without .pressIdle
  ldu : m.ldu = { s.ldu with state := modeOf m.hlu.entries }
  head : m.head = s.startedHead m.hlu.entries s.head
  joins : ∀ p, s.hasRoom p = true → (m.port p).localQ = s.joined p 255 (.clear 1 s.originByte)
  linkDown : ∀ p, s.linkIsUp p = false → m.port p = s.port p
  clears : (∀ p, s.linkIsUp p = true → s.hasRoom p = true) →
    m.counter .clearsSent = satAdd (s.counter .clearsSent) s.linksUp
  removed : m.counter .ownCausesRemoved = satAdd (s.counter .ownCausesRemoved) 1
  pushes : s.head.calls = [] → m.counter .pushesStarted = s.counter .pushesStarted

/-- R129, R133: the cause leaves with its CLEAR, and the mode follows the list. -/
theorem State.idleEnded_ends {s : State} (hon : s.onLine = true) (h : s.hlu.hasOwn .pressIdle = true) :
    s.IdleEnds s.idleEnded := by
  have hhas : (s.count .pressCalls).hlu.hasOwn .pressIdle = true := h
  have hlink := (s.count .pressCalls).removeOwn_link .pressIdle
  have hhlu := State.removeOwn_hlu hhas
  have hport := State.removeOwn_port hhas
  have hsome := State.removeOwn_some hhas
  have honly := (s.count .pressCalls).removeOwn_only .pressIdle
  rw [State.idleEnded_some h]
  generalize (s.count .pressCalls).removeOwn .pressIdle = r at *
  have honr : r.onLine = true := hlink.onLine.trans hon
  have hrhead : r.head = s.head := hlink.head
  have hmode {c : Counter} (hc : c ∉ modeCounters) : r.deriveMode.counter c = r.counter c := r.deriveMode_only c hc
  constructor
  · rw [State.deriveMode_hlu]
    exact hhlu
  · rw [State.deriveMode_ldu honr, State.deriveMode_hlu, hlink.ldu]
    rfl
  · rw [State.deriveMode_head honr, State.deriveMode_hlu, hrhead]
    exact State.startedHead_congr hlink.isHead hlink.now hlink.img _ _
  · intro p hroom
    obtain ⟨hup, -⟩ := (s.hasRoom_iff p).mp hroom
    have hup' : (s.count .pressCalls).linkIsUp p = true := by unfold State.linkIsUp; rw [State.count_port]; exact hup
    rw [State.deriveMode_port, hport p, if_pos hup', State.count_port]
    exact State.afterOffer_joined hroom _ _
  · intro p hdown
    have hdown' : ¬ (s.count .pressCalls).linkIsUp p = true := by
      unfold State.linkIsUp
      rw [State.count_port]
      exact Bool.eq_false_iff.mp hdown
    rw [State.deriveMode_port, hport p, if_neg hdown', State.count_port]
  · intro hrooms
    have hoffer := State.offerBothCounted_counter
      (s := { s.count .pressCalls with hlu := (s.count .pressCalls).hlu.without .pressIdle })
      (fun | .up => hrooms .up | .down => hrooms .down) ((s.count .pressCalls).clearOf .pressIdle) .clearsSent .clearsRefused
    rw [hmode (by decide), hsome, State.counter_count_ne _ (by decide), hoffer]
    exact congrArg (satAdd · s.linksUp) (State.counter_count_ne s (by decide))
  · rw [hmode (by decide), hsome, State.counter_count]
    refine congrArg (satAdd · 1) ((State.offerBothCounted_only _ _ _ _ _ (by decide)).trans ?_)
    exact State.counter_count_ne s (by decide)
  · intro hnone
    rw [State.deriveMode_pushes (hrhead ▸ hnone), honly _ (by decide), State.counter_count_ne s (by decide)]

theorem State.idleEnded_onLine (s : State) (hon : s.onLine = true) : s.idleEnded.onLine = true := by
  cases h : s.hlu.hasOwn .pressIdle with
  | false =>
    rw [State.idleEnded_none h]
    exact hon
  | true =>
    have hends := State.idleEnded_ends hon h
    unfold State.onLine
    rw [hends.ldu]
    exact modeOf_online _

/-! ### The call of the press (R103, R104) -/

/-- R107: the tail once the press-idle timer runs again, which it does while FILL is clear. -/
def State.pressTail (s : State) : Tail :=
  { s.tail with pressIdle := if s.tail.fill then s.tail.pressIdle else some (after s.now s.img.pressIdleTimeout) }

/-- R107: the state in which the press call is sent or waits. -/
def State.pressTimed (s : State) : State := { s.idleEnded with tail := s.pressTail }

theorem State.pressTiming_eq (s : State) : (s.count .pressCalls).pressTiming = s.pressTimed := by
  have hframe := s.idleEnded_hold
  have htiming : (s.count .pressCalls).pressTiming =
      if s.idleEnded.tail.fill then s.idleEnded
      else { s.idleEnded with
        tail := { s.idleEnded.tail with
          pressIdle := some (after s.idleEnded.now s.idleEnded.img.pressIdleTimeout) } } := rfl
  rw [htiming, hframe.now, hframe.img, hframe.tail]
  unfold State.pressTimed State.pressTail
  cases s.tail.fill with
  | true => rw [if_pos rfl, if_pos rfl, ← hframe.tail]
  | false => rfl

/-- R104: the press call goes at once. -/
def State.SendsPress (s : State) : Prop :=
  s.idleEnded.ldu.state = .run ∧ s.tail.outstanding = none ∧ s.previewRejects = false

theorem State.takePressCall_eq (s : State) : s.takePressCall =
    if s.tail.outstanding = none ∧ s.previewRejects = false ∧ s.idleEnded.ldu.state = .run then s.pressTimed.sendCall .press
    else { s.pressTimed with tail := { s.pressTail with pressWaiting := true } } := by
  have hrejects : s.pressTimed.previewRejects = s.previewRejects := 
    congrArg (fun x : Exu => x.preview.any (fun r : Reasons => !r.pass)) s.idleEnded_hold.exu
  unfold State.takePressCall
  rw [State.pressTiming_eq]
  dsimp only
  rw [hrejects]
  rfl

/-- R104: the press call is a new call of the tail. -/
theorem State.takePressCall_sends {s : State} (h : s.SendsPress) : s.takePressCall =
    (s.pressTimed.withNewCall .press).passCall .press (s.tail.counter + 1) .callsSent := by
  obtain ⟨hrun, hnone, hpass⟩ := h
  rw [State.takePressCall_eq, if_pos ⟨hnone, hpass, hrun⟩, State.sendCall_eq_passCall]
  rfl

/-- R104: otherwise it waits. -/
theorem State.takePressCall_waits {s : State} (h : ¬ s.SendsPress) :
    s.takePressCall = { s.pressTimed with tail := { s.pressTail with pressWaiting := true } } := by
  rw [State.takePressCall_eq]
  exact if_neg fun hsends => h ⟨hsends.2.2, hsends.1, hsends.2.1⟩

/-- The counters of a call that a press sends. -/
def pressSendCounters : List Counter := .callsSent :: .creditsRestored :: .callsRefused :: takeCallCounters

/-- R104: after the end of PRESS_IDLE the press call leaves the hold list and the mode. -/
theorem State.takePressCall_after (s : State) : s.takePressCall.hlu = s.idleEnded.hlu ∧
    s.takePressCall.ldu = s.idleEnded.ldu ∧ CountsOnly pressSendCounters s.idleEnded s.takePressCall := by
  by_cases h : s.SendsPress
  · rw [State.takePressCall_sends h]
    have hcall := (s.pressTimed.withNewCall .press).passCall_call .press (s.tail.counter + 1) .callsSent
    exact ⟨hcall.hlu, hcall.ldu, (CountsOnly.of_counters rfl).trans (State.passCall_only (s.pressTimed.withNewCall .press) _ _ _)⟩
  · rw [State.takePressCall_waits h]
    exact ⟨rfl, rfl, .of_counters rfl⟩

theorem State.takePressCall_pressCalls (s : State) :
    s.takePressCall.counter .pressCalls = satAdd (s.counter .pressCalls) 1 := by
  obtain ⟨-, -, honly⟩ := s.takePressCall_after
  exact (honly _ (by decide)).trans s.idleEnded_pressCalls

theorem exec_pressCall_eq {s : State} (e : Env) (hon : s.onLine = true) (htail : s.isTail = true) :
    exec (.pressCall e) s = .next (s.observe e).takePressCall :=
  congrArg Host.Outcome.next (if_pos (Bool.and_eq_true_iff.mpr ⟨hon, htail⟩))

theorem exec_pressCall_ignored {s : State} (e : Env) (h : s.onLine = false ∨ s.isTail = false) :
    exec (.pressCall e) s = .next (s.observe e) := by
  refine congrArg Host.Outcome.next (if_neg fun hat => ?_)
  obtain ⟨hon, htail⟩ := Bool.and_eq_true_iff.mp hat
  rcases h with hoff | hnot
  · exact absurd (hoff.symm.trans hon) (by decide)
  · exact absurd (hnot.symm.trans htail) (by decide)

/-! ### The call on a line of one station (R98, R109) -/

/-- R98: a pusher that is IDLE after its start was tried, with nothing to hold it, has no call to start. -/
theorem State.startedHead_idle {s : State} {h : Head} (hhead : s.isHead = true) (hidle : (s.startedHead [] h).pusher = .idle) :
    h.calls = [] := by
  cases hcalls : h.calls with
  | nil => rfl
  | cons n rest =>
    by_cases hp : h.pusher = .idle
    · rw [State.startedHead_starts hcalls hhead hp] at hidle
      cases hidle
    · unfold State.startedHead at hidle
      rw [hcalls] at hidle
      dsimp only at hidle
      rw [if_neg (fun hstart => hp hstart.2.2)] at hidle
      exact absurd hidle hp

/-- R97: what a head does with a call, where the starts are counted alike only if the call starts one. -/
theorem State.HeadTakesCall.seenFrom {u u' t : State} {k : CallKind} {n : Half} (h : u.HeadTakesCall t k n)
    (hhead : u'.head = u.head) (hhlu : u'.hlu = u.hlu) (hnow : u'.now = u.now) (himg : u'.img = u.img)
    (hcounters : ∀ c ∈ [Counter.callsRepeated, .pressCallsTaken, .selfCallsTaken, .callsDropped], u'.counter c = u.counter c)
    (hpushes : u.head.pusher = .idle → u.hlu.entries = [] → u'.counter .pushesStarted = u.counter .pushesStarted) :
    u'.HeadTakesCall t k n := by
  obtain ⟨hrepeated, hdropped, htaken⟩ := h
  unfold State.HeadTakesCall
  rw [hhead, hhlu, hnow, himg, hcounters .callsRepeated (by decide), hcounters .callsDropped (by decide),
    hcounters .pressCallsTaken (by decide), hcounters .selfCallsTaken (by decide)]
  refine ⟨hrepeated, hdropped, fun h1 h2 hroom => ?_⟩
  obtain ⟨hjoins, hstarts, hcounts⟩ := htaken h1 h2 hroom
  refine ⟨hjoins, fun hidle hempty => ?_, hcounts⟩
  rw [hpushes hidle hempty]
  exact hstarts hidle hempty

/-! ### What the press call leaves, by the line and by PRESS_IDLE -/

theorem State.sendsPress_of_none {s : State} (h : s.hlu.hasOwn .pressIdle = false) :
    s.SendsPress ↔ s.ldu.state = .run ∧ s.tail.outstanding = none ∧ s.previewRejects = false := by
  unfold State.SendsPress
  rw [State.idleEnded_none h]
  rfl

/-- R107, R129: after the end of PRESS_IDLE the mode is that of the list. -/
theorem State.IdleEnds.sendsPress_iff {s t : State} (h : s.IdleEnds s.idleEnded) (hhlu : t.hlu = s.idleEnded.hlu) :
    s.SendsPress ↔ modeOf t.hlu.entries = .run ∧ s.tail.outstanding = none ∧ s.previewRejects = false := by
  unfold State.SendsPress
  rw [h.ldu, hhlu]

/-- R103, R107: the tail that has sent its press call. -/
def State.pressSentTail (s : State) : Tail :=
  { s.pressTail with
    counter := s.tail.counter + 1, outstanding := some (s.tail.counter + 1, .press)
    callTimer := some (after s.now s.img.callTimeout) }

theorem State.pressTimed_newTail (s : State) : (s.pressTimed.withNewCall .press).tail = s.pressSentTail := by
  have hframe := s.idleEnded_hold
  have hnew : (s.pressTimed.withNewCall .press).tail =
      { s.pressTail with
        counter := s.tail.counter + 1, outstanding := some (s.tail.counter + 1, .press)
        callTimer := some (after s.idleEnded.now s.idleEnded.img.callTimeout) } := rfl
  rw [hnew, hframe.now, hframe.img]
  rfl

/-- What a press call sent on a longer line leaves, once PRESS_IDLE has ended and left `m`. -/
structure State.PressSent (s m t : State) : Prop where
  tail : t.tail = s.pressSentTail
  room : m.hasRoom .up = true →
    t.upPort.localQ = insertByClass (s.frame 0 (.call .press (s.tail.counter + 1))) m.upPort.localQ ∧
    t.counter .callsSent = satAdd (s.counter .callsSent) 1
  down : s.linkIsUp .up = false → t.upPort.localQ = m.upPort.localQ ∧
    t.counter .callsRefused = satAdd (s.counter .callsRefused) 1
  downPort : t.downPort = m.downPort
  head : t.head = m.head

/-- R104, R158: the press call of a longer line. -/
theorem State.takePressCall_sent {s : State} (hsingle : s.isSingle = false) (h : s.SendsPress) :
    s.PressSent s.idleEnded s.takePressCall := by
  have hframe := s.idleEnded_hold
  have hsingle' : s.idleEnded.isSingle = false := by
    unfold State.isSingle at hsingle ⊢
    rw [hframe.isHead, hframe.isTail, hsingle]
  obtain ⟨hroom, hdown, heq⟩ :=
    State.passCall_up (v := s.pressTimed.withNewCall .press) hsingle' .press (s.tail.counter + 1) .callsSent
  rw [← State.takePressCall_sends h] at hroom hdown heq
  have htail := congrArg State.tail heq
  have hdownPort := congrArg State.downPort heq
  have hhead := congrArg State.head heq
  refine ⟨htail.trans s.pressTimed_newTail, fun hr => ?_, fun hd => ?_, hdownPort, hhead⟩
  · obtain ⟨hq, hsent⟩ := hroom hr
    have hcounter : (s.pressTimed.withNewCall .press).counter .callsSent = s.counter .callsSent :=
      s.idleEnded_counter (by decide)
    have hcall : (s.pressTimed.withNewCall .press).frame 0 (.call .press (s.tail.counter + 1)) =
        s.frame 0 (.call .press (s.tail.counter + 1)) := hframe.frameOf _ _
    rw [hcounter] at hsent
    rw [← hcall]
    exact ⟨hq, hsent⟩
  · obtain ⟨hq, hrefused⟩ := hdown ((hframe.linkIsUp .up).trans hd)
    have hcounter : (s.pressTimed.withNewCall .press).counter .callsRefused = s.counter .callsRefused :=
      s.idleEnded_counter (by decide)
    rw [hcounter] at hrefused
    exact ⟨hq, hrefused⟩

/-- R98: a head that is left with its pusher IDLE and nothing to hold it has started no stroke. -/
theorem State.idleEnded_pushes {s : State} (hon : s.onLine = true) (hhead : s.isHead = true)
    (hidle : s.idleEnded.head.pusher = .idle) (hempty : s.idleEnded.hlu.entries = []) :
    s.counter .pushesStarted = s.idleEnded.counter .pushesStarted := by
  cases h : s.hlu.hasOwn .pressIdle with
  | false =>
    rw [State.idleEnded_none h]
    exact (State.counter_count_ne s (by decide)).symm
  | true =>
    have hends := State.idleEnded_ends hon h
    rw [hends.head, hempty] at hidle
    exact (hends.pushes (State.startedHead_idle hhead hidle)).symm

/-- R104, R109: the press call of a line of one station. -/
theorem State.takePressCall_within {s : State} (hon : s.onLine = true) (hsingle : s.isSingle = true) (h : s.SendsPress) :
    s.takePressCall.tail = s.pressSentTail ∧ s.takePressCall.counter .callsSent = satAdd (s.counter .callsSent) 1 ∧
    ({ s with hlu := s.idleEnded.hlu, head := s.idleEnded.head } : State).HeadTakesCall s.takePressCall .press
      (s.tail.counter + 1) ∧
    s.takePressCall = { s.idleEnded with
      tail := s.takePressCall.tail, head := s.takePressCall.head, counters := s.takePressCall.counters } := by
  have hframe := s.idleEnded_hold
  have hsingle' : s.idleEnded.isSingle = true := by
    unfold State.isSingle at hsingle ⊢
    rw [hframe.isHead, hframe.isTail, hsingle]
  have hcounter : (s.pressTimed.withNewCall .press).counter .callsSent = s.counter .callsSent :=
    s.idleEnded_counter (by decide)
  obtain ⟨hcounted, htakes, heq⟩ := State.passCall_within (v := s.pressTimed.withNewCall .press) (s.idleEnded_onLine hon)
    hsingle' .press (s.tail.counter + 1) (c := .callsSent) (by decide)
  rw [← State.takePressCall_sends h] at hcounted htakes heq
  have htail := congrArg State.tail heq
  rw [hcounter] at hcounted
  have hhead : s.isHead = true := (Bool.and_eq_true_iff.mp hsingle).1
  refine ⟨htail.trans s.pressTimed_newTail, hcounted, htakes.seenFrom rfl rfl hframe.now.symm hframe.img.symm ?_
    (State.idleEnded_pushes hon hhead), ?_⟩
  · have hnot : ∀ c ∈ [Counter.callsRepeated, .pressCallsTaken, .selfCallsTaken, .callsDropped],
        c ∉ Counter.pressCalls :: idleEndCounters := by decide
    exact fun c hc => (s.idleEnded_counter (hnot c hc)).symm
  have hself : s.takePressCall = { s.pressTimed.withNewCall .press with
      tail := s.takePressCall.tail, head := s.takePressCall.head, counters := s.takePressCall.counters } := by
    rw [htail]
    exact heq
  exact hself

/-- R104, R107: all else that a press call leaves as it is. -/
theorem State.takePressCall_frame (s : State) : s.takePressCall = { s with
    tail := s.takePressCall.tail, head := s.takePressCall.head, hlu := s.takePressCall.hlu, ldu := s.takePressCall.ldu
    upPort := s.takePressCall.upPort, downPort := s.takePressCall.downPort, ltr := s.takePressCall.ltr
    counters := s.takePressCall.counters, cru := { s.cru with loans := s.takePressCall.cru.loans } } := by
  have hhold := s.idleEnded_hold.eq
  by_cases h : s.SendsPress
  · rw [State.takePressCall_sends h]
    have hcall := (s.pressTimed.withNewCall .press).passCall_call .press (s.tail.counter + 1) .callsSent
    generalize State.passCall _ .press (s.tail.counter + 1) .callsSent = t at hcall ⊢
    have hcru : t.cru = { s.cru with loans := t.cru.loans } :=
      hcall.cru.trans (congrArg (fun x : Cru => { x with loans := t.cru.loans }) s.idleEnded_hold.cru)
    rw [← hcru, ← hcall.micros.trans s.idleEnded_hold.micros, ← hcall.freeIndex.trans s.idleEnded_hold.freeIndex,
      ← hcall.pins.trans s.idleEnded_hold.pins, ← hcall.cq.trans s.idleEnded_hold.cq,
      ← hcall.tau.trans s.idleEnded_hold.tau, ← hcall.pdu.trans s.idleEnded_hold.pdu,
      ← hcall.ivi.trans s.idleEnded_hold.ivi, ← hcall.tracker.trans s.idleEnded_hold.tracker,
      ← hcall.exu.trans s.idleEnded_hold.exu, ← hcall.svi.trans s.idleEnded_hold.svi,
      ← hcall.pending.trans s.idleEnded_hold.pending]
  · rw [State.takePressCall_waits h]
    exact congrArg (fun m : State => ({ m with tail := { s.pressTail with pressWaiting := true } } : State)) hhold

/-- A call or its wait changes a port by offers alone. -/
theorem State.takePressCall_offered (s : State) (p : Port) :
    s.takePressCall.port p = (s.port p).offered (s.takePressCall.port p) := by
  have hended := s.idleEnded_hold.offered p
  by_cases h : s.SendsPress
  · have hcall := (s.pressTimed.withNewCall .press).passCall_call .press (s.tail.counter + 1) .callsSent
    rw [← State.takePressCall_sends h] at hcall
    have hpassed : s.takePressCall.port p = (s.idleEnded.port p).offered (s.takePressCall.port p) := by
      cases p with
      | up => exact hcall.upPort
      | down => exact hcall.downPort
    refine hpassed.trans ?_
    rw [hended]
    rfl
  · have hsame : s.takePressCall.port p = s.idleEnded.port p := by
      rw [State.takePressCall_waits h]
      cases p <;> rfl
    rw [hsame]
    exact hended

theorem State.startedHead_notHead {s : State} (h : s.isHead = false) (es : List HoldEntry) (x : Head) :
    s.startedHead es x = x := by
  unfold State.startedHead
  split
  · exact if_neg fun hstart => Bool.false_ne_true (h.symm.trans hstart.2.1)
  · rfl

/-- On a longer line a press call leaves the head's block as the end of PRESS_IDLE did. -/
theorem State.takePressCall_head {s : State} (hsingle : s.isSingle = false) : s.takePressCall.head = s.idleEnded.head := by
  by_cases h : s.SendsPress
  · exact (State.takePressCall_sent hsingle h).head
  · rw [State.takePressCall_waits h]
    rfl

/-- R104: on a longer line a press call offers nothing downstream. -/
theorem State.takePressCall_downPort {s : State} (hsingle : s.isSingle = false) :
    s.takePressCall.downPort = s.idleEnded.downPort := by
  by_cases h : s.SendsPress
  · exact (State.takePressCall_sent hsingle h).downPort
  · rw [State.takePressCall_waits h]
    rfl

/-- R109: on a line of one station a press call offers no frame. -/
theorem State.takePressCall_port {s : State} (hon : s.onLine = true) (hsingle : s.isSingle = true) (p : Port) :
    s.takePressCall.port p = s.idleEnded.port p := by
  by_cases h : s.SendsPress
  · obtain ⟨-, -, -, heq⟩ := State.takePressCall_within hon hsingle h
    rw [heq]
    cases p <;> rfl
  · rw [State.takePressCall_waits h]
    cases p <;> rfl

/-- R158: the CLEAR takes one place of a port with two. -/
theorem State.IdleEnds.hasRoom {s : State} (h : s.IdleEnds s.idleEnded) {p : Port} (hroom : s.hasRoom p = true)
    (hlen : (s.port p).localQ.length < 7) : s.idleEnded.hasRoom p = true := by
  obtain ⟨hup, hcheck, -⟩ := (s.hasRoom_iff p).mp hroom
  refine (s.idleEnded_hold.hasRoom_iff p).mpr ⟨hup, hcheck, ?_⟩
  rw [h.joins p hroom]
  unfold State.joined
  rw [insertByClass_length]
  omega

/-- R104: the press call waits unless all three of its conditions hold. -/
theorem pressWaits_eq_false (m : StationState) (x : Option (Half × CallKind)) (r : Bool) :
    (!(decide (m = .run) && x.isNone && !r)) = false ↔ m = .run ∧ x = none ∧ r = false := by
  simp [and_assoc]

/-- Settles O29: the press call after the end of PRESS_IDLE, on a longer line and on a line of one station. -/
theorem pressCallAtTheTail : Obligations.PressCallAtTheTail := by
  rintro e s u rfl
  refine ⟨fun hon htail hhead hnone => ⟨_, exec_pressCall_eq e hon htail, ?_⟩,
    fun hon htail hhead hnone => ⟨_, exec_pressCall_eq e hon htail, ?_⟩,
    fun hon htail hhead hown => ⟨_, exec_pressCall_eq e hon htail, ?_⟩,
    fun hon htail hhead hown => ⟨_, exec_pressCall_eq e hon htail, ?_⟩,
    fun hon htail => ⟨_, exec_pressCall_eq e hon htail, ?_⟩, exec_pressCall_ignored e⟩
  · have hsingle : (s.observe e).isSingle = false := (State.isSingle_of_tail (s := s.observe e) htail).trans hhead
    have hended := State.idleEnded_none (s := s.observe e) hnone
    have hiff := State.sendsPress_of_none (s := s.observe e) hnone
    have hframe := (s.observe e).takePressCall_frame
    obtain ⟨hhlu, hldu, -⟩ := (s.observe e).takePressCall_after
    rw [State.takePressCall_head hsingle, hhlu, hldu, hended] at hframe
    refine ⟨fun hsends => ?_, fun hwaits => ?_, (s.observe e).takePressCall_pressCalls, fun p => ?_, hframe⟩
    · have hsent := State.takePressCall_sent hsingle (hiff.mpr hsends)
      rw [hended] at hsent
      exact ⟨hsent.tail, hsent.room, hsent.down⟩
    · rw [State.takePressCall_waits (fun h => hwaits (hiff.mp h))]
      rfl
    · refine ((s.observe e).takePressCall_offered p).trans ?_
      cases p <;> rfl
  · have hsingle : (s.observe e).isSingle = true := (State.isSingle_of_tail (s := s.observe e) htail).trans hhead
    have hended := State.idleEnded_none (s := s.observe e) hnone
    have hiff := State.sendsPress_of_none (s := s.observe e) hnone
    have hcounted := (s.observe e).takePressCall_pressCalls
    by_cases h : (s.observe e).SendsPress
    · obtain ⟨htailEq, hsent, htakes, heq⟩ := State.takePressCall_within (s := s.observe e) hon hsingle h
      rw [hended] at htakes heq
      exact ⟨fun _ => ⟨htailEq, hsent, htakes⟩, fun hwaits => absurd (hiff.mp h) hwaits, hcounted, heq⟩
    · have heq := State.takePressCall_waits h
      unfold State.pressTimed at heq
      rw [hended] at heq
      refine ⟨fun hsends => absurd (hiff.mpr hsends) h, fun _ => ?_, hcounted, ?_⟩
      · rw [heq]
        exact ⟨rfl, rfl⟩
      · rw [heq]
        rfl
  · have hsingle : (s.observe e).isSingle = false := (State.isSingle_of_tail (s := s.observe e) htail).trans hhead
    have hends := State.idleEnded_ends (s := s.observe e) hon hown
    obtain ⟨hhlu, hldu, honly⟩ := (s.observe e).takePressCall_after
    have hiff := hends.sendsPress_iff hhlu
    have hframe := (s.observe e).takePressCall_frame
    rw [State.takePressCall_head hsingle, hends.head, State.startedHead_notHead (s := s.observe e) hhead] at hframe
    refine ⟨?_, Hlu.without_ownRemoved hown (hhlu.trans hends.hlu), fun waits hwaits => ?_, fun hroom => ?_, fun hrooms => ?_,
      (s.observe e).takePressCall_pressCalls, fun p => ?_, hframe⟩
    · rw [hldu, hends.ldu, hhlu]
      rfl
    · cases waits with
      | false =>
        have hsends := hiff.mpr ((pressWaits_eq_false _ _ _).mp hwaits.symm)
        obtain ⟨htailEq, hroomed, hdown, -, -⟩ := State.takePressCall_sent hsingle hsends
        refine ⟨htailEq, fun hroom hlen => ?_, fun hlinkDown => ?_⟩
        · obtain ⟨hq, hsent⟩ := hroomed (hends.hasRoom (p := .up) hroom hlen)
          exact ⟨hq.trans (congrArg (insertByClass _) (hends.joins .up hroom)), hsent⟩
        · obtain ⟨hq, hrefused⟩ := hdown hlinkDown
          exact ⟨hq.trans (congrArg LinkPort.localQ (hends.linkDown .up hlinkDown)), hrefused⟩
      | true =>
        have hnot : ¬ (s.observe e).SendsPress := fun h =>
          Bool.false_ne_true (((pressWaits_eq_false _ _ _).mpr (hiff.mp h)).symm.trans hwaits.symm)
        have hcounter (c : Counter) (hc : c ∉ .pressCalls :: idleEndCounters) :
            (s.observe e).idleEnded.counter c = satAdd (s.counter c) 0 :=
          ((s.observe e).idleEnded_counter hc).trans (satAdd_zero _).symm
        rw [State.takePressCall_waits hnot]
        exact ⟨rfl, fun hroom _ => ⟨hends.joins .up hroom, hcounter _ (by decide)⟩,
          fun hlinkDown => ⟨congrArg LinkPort.localQ (hends.linkDown .up hlinkDown), hcounter _ (by decide)⟩⟩
    · rw [State.takePressCall_downPort hsingle]
      exact hends.joins .down hroom
    · exact (honly _ (by decide)).trans (hends.clears hrooms)
    · refine ((s.observe e).takePressCall_offered p).trans ?_
      cases p <;> rfl
  · have hsingle : (s.observe e).isSingle = true := (State.isSingle_of_tail (s := s.observe e) htail).trans hhead
    have hends := State.idleEnded_ends (s := s.observe e) hon hown
    obtain ⟨hhlu, hldu, honly⟩ := (s.observe e).takePressCall_after
    have hiff := hends.sendsPress_iff hhlu
    refine ⟨?_, Hlu.without_ownRemoved hown (hhlu.trans hends.hlu), fun hsends => ?_, fun hwaits => ?_, fun p hroom => ?_,
      fun hrooms => ?_, (s.observe e).takePressCall_pressCalls, fun p => ?_, (s.observe e).takePressCall_frame⟩
    · rw [hldu, hends.ldu, hhlu]
      rfl
    · obtain ⟨htailEq, hsent, htakes, -⟩ := State.takePressCall_within (s := s.observe e) hon hsingle (hiff.mpr hsends)
      rw [hends.head] at htakes
      rw [hhlu]
      exact ⟨htailEq, hsent, htakes⟩
    · rw [hhlu, State.takePressCall_waits (fun h => hwaits (hiff.mp h))]
      exact ⟨rfl, hends.head⟩
    · rw [State.takePressCall_port (s := s.observe e) hon hsingle]
      refine (hends.joins p ?_).trans ?_
      · exact (s.observe_hasRoom e p).trans hroom
      · exact s.observe_joined e p _ _
    · exact (honly _ (by decide)).trans (hends.clears fun
        | .up => hrooms .up
        | .down => hrooms .down)
    · refine ((s.observe e).takePressCall_offered p).trans ?_
      cases p <;> rfl
  · obtain ⟨hhlu, hldu, honly⟩ := (s.observe e).takePressCall_after
    cases hown : s.hlu.hasOwn .pressIdle with
    | false =>
      have hsame : (s.observe e).takePressCall.hlu = (s.observe e).hlu := by
        rw [hhlu, State.idleEnded_none (s := s.observe e) hown]
        rfl
      exact ⟨by rw [hsame]; exact hown, Hlu.same_ownRemoved hown hsame, fun h => absurd h (by decide)⟩
    | true =>
      have hends := State.idleEnded_ends (s := s.observe e) hon hown
      have hwithout := hhlu.trans hends.hlu
      refine ⟨by rw [hwithout, Hlu.without_hasOwn], Hlu.without_ownRemoved hown hwithout, fun _ => ⟨?_, ?_⟩⟩
      · rw [hldu, hends.ldu, hhlu]
      · exact (honly _ (by decide)).trans hends.removed

end Sys2Proof.Machine
end

section
/-!
PROOFS. The record that leaves the tail by a STROKE frame (O51): the frame's own shift is a shift at the tail, read past the router and the
frame adjustment (R90, R105, R106, R113 to R120).
-/

namespace Sys2Proof.Machine

/-- R86, R154: what a tail does with a shift, read from before the router took the frame: the local queue of the UP port and what the
shift reads have stayed. -/
theorem State.TailStroke.of_received {u v t : State} {n : Half} {cs : List Counter} (h : v.TailStroke t n)
    (hrest : v = { u with upPort := v.upPort, downPort := v.downPort, ltr := v.ltr, counters := v.counters })
    (hlink : v.linkIsUp .up = u.linkIsUp .up) (hcheck : v.upPort.check = u.upPort.check)
    (hqueue : v.upPort.localQ = u.upPort.localQ) (honly : CountsOnly cs u v) (hcs : ∀ c ∈ tailStrokeCounters, c ∉ cs) :
    u.TailStroke t n := by
  have hsame (c : Counter) (hc : c ∈ tailStrokeCounters) : v.counter c = u.counter c := honly c (hcs c hc)
  obtain ⟨hdecided, hchecked, hoffered⟩ := h
  unfold State.LeadDecided at hdecided
  unfold State.TailChecked at hchecked
  unfold State.CallOffered at hoffered
  rw [hsame _ (by decide), hsame _ (by decide), hsame _ (by decide)] at hdecided
  rw [hsame _ (by decide)] at hchecked
  rw [hlink, hcheck, hqueue, hsame _ (by decide), hsame _ (by decide)] at hoffered
  generalize v.upPort = up, v.downPort = down, v.ltr = trace, v.counters = counted at hrest
  subst hrest
  exact ⟨hdecided, hchecked, hoffered⟩

/-- What follows the shift in the tracker and in other counters. -/
theorem State.TailStroke.after {u t v : State} {n : Half} {cs : List Counter} (h : u.TailStroke t n)
    (hv : v = { t with tracker := v.tracker, counters := v.counters }) (honly : CountsOnly cs t v)
    (hcs : ∀ c ∈ tailStrokeCounters, c ∉ cs) : u.TailStroke v n := by
  have hsame (c : Counter) (hc : c ∈ tailStrokeCounters) : v.counter c = t.counter c := honly c (hcs c hc)
  obtain ⟨hdecided, hchecked, hoffered⟩ := h
  unfold State.LeadDecided at hdecided
  unfold State.TailChecked at hchecked
  unfold State.CallOffered at hoffered
  rw [← hsame _ (by decide), ← hsame _ (by decide), ← hsame _ (by decide)] at hdecided
  rw [← hsame _ (by decide)] at hchecked
  rw [← hsame _ (by decide), ← hsame _ (by decide)] at hoffered
  generalize v.tracker = x, v.counters = counted at hv
  subst hv
  exact ⟨hdecided, hchecked, hoffered⟩

theorem State.countPayload_eq (s : State) (x : Option WireRecord) :
    s.countPayload x = { s with counters := (s.countPayload x).counters } := by
  unfold State.countPayload
  cases x with
  | none => rfl
  | some w => exact s.countRepair_eq w

/-- R90, R105, R113 to R115: a frame's own shift at the tail of a longer line. -/
theorem State.ownShift_tailStroke {s : State} (hhead : s.isHead = false) (htail : s.isTail = true) (x : Option WireRecord) :
    s.TailStroke (s.ownShift x) (s.cq.lastStroke + 1) := by
  have hpayload := s.countPayload_link x
  have hcounted := s.countPayload_eq x
  have hshift := State.shift_tailStroke (hpayload.isHead.trans hhead) (hpayload.isTail.trans htail) synthNone (s.payloadSlot x)
  rw [hpayload.cq] at hshift
  have hseen : s.TailStroke (s.ownShifted x) (s.cq.lastStroke + 1) :=
    hshift.of_received (by rw [hcounted]) (by rw [hcounted]; rfl) (by rw [hcounted]) (by rw [hcounted])
      (s.countPayload_only x) (by decide)
  exact hseen.after (State.frameAdjust_eq _) (State.frameAdjust_only _) (by decide)

/-- Settles O51: the frame ahead by 1 takes its own shift at once, and that is a shift at the tail. -/
theorem leavingRecordIsDecidedAtTheTail : Obligations.LeavingRecordIsDecidedAtTheTail := by
  rintro e a n b x s u rfl hadmits hdst hhead htail hone
  have hahead : isAhead n s.cq.lastStroke = true := decide_eq_true ⟨by omega, by omega⟩
  refine ⟨_, exec_stroke_ahead hadmits hdst hhead hahead, ?_⟩
  rw [hone]
  have hrest := (s.observe e).strokeTaken_rest a.port (arrivedFrame a (.stroke n b x)) b
  have hport := (s.observe e).strokeTaken_port a.port (arrivedFrame a (.stroke n b x)) b .up
  have honly := (s.observe e).strokeTaken_only a.port (arrivedFrame a (.stroke n b x)) b
  have hframe := (s.observe e).consumed_frame a.port (arrivedFrame a (.stroke n b x))
  have hlink := hframe.linkIsUp .up
  have hcheck := hframe.check .up
  have hqueue := hframe.localQ .up
  generalize (s.observe e).strokeTaken a.port (arrivedFrame a (.stroke n b x)) b = v at hrest hport honly ⊢
  have hown := State.ownShift_tailStroke (s := v) (by rw [hrest]; exact hhead) (by rw [hrest]; exact htail) x
  have hnumber : v.cq.lastStroke + 1 = n := by
    rw [hrest]
    exact aheadBy_one hone
  rw [hnumber] at hown
  unfold State.linkIsUp at hlink
  rw [← hport] at hlink hcheck hqueue
  obtain ⟨hdecided, hchecked, hoffered⟩ := hown.of_received (u := s.observe e) (by rw [hrest]) hlink hcheck hqueue honly (by decide)
  exact ⟨hdecided, hchecked, hoffered⟩

end Sys2Proof.Machine
end

section
/-!
PROOFS. A TRIM that a station on line takes (O60): the step of τ within its clamp, its counts, and the frame past the router (R30, R125,
R154).
-/

namespace Sys2Proof.Machine

/-! ### A step of τ (R30, R125) -/

/-- R30, R125: the trim after a step. -/
def Tau.stepped (x : Tau) (step : TrimStep) : Int := clampInt (x.trim + trimStepValue step) (-32) 31

/-- R125: the counters of a step applied. -/
def trimStepCounters : List Counter := [.trimsApplied, .trimsClamped]

section
variable (s : State) (step : TrimStep)

theorem State.applyTrim_eq : s.applyTrim (trimStepValue step) =
    { s with
      tau := { s.tau with trim := s.tau.stepped step }, counters := (s.applyTrim (trimStepValue step)).counters } := by
  unfold State.applyTrim
  dsimp only
  split <;> rfl

theorem State.applyTrim_only : CountsOnly trimStepCounters s (s.applyTrim (trimStepValue step)) := by
  unfold State.applyTrim
  extract_lets v src t u
  have hu : CountsOnly trimStepCounters s u := CountsOnly.trans (.of_counters rfl) (State.count_only (by decide) t)
  split
  · exact hu.trans (State.count_only (by decide) u)
  · exact hu

/-- R125: a step is counted, and also where the clamp held it. -/
theorem State.applyTrim_counted :
    (s.applyTrim (trimStepValue step)).counter .trimsApplied = satAdd (s.counter .trimsApplied) 1 ∧
    (s.applyTrim (trimStepValue step)).counter .trimsClamped =
      satAdd (s.counter .trimsClamped) (if s.tau.stepped step = s.tau.trim then 1 else 0) := by
  unfold State.applyTrim
  extract_lets v src t u
  have happlied : u.counter .trimsApplied = satAdd (s.counter .trimsApplied) 1 := t.counter_count _
  have hclamped : u.counter .trimsClamped = s.counter .trimsClamped := t.counter_count_ne (by decide)
  split
  · rename_i hheld
    exact ⟨(u.counter_count_ne (by decide)).trans happlied,
      (u.counter_count _).trans (by rw [hclamped, if_pos (show s.tau.stepped step = s.tau.trim from hheld)])⟩
  · rename_i hmoved
    exact ⟨happlied, by rw [hclamped, if_neg (show ¬ s.tau.stepped step = s.tau.trim from hmoved), satAdd_zero]⟩

end

/-! ### A TRIM heard (R125) -/

/-- R125: the TRIMs between the last one taken and number `n`. -/
def Tau.missed (x : Tau) (n : Half) : Nat :=
  match x.lastTrim with
  | some last => if 2 ≤ aheadBy n last ∧ aheadBy n last ≤ 32767 then aheadBy n last - 1 else 0
  | none => 0

/-- R125: the number of a TRIM is taken, and those missed are counted. -/
def State.trimNumbered (s : State) (n : Half) : State :=
  { s with tau := { s.tau with lastTrim := some n }, counters := (s.countBy .trimsMissed (s.tau.missed n)).counters }

theorem State.countBy_zero (s : State) (c : Counter) : s.countBy c 0 = s := by
  unfold State.countBy
  rw [satAdd_zero, Vector.get_eq_getElem, Vector.set_getElem_self]

theorem State.hearTrim_eq (s : State) (step : TrimStep) (n : Half) :
    s.hearTrim step n = (s.trimNumbered n).applyTrim (trimStepValue step) := by
  unfold State.hearTrim State.trimNumbered Tau.missed
  refine congrArg (fun t : State => t.applyTrim (trimStepValue step)) ?_
  cases s.tau.lastTrim with
  | none => rw [State.countBy_zero]
  | some last =>
    dsimp only
    split
    · rfl
    · rw [State.countBy_zero]

section
variable (s : State) (step : TrimStep) (n : Half)

/-- R125: a TRIM heard changes τ and counters. -/
theorem State.hearTrim_rest : s.hearTrim step n =
    { s with
      tau := { s.tau with trim := s.tau.stepped step, lastTrim := some n }, counters := (s.hearTrim step n).counters } := by
  rw [State.hearTrim_eq]
  exact (s.trimNumbered n).applyTrim_eq step

theorem State.hearTrim_counted :
    (s.hearTrim step n).counter .trimsApplied = satAdd (s.counter .trimsApplied) 1 ∧
    (s.hearTrim step n).counter .trimsClamped =
      satAdd (s.counter .trimsClamped) (if s.tau.stepped step = s.tau.trim then 1 else 0) ∧
    (s.hearTrim step n).counter .trimsMissed = satAdd (s.counter .trimsMissed) (s.tau.missed n) := by
  obtain ⟨happlied, hclamped⟩ := (s.trimNumbered n).applyTrim_counted step
  have hother {c : Counter} (hc : Counter.trimsMissed ≠ c) : (s.trimNumbered n).counter c = s.counter c :=
    s.counter_countBy_ne _ _ _ hc
  rw [hother (by decide)] at happlied hclamped
  rw [State.hearTrim_eq]
  exact ⟨happlied, hclamped, ((s.trimNumbered n).applyTrim_only step _ (by decide)).trans (s.counter_countBy _ _)⟩

theorem State.hearTrim_port (p : Port) : (s.hearTrim step n).port p = s.port p := by
  rw [State.hearTrim_rest]
  cases p <;> rfl

end

/-! ### The command (R125, R154) -/

/-- R125: a TRIM has been heard at a port and its step taken, and it has gone on. -/
def State.trimmed (s : State) (p : Port) (step : TrimStep) (n : Half) (f : Frame) : State :=
  ((s.heard p).hearTrim step n).passOn p f

theorem exec_trim_eq {e : Env} {a : Arrival} {step : TrimStep} {n : Half} {s : State} (h : s.admits a (.trim step n) = true) :
    exec (.trim e a step n) s = .next ((s.observe e).trimmed a.port step n (arrivedFrame a (.trim step n))) :=
  congrArg Host.Outcome.next (State.frameArrives_copied (s := s.observe e) h rfl)

section
variable (s : State) (p : Port) (step : TrimStep) (n : Half) (f : Frame)

theorem State.trimmed_rest : s.trimmed p step n f = { s with
    tau := { s.tau with trim := s.tau.stepped step, lastTrim := some n }
    upPort := (s.trimmed p step n f).upPort, downPort := (s.trimmed p step n f).downPort
    ltr := (s.trimmed p step n f).ltr, counters := (s.trimmed p step n f).counters } := by
  have hheard := (s.heard_frame p).rest
  have hstep := (s.heard p).hearTrim_rest step n
  have hroute := (State.passOn_frame ((s.heard p).hearTrim step n) p f).rest
  unfold State.trimmed
  generalize (s.heard p).hearTrim step n = w at *
  generalize w.passOn p f = v at *
  generalize (s.heard p).upPort = up, (s.heard p).downPort = down, (s.heard p).ltr = trace, w.counters = counted at hheard hstep
  rw [hheard] at hstep
  rw [hstep] at hroute
  rw [hroute]

theorem State.trimmed_ports : s.PortsReceived (s.trimmed p step n f) p ∧
    ∀ q, ((s.trimmed p step n f).port q).localQ = (s.port q).localQ := by
  have hmicros : ((s.heard p).hearTrim step n).micros = s.micros := by
    rw [State.hearTrim_rest]
    exact (s.heard_tracesAs p).micros
  refine ⟨.of_copied hmicros fun q => ?_, fun q => ?_⟩
  · rw [State.hearTrim_port]
    rfl
  · refine ((State.passOn_frame _ p f).localQ q).trans ?_
    rw [State.hearTrim_port, (s.heard_frame p).localQ]

theorem State.trimmed_counted :
    (s.trimmed p step n f).counter .trimsApplied = satAdd (s.counter .trimsApplied) 1 ∧
    (s.trimmed p step n f).counter .trimsClamped =
      satAdd (s.counter .trimsClamped) (if s.tau.stepped step = s.tau.trim then 1 else 0) ∧
    (s.trimmed p step n f).counter .trimsMissed = satAdd (s.counter .trimsMissed) (s.tau.missed n) := by
  have hheard := s.heard_frame p
  have hroute := State.passOn_frame ((s.heard p).hearTrim step n) p f
  have htau : (s.heard p).tau = s.tau := by rw [hheard.rest]
  have hcounted := (s.heard p).hearTrim_counted step n
  rw [htau, hheard.counter, hheard.counter, hheard.counter] at hcounted
  unfold State.trimmed
  rwa [hroute.counter, hroute.counter, hroute.counter]

end

/-- Settles O60: the copy of the TRIM steps τ, and the frame goes on. -/
theorem trimMovesTheEfficiency : Obligations.TrimMovesTheEfficiency := by
  rintro e a step n s u rfl hadmits
  have hrest := (s.observe e).trimmed_rest a.port step n (arrivedFrame a (.trim step n))
  obtain ⟨hports, hqueues⟩ := (s.observe e).trimmed_ports a.port step n (arrivedFrame a (.trim step n))
  obtain ⟨happlied, hclamped, hmissed⟩ := (s.observe e).trimmed_counted a.port step n (arrivedFrame a (.trim step n))
  refine ⟨_, exec_trim_eq hadmits, ?_⟩
  generalize (s.observe e).trimmed a.port step n (arrivedFrame a (.trim step n)) = t at *
  have htau : t.tau = { s.tau with trim := s.tau.stepped step, lastTrim := some n } := by
    rw [hrest]
    rfl
  refine ⟨htau, happlied, ?_, hmissed, hports, fun p => (hqueues p).trans ?_, ?_⟩
  · rw [htau]
    exact hclamped
  · cases p <;> rfl
  · rw [htau]
    exact hrest

end Sys2Proof.Machine
end

section
/-!
PROOFS. The sample deadline (O39): the reading, the decision up to its log entry, and the trim window of a PASS with the TRIM that its
eighth error sends (R116 to R124).
-/

namespace Sys2Proof.Machine

/-! ### What a trim sample keeps (R122 to R124) -/

/-- What stays when the error of a PASS joins the trim window: of the Exit Unit all but the window and the TRIM number, the tail, and the
DOWN port. -/
structure State.TrimKept (s t : State) : Prop where
  exu : t.exu = { s.exu with window := t.exu.window, counter := t.exu.counter }
  tail : t.tail = s.tail
  downPort : t.downPort = s.downPort

theorem State.TrimKept.refl (s : State) : s.TrimKept s := ⟨rfl, rfl, rfl⟩

theorem State.TrimKept.trans {s t u : State} (h : s.TrimKept t) (k : t.TrimKept u) : s.TrimKept u where
  exu := k.exu.trans (by rw [h.exu])
  tail := k.tail.trans h.tail
  downPort := k.downPort.trans h.downPort

theorem State.count_trimKept (s : State) (c : Counter) : s.TrimKept (s.count c) := ⟨rfl, rfl, rfl⟩

/-- R158: an offer to the UP port leaves the DOWN port. -/
theorem State.offer_trimKept (s : State) (f : Frame) : s.TrimKept (s.offer .up f).state := by
  have hlink := s.offer_link .up f
  exact ⟨by rw [hlink.exu], hlink.tail, s.offer_other .up f⟩

theorem State.applyTrim_trimKept (s : State) (step : TrimStep) : s.TrimKept (s.applyTrim (trimStepValue step)) := by
  rw [State.applyTrim_eq]
  exact ⟨rfl, rfl, rfl⟩

/-! ### A TRIM sent (R124) -/

/-- R124: the next TRIM has its number. -/
def State.trimNumberTaken (s : State) : State := { s with exu := { s.exu with counter := s.exu.counter + 1 } }

/-- The TRIM frame of a step (R124, R189). -/
def State.trimFrameOf (s : State) (step : TrimStep) : Frame := s.frame dstAll (.trim step (s.exu.counter + 1))

/-- R124, R126: a step that goes is applied and counted by its direction. -/
def State.stepTaken (s : State) (step : TrimStep) : State :=
  (s.applyTrim (trimStepValue step)).count (trimSentCounter step)

section
variable (s : State) (step : TrimStep)

theorem State.sendTrim_of_single (h : s.isSingle = true) : s.sendTrim step = s.trimNumberTaken.stepTaken step := if_pos h

theorem State.sendTrim_of_longer (h : s.isSingle = false) : s.sendTrim step =
    if (s.trimNumberTaken.offer .up (s.trimFrameOf step)).taken then
      (s.trimNumberTaken.offer .up (s.trimFrameOf step)).state.stepTaken step
    else (s.trimNumberTaken.offer .up (s.trimFrameOf step)).state.count .trimsRefused :=
  if_neg (Bool.eq_false_iff.mp h)

theorem State.stepTaken_trimKept : s.TrimKept (s.stepTaken step) :=
  (s.applyTrim_trimKept step).trans (State.count_trimKept _ _)

/-- R125, R126: what a step applied leaves in τ and in its counters. -/
theorem State.stepTaken_items :
    (s.stepTaken step).tau = { s.tau with trim := s.tau.stepped step } ∧ (s.stepTaken step).exu = s.exu ∧
    (s.stepTaken step).upPort = s.upPort ∧
    (s.stepTaken step).counter .trimsApplied = satAdd (s.counter .trimsApplied) 1 ∧
    (s.stepTaken step).counter .trimsSentUp = satAdd (s.counter .trimsSentUp) (if step = .raise then 1 else 0) ∧
    (s.stepTaken step).counter .trimsSentDown = satAdd (s.counter .trimsSentDown) (if step = .lower then 1 else 0) := by
  obtain ⟨happlied, -⟩ := s.applyTrim_counted step
  have heq := s.applyTrim_eq step
  have honly := s.applyTrim_only step
  unfold State.stepTaken
  generalize s.applyTrim (trimStepValue step) = t at *
  have hup := honly .trimsSentUp (by decide)
  have hdown := honly .trimsSentDown (by decide)
  refine ⟨(congrArg State.tau heq :), (congrArg State.exu heq :), (congrArg State.upPort heq :), ?_, ?_⟩
  · exact (t.counter_count_ne (by cases step <;> decide)).trans happlied
  · rw [← hup, ← hdown]
    cases step with
    | raise => exact ⟨t.counter_count _, (t.counter_count_ne (by decide)).trans (satAdd_zero _).symm⟩
    | lower => exact ⟨(t.counter_count_ne (by decide)).trans (satAdd_zero _).symm, t.counter_count _⟩

end

/-- R124: what the tail's own step leaves: it is applied where the TRIM stays within the part or joins the local queue of the UP port,
and is only counted where the link is DOWN. -/
structure State.TrimSent (s t : State) (step : TrimStep) : Prop where
  number : t.exu.counter = s.exu.counter + 1
  applied : s.isSingle = true ∨ s.hasRoom .up = true → t.tau = { s.tau with trim := s.tau.stepped step } ∧
    t.counter .trimsApplied = satAdd (s.counter .trimsApplied) 1 ∧
    t.counter .trimsSentUp = satAdd (s.counter .trimsSentUp) (if step = .raise then 1 else 0) ∧
    t.counter .trimsSentDown = satAdd (s.counter .trimsSentDown) (if step = .lower then 1 else 0)
  within : s.isSingle = true → t.upPort = s.upPort
  joins : s.isSingle = false → s.hasRoom .up = true →
    t.upPort.localQ = s.joined .up 255 (.trim step (s.exu.counter + 1))
  refused : s.isSingle = false → s.linkIsUp .up = false → t.tau = s.tau ∧ t.upPort.localQ = s.upPort.localQ ∧
    t.counter .trimsRefused = satAdd (s.counter .trimsRefused) 1

/-- The counters of a TRIM sent (R126). -/
def trimSendCounters : List Counter := [.trimsSentUp, .trimsSentDown, .trimsRefused, .creditsRestored] ++ trimStepCounters

theorem State.stepTaken_only (s : State) (step : TrimStep) : CountsOnly trimSendCounters s (s.stepTaken step) :=
  ((s.applyTrim_only step).mono (by decide)).trans (State.count_only (by cases step <;> decide) _)

theorem State.sendTrim_only (s : State) (step : TrimStep) : CountsOnly trimSendCounters s (s.sendTrim step) := by
  have hoffer : CountsOnly trimSendCounters s (s.trimNumberTaken.offer .up (s.trimFrameOf step)).state :=
    CountsOnly.trans (.of_counters rfl) ((s.trimNumberTaken.offer_only .up (s.trimFrameOf step)).mono (by decide))
  cases hsingle : s.isSingle with
  | true =>
    rw [State.sendTrim_of_single s step hsingle]
    exact CountsOnly.trans (.of_counters rfl) (s.trimNumberTaken.stepTaken_only step)
  | false =>
    rw [State.sendTrim_of_longer s step hsingle]
    split
    · exact hoffer.trans (State.stepTaken_only _ step)
    · exact hoffer.trans (State.count_only (by decide) _)

theorem State.sendTrim_trimKept (s : State) (step : TrimStep) : s.TrimKept (s.sendTrim step) := by
  have hnumber : s.TrimKept s.trimNumberTaken := ⟨rfl, rfl, rfl⟩
  have hoffer := hnumber.trans (s.trimNumberTaken.offer_trimKept (s.trimFrameOf step))
  cases hsingle : s.isSingle with
  | true =>
    rw [State.sendTrim_of_single s step hsingle]
    exact hnumber.trans (s.trimNumberTaken.stepTaken_trimKept step)
  | false =>
    rw [State.sendTrim_of_longer s step hsingle]
    split
    · exact hoffer.trans (State.stepTaken_trimKept _ step)
    · exact hoffer.trans (State.count_trimKept _ _)

/-- R124: the number of a TRIM is taken whatever becomes of its frame. -/
theorem State.sendTrim_exu (s : State) (step : TrimStep) :
    (s.sendTrim step).exu = { s.exu with counter := s.exu.counter + 1 } := by
  have hstep (v : State) : (v.stepTaken step).exu = v.exu := by
    obtain ⟨-, hexu, -⟩ := v.stepTaken_items step
    exact hexu
  cases hsingle : s.isSingle with
  | true =>
    rw [State.sendTrim_of_single s step hsingle]
    exact hstep _
  | false =>
    have hoffer := (s.trimNumberTaken.offer_link .up (s.trimFrameOf step)).exu
    rw [State.sendTrim_of_longer s step hsingle]
    split
    · exact (hstep _).trans hoffer
    · exact hoffer

theorem State.sendTrim_sent (s : State) (step : TrimStep) : s.TrimSent (s.sendTrim step) step := by
  have hroomy (hsingle : s.isSingle = false) (hroom : s.hasRoom .up = true) : s.sendTrim step =
      (s.trimNumberTaken.takeLocal .up s.upPort.localQ (s.trimFrameOf step)).stepTaken step := by
    rw [State.sendTrim_of_longer s step hsingle, State.offer_of_hasRoom (s := s.trimNumberTaken) (p := .up) hroom]
    rfl
  have hclosed (hsingle : s.isSingle = false) (hdown : s.linkIsUp .up = false) : s.sendTrim step =
      (s.trimNumberTaken.refuseLocal .up (s.trimFrameOf step)).count .trimsRefused := by
    rw [State.sendTrim_of_longer s step hsingle, State.offer_of_linkDown (s := s.trimNumberTaken) (p := .up) hdown]
    rfl
  refine ⟨congrArg Exu.counter (s.sendTrim_exu step), fun happlied => ?_, fun hsingle => ?_, fun hsingle hroom => ?_,
    fun hsingle hdown => ?_⟩
  · cases hsingle : s.isSingle with
    | true =>
      obtain ⟨htau, -, -, hcounted⟩ := s.trimNumberTaken.stepTaken_items step
      rw [State.sendTrim_of_single s step hsingle]
      exact ⟨htau, hcounted⟩
    | false =>
      have hroom : s.hasRoom .up = true := happlied.resolve_left (by rw [hsingle]; decide)
      obtain ⟨htau, -, -, hcounted⟩ :=
        (s.trimNumberTaken.takeLocal .up s.upPort.localQ (s.trimFrameOf step)).stepTaken_items step
      rw [hroomy hsingle hroom]
      exact ⟨htau, hcounted⟩
  · obtain ⟨-, -, hport, -⟩ := s.trimNumberTaken.stepTaken_items step
    rw [State.sendTrim_of_single s step hsingle]
    exact hport
  · obtain ⟨-, -, hport, -⟩ :=
      (s.trimNumberTaken.takeLocal .up s.upPort.localQ (s.trimFrameOf step)).stepTaken_items step
    rw [hroomy hsingle hroom, hport]
    exact s.trimNumberTaken.takeLocal_localQ .up _ (s.trimFrameOf step)
  · rw [hclosed hsingle hdown]
    exact ⟨rfl, rfl, State.counter_count _ _⟩

/-- The counters that `TrimSent` reads. -/
def trimSentCounters : List Counter := [.trimsApplied, .trimsSentUp, .trimsSentDown, .trimsRefused]

/-- A TRIM sent after a change of the Exit Unit, the tail and other counters. -/
theorem State.TrimSent.of_prior {u s t : State} {step : TrimStep} {cs : List Counter} (h : s.TrimSent t step)
    (hrest : s = { u with exu := s.exu, tail := s.tail, counters := s.counters }) (hnumber : s.exu.counter = u.exu.counter)
    (honly : CountsOnly cs u s) (hcs : ∀ c ∈ trimSentCounters, c ∉ cs) : u.TrimSent t step := by
  have hsame (c : Counter) (hc : c ∈ trimSentCounters) : s.counter c = u.counter c := honly c (hcs c hc)
  obtain ⟨hcounter, happlied, hwithin, hjoins, hrefused⟩ := h
  rw [hnumber] at hcounter hjoins
  rw [hsame _ (by decide), hsame _ (by decide), hsame _ (by decide)] at happlied
  rw [hsame _ (by decide)] at hrefused
  generalize s.exu = x, s.tail = y, s.counters = counted at hrest
  subst hrest
  exact ⟨hcounter, happlied, hwithin, hjoins, hrefused⟩

/-- A TRIM sent before a change of the Exit Unit and other counters. -/
theorem State.TrimSent.after {s t v : State} {step : TrimStep} {cs : List Counter} (h : s.TrimSent t step)
    (hv : v = { t with exu := v.exu, counters := v.counters }) (hnumber : v.exu.counter = t.exu.counter)
    (honly : CountsOnly cs t v) (hcs : ∀ c ∈ trimSentCounters, c ∉ cs) : s.TrimSent v step := by
  have hsame (c : Counter) (hc : c ∈ trimSentCounters) : v.counter c = t.counter c := honly c (hcs c hc)
  obtain ⟨hcounter, happlied, hwithin, hjoins, hrefused⟩ := h
  rw [← hnumber] at hcounter
  rw [← hsame _ (by decide), ← hsame _ (by decide), ← hsame _ (by decide)] at happlied
  rw [← hsame _ (by decide)] at hrefused
  generalize v.exu = x, v.counters = counted at hv
  subst hv
  exact ⟨hcounter, happlied, hwithin, hjoins, hrefused⟩

/-! ### The trim window (R122, R123) -/

/-- R123: what the average of a full window calls for. -/
theorem windowStep_within {deadband : Nat} {es : List Int} (hlow : -(deadband : Int) ≤ Int.tdiv es.sum 8)
    (hhigh : Int.tdiv es.sum 8 ≤ deadband) : windowStep deadband es = none := by
  unfold windowStep
  dsimp only
  rw [if_neg (by omega), if_neg (by omega)]

theorem windowStep_outside {deadband : Nat} {es : List Int} {step : TrimStep}
    (h : step = .raise ∧ Int.tdiv es.sum 8 > deadband ∨ step = .lower ∧ Int.tdiv es.sum 8 < -(deadband : Int)) :
    windowStep deadband es = some step := by
  unfold windowStep
  dsimp only
  rcases h with ⟨rfl, hhigh⟩ | ⟨rfl, hlow⟩
  · rw [if_pos hhigh]
  · rw [if_neg (by omega), if_pos hlow]

/-- R123: what the eighth error of a window sends. -/
def State.windowJudged (s : State) (es : List Int) : State :=
  match windowStep s.img.trimDeadband es with
  | some step => s.sendTrim step
  | none => s

theorem State.windowJudged_trimKept (s : State) (es : List Int) : s.TrimKept (s.windowJudged es) := by
  unfold State.windowJudged
  split
  · exact s.sendTrim_trimKept _
  · exact .refl s

theorem State.windowJudged_only (s : State) (es : List Int) : CountsOnly trimSendCounters s (s.windowJudged es) := by
  unfold State.windowJudged
  split
  · exact s.sendTrim_only _
  · exact .refl s

theorem State.sampleTrim_of_short {s : State} (h : s.exu.window.length < 7) (error : Int) : s.sampleTrim error =
    { s.count .trimSamples with exu := { s.exu with window := s.exu.window ++ [error] } } := by
  unfold State.sampleTrim
  exact if_pos (by rw [List.length_append]; exact Nat.succ_lt_succ h)

theorem State.sampleTrim_of_full {s : State} (h : 7 ≤ s.exu.window.length) (error : Int) : s.sampleTrim error =
    (({ (s.count .trimSamples).windowJudged (s.exu.window ++ [error]) with
      exu := { ((s.count .trimSamples).windowJudged (s.exu.window ++ [error])).exu with window := [] } } : State).count
        .trimWindows) := by
  unfold State.sampleTrim
  exact if_neg (by rw [List.length_append]; exact Nat.not_lt.mpr (Nat.succ_le_succ h))

/-- The counters of a trim sample (R126). -/
def trimSampleCounters : List Counter := [.trimSamples, .trimWindows] ++ trimSendCounters

theorem State.sampleTrim_only (s : State) (error : Int) : CountsOnly trimSampleCounters s (s.sampleTrim error) := by
  have hsample : CountsOnly trimSampleCounters s (s.count .trimSamples) := State.count_only (by decide) s
  rcases Nat.lt_or_ge s.exu.window.length 7 with hshort | hfull
  · rw [State.sampleTrim_of_short hshort]
    exact hsample.trans (.of_counters rfl)
  · rw [State.sampleTrim_of_full hfull]
    exact (hsample.trans ((State.windowJudged_only _ _).mono (by decide))).trans
      (CountsOnly.trans (.of_counters rfl) (State.count_only (by decide) _))

theorem State.sampleTrim_trimKept (s : State) (error : Int) : s.TrimKept (s.sampleTrim error) := by
  rcases Nat.lt_or_ge s.exu.window.length 7 with hshort | hfull
  · rw [State.sampleTrim_of_short hshort]
    exact ⟨rfl, rfl, rfl⟩
  · have hjudged := (s.count_trimKept .trimSamples).trans
      ((s.count .trimSamples).windowJudged_trimKept (s.exu.window ++ [error]))
    rw [State.sampleTrim_of_full hfull]
    exact hjudged.trans ⟨rfl, rfl, rfl⟩

/-- R123: an average within the deadband sends nothing. -/
theorem State.sampleTrim_within {s : State} {error : Int} (hfull : 7 ≤ s.exu.window.length)
    (h : windowStep s.img.trimDeadband (s.exu.window ++ [error]) = none) :
    (s.sampleTrim error).tau = s.tau ∧ (s.sampleTrim error).exu.counter = s.exu.counter ∧
    (s.sampleTrim error).upPort = s.upPort := by
  have hjudged : (s.count .trimSamples).windowJudged (s.exu.window ++ [error]) = s.count .trimSamples := by
    unfold State.windowJudged
    rw [show windowStep (s.count .trimSamples).img.trimDeadband _ = none from h]
  rw [State.sampleTrim_of_full hfull, hjudged]
  exact ⟨rfl, rfl, rfl⟩

/-- R123: the eighth error empties the window and is counted. -/
theorem State.sampleTrim_full {s : State} (hfull : 7 ≤ s.exu.window.length) (error : Int) :
    (s.sampleTrim error).exu.window = [] ∧
    (s.sampleTrim error).counter .trimWindows = satAdd (s.counter .trimWindows) 1 := by
  have hjudged := (s.count .trimSamples).windowJudged_only (s.exu.window ++ [error]) .trimWindows (by decide)
  rw [State.sampleTrim_of_full hfull]
  exact ⟨rfl, (State.counter_count _ _).trans (congrArg (satAdd · 1) (hjudged.trans (s.counter_count_ne (by decide))))⟩

/-- R123, R124: an average outside the deadband sends its step. -/
theorem State.sampleTrim_sends {s : State} {error : Int} {step : TrimStep} (hfull : 7 ≤ s.exu.window.length)
    (h : windowStep s.img.trimDeadband (s.exu.window ++ [error]) = some step) : s.TrimSent (s.sampleTrim error) step := by
  have hjudged : (s.count .trimSamples).windowJudged (s.exu.window ++ [error]) = (s.count .trimSamples).sendTrim step := by
    unfold State.windowJudged
    rw [show windowStep (s.count .trimSamples).img.trimDeadband _ = some step from h]
  have hsent := ((s.count .trimSamples).sendTrim_sent step).of_prior (u := s) (cs := [.trimSamples]) rfl rfl
    (State.count_only List.mem_cons_self s) (by decide)
  rw [State.sampleTrim_of_full hfull, hjudged]
  exact hsent.after (cs := [.trimWindows]) rfl rfl
    (CountsOnly.trans (.of_counters rfl) (State.count_only List.mem_cons_self _)) (by decide)

theorem State.sampleTrim_short {s : State} (hshort : s.exu.window.length < 7) (error : Int) :
    (s.sampleTrim error).exu.window = s.exu.window ++ [error] ∧ (s.sampleTrim error).tau = s.tau ∧
    (s.sampleTrim error).upPort = s.upPort := by
  rw [State.sampleTrim_of_short hshort]
  exact ⟨rfl, rfl, rfl⟩

/-! ### The reading (R116) -/

/-- R116: the reading of the line has been taken, and its fault counted. -/
structure State.SampleTaken (s v : State) : Prop where
  rest : v = { s with exu := { s.exu with awaiting := none }, counters := v.counters }
  only : CountsOnly [.pyroInvalid, .pyroOutside] s v
  invalid : v.counter .pyroInvalid = satAdd (s.counter .pyroInvalid) (if s.pins.pyroValid then 0 else 1)

/-- R116: no billet awaits its sample. -/
def State.awaitingTaken (s : State) : State := { s with exu := { s.exu with awaiting := none } }

theorem State.takeSample_sound {s : State} {v : Option Nat} (h : s.sampleReading = (v, none)) (a : Awaiting) :
    s.takeSample a = s.awaitingTaken.gateEvent a.billet a.billet.reasons v := by
  unfold State.takeSample
  rw [h]
  rfl

theorem State.takeSample_faulty {s : State} {v : Option Nat} {c : Counter} (h : s.sampleReading = (v, some c)) (a : Awaiting) :
    s.takeSample a = (s.awaitingTaken.count c).gateEvent a.billet { a.billet.reasons with pyroOut := true } v := by
  unfold State.takeSample
  rw [h]
  rfl

theorem State.sampleReading_eq (s : State) : s.sampleReading =
    if s.pins.pyroValid then
      (some (min s.pins.pyro 1600),
        if s.img.pyroLow ≤ min s.pins.pyro 1600 ∧ min s.pins.pyro 1600 ≤ s.img.pyroHigh then none else some .pyroOutside)
    else (none, some .pyroInvalid) := by
  unfold State.sampleReading
  dsimp only
  split
  · split <;> rfl
  · rfl

/-- R116: the awaiting billet is decided with its reading, and with PYRO_OUT where the reading fails it. -/
theorem State.takeSample_decides {s : State} (a : Awaiting) {reading : Option Nat} {reasons : Reasons}
    (hreading : reading = if s.pins.pyroValid then some (min s.pins.pyro 1600) else none)
    (hreasons : reasons = if reading.any (fun v => decide (s.img.pyroLow ≤ v ∧ v ≤ s.img.pyroHigh)) then a.billet.reasons
      else { a.billet.reasons with pyroOut := true }) :
    ∃ v, s.SampleTaken v ∧ s.takeSample a = v.gateEvent a.billet reasons reading := by
  have heq := s.sampleReading_eq
  have hfault {c : Counter} (hc : c ∈ [Counter.pyroInvalid, .pyroOutside]) :
      CountsOnly [.pyroInvalid, .pyroOutside] s (s.awaitingTaken.count c) :=
    CountsOnly.trans (.of_counters rfl) (State.count_only hc s.awaitingTaken)
  cases hvalid : s.pins.pyroValid with
  | false =>
    rw [hvalid] at heq hreading
    subst hreading hreasons
    refine ⟨s.awaitingTaken.count .pyroInvalid, ⟨rfl, hfault (by decide), ?_⟩, State.takeSample_faulty heq a⟩
    rw [hvalid]
    exact s.awaitingTaken.counter_count _
  | true =>
    rw [hvalid, if_pos rfl] at heq hreading
    have hkept : s.counter .pyroInvalid = satAdd (s.counter .pyroInvalid) (if s.pins.pyroValid then 0 else 1) := by
      rw [hvalid]
      exact (satAdd_zero _).symm
    have hany : reading.any (fun v => decide (s.img.pyroLow ≤ v ∧ v ≤ s.img.pyroHigh)) =
        decide (s.img.pyroLow ≤ min s.pins.pyro 1600 ∧ min s.pins.pyro 1600 ≤ s.img.pyroHigh) := by rw [hreading]; rfl
    rw [hany] at hreasons
    rw [hreading]
    by_cases hinside : s.img.pyroLow ≤ min s.pins.pyro 1600 ∧ min s.pins.pyro 1600 ≤ s.img.pyroHigh
    · rw [if_pos (decide_eq_true hinside)] at hreasons
      rw [if_pos hinside] at heq
      rw [hreasons]
      exact ⟨s.awaitingTaken, ⟨rfl, .of_counters rfl, hkept⟩, State.takeSample_sound heq a⟩
    · rw [if_neg (by simpa using hinside)] at hreasons
      rw [if_neg hinside] at heq
      rw [hreasons]
      exact ⟨s.awaitingTaken.count .pyroOutside,
        ⟨rfl, hfault (by decide), (s.awaitingTaken.counter_count_ne (by decide)).trans hkept⟩, State.takeSample_faulty heq a⟩

/-! ### The decision up to the trim sample (R117 to R121) -/

/-- R118: the delivered pulse of a PASS. -/
theorem State.beforeLog_pulse {s : State} {x : Reasons} (h : x.pass = true) :
    (s.exu.pulse = .off →
      (s.beforeLog x).exu.pulse = .high (after s.now 100) ∧ (s.beforeLog x).exu.owed = s.exu.owed) ∧
    (s.exu.pulse ≠ .off → (s.beforeLog x).exu.pulse = s.exu.pulse ∧
      (s.beforeLog x).exu.owed = if s.exu.owed < 3 then s.exu.owed + 1 else s.exu.owed) := by
  have hmax : Config.pulsesOwedMax = 3 := rfl
  unfold State.beforeLog
  extract_lets src t
  have hexu : ((t.emitPulse.count .gatePass).countAll x.counters).exu = t.emitPulse.exu := by rw [State.countAll_eq]; rfl
  rw [if_pos h, hexu]
  unfold State.emitPulse
  refine ⟨fun hoff => ?_, fun hbusy => ?_⟩
  · rw [if_pos (show t.exu.pulse = .off from hoff)]
    exact ⟨rfl, rfl⟩
  · rw [if_neg (show ¬ t.exu.pulse = .off from hbusy), hmax]
    by_cases howed : s.exu.owed < 3
    · rw [if_pos (show t.exu.owed < 3 from howed), if_pos howed]
      exact ⟨rfl, rfl⟩
    · rw [if_neg (show ¬ t.exu.owed < 3 from howed), if_neg howed]
      exact ⟨rfl, rfl⟩

/-- R117: the verdict is counted. -/
theorem State.beforeLog_gate (s : State) (x : Reasons) :
    (s.beforeLog x).counter .gatePass = satAdd (s.counter .gatePass) (if x.pass then 1 else 0) ∧
    (s.beforeLog x).counter .gateReject = satAdd (s.counter .gateReject) (if x.pass then 0 else 1) := by
  have hreasons (t : State) {c : Counter} (hc : c ∉ reasonCounters) : (t.countAll x.counters).counter c = t.counter c :=
    State.countAll_only x.counters_subset t c hc
  cases hpass : x.pass with
  | false =>
    refine ⟨?_, State.beforeLog_gateReject hpass⟩
    unfold State.beforeLog
    extract_lets src t
    rw [if_neg (by simp [hpass]), hreasons _ (by decide), State.counter_count_ne _ (by decide)]
    exact (satAdd_zero _).symm
  | true =>
    unfold State.beforeLog
    extract_lets src t
    rw [if_pos hpass, hreasons _ (by decide), hreasons _ (by decide), State.counter_count,
      State.counter_count_ne _ (by decide), t.emitPulse_only _ (by decide), t.emitPulse_only _ (by decide)]
    exact ⟨rfl, (satAdd_zero _).symm⟩

/-- R121: an entry that a full log takes overwrites its oldest. -/
theorem State.appendLog_overwrites (s : State) (e : LogEntry) : (s.appendLog e).counter .exitLogOverwrites =
    satAdd (s.counter .exitLogOverwrites) (if s.exu.log.length < 64 then 0 else 1) := by
  have hcapacity : Config.exitLogCapacity = 64 := rfl
  unfold State.appendLog
  rw [hcapacity]
  by_cases hroom : s.exu.log.length < 64
  · rw [if_pos hroom, if_pos hroom, satAdd_zero]
    exact State.counter_count_ne _ (by decide)
  · rw [if_neg hroom, if_neg hroom]
    exact (State.counter_count _ _).trans (congrArg (satAdd · 1) (State.counter_count_ne _ (by decide)))

/-- R117, R120: the log entry of a decision, and the end of FILL by a PASS (R108). -/
def State.recorded (s : State) (b : Latched) (x : Reasons) (reading : Option Nat) : State :=
  if x.pass then (s.appendLog (logEntry s.now b x reading)).clearFill else s.appendLog (logEntry s.now b x reading)

section
variable (s : State) (b : Latched) (x : Reasons) (reading : Option Nat)

theorem State.recorded_eq : s.recorded b x reading =
    { s with
      exu := { s.exu with
        log := (if s.exu.log.length < 64 then s.exu.log else s.exu.log.drop 1) ++ [logEntry s.now b x reading] }
      tail := if x.pass then s.clearFill.tail else s.tail
      counters := (s.appendLog (logEntry s.now b x reading)).counters } := by
  have ht := s.appendLog_eq (logEntry s.now b x reading)
  unfold State.recorded
  generalize s.appendLog (logEntry s.now b x reading) = t at ht ⊢
  have hfill : t.clearFill.tail = s.clearFill.tail := by
    rw [State.clearFill_tail, State.clearFill_tail, ht]
    rfl
  split
  · rw [State.clearFill_eq, hfill]
    conv_lhs => rw [ht]
  · exact ht

theorem State.recorded_counters : (s.recorded b x reading).counters = (s.appendLog (logEntry s.now b x reading)).counters := by
  rw [State.recorded_eq]

theorem State.recordDecision_of_reject (h : x.pass = false) : s.recordDecision b x reading = s.recorded b x reading := by
  unfold State.recordDecision State.recorded
  rw [if_neg (by simp [h]), if_neg (by simp [h])]

/-- R122: the error of a PASS is sampled. -/
theorem State.recordDecision_of_pass (h : x.pass = true) (v : Nat) : s.recordDecision b x (some v) =
    (s.recorded b x (some v)).sampleTrim ((v : Int) - b.surface) := by
  unfold State.recordDecision State.recorded
  rw [if_pos h, if_pos h]

theorem State.recordDecision_kept : (s.recorded b x reading).TrimKept (s.recordDecision b x reading) ∧
    CountsOnly trimSampleCounters (s.recorded b x reading) (s.recordDecision b x reading) := by
  cases hpass : x.pass with
  | false =>
    rw [State.recordDecision_of_reject s b x reading hpass]
    exact ⟨.refl _, .refl _⟩
  | true =>
    cases reading with
    | none =>
      have hsame : s.recordDecision b x none = s.recorded b x none := by
        unfold State.recordDecision State.recorded
        simp only [hpass, if_true]
      rw [hsame]
      exact ⟨.refl _, .refl _⟩
    | some v =>
      rw [State.recordDecision_of_pass s b x hpass v]
      exact ⟨State.sampleTrim_trimKept _ _, State.sampleTrim_only _ _⟩

end

/-- The counters of a sample decided, up to its trim sample. -/
def sampleDecisionCounters : List Counter :=
  [.pyroInvalid, .pyroOutside, .exitLogEntries, .exitLogOverwrites] ++ decisionCounters

/-- R116 to R121: what the awaiting billet's decision leaves before its error is sampled. -/
structure State.SampleDecided (s w : State) (b : Latched) (x : Reasons) (reading : Option Nat) : Prop where
  rest : w = { s with
    exu := { s.exu with
      awaiting := none, gate := x.pass, pulse := w.exu.pulse, owed := w.exu.owed
      log := (if s.exu.log.length < 64 then s.exu.log else s.exu.log.drop 1) ++ [logEntry s.now b x reading] }
    tail := if x.pass then s.clearFill.tail else s.tail
    counters := w.counters }
  only : CountsOnly sampleDecisionCounters s w
  rejected : x.pass = false → w.exu.pulse = s.exu.pulse ∧ w.exu.owed = s.exu.owed
  emitted : x.pass = true → s.exu.pulse = .off → w.exu.pulse = .high (after s.now 100) ∧ w.exu.owed = s.exu.owed
  waits : x.pass = true → s.exu.pulse ≠ .off → w.exu.pulse = s.exu.pulse ∧
    w.exu.owed = if s.exu.owed < 3 then s.exu.owed + 1 else s.exu.owed
  entries : w.counter .exitLogEntries = satAdd (s.counter .exitLogEntries) 1
  overwrites : w.counter .exitLogOverwrites =
    satAdd (s.counter .exitLogOverwrites) (if s.exu.log.length < 64 then 0 else 1)
  passes : w.counter .gatePass = satAdd (s.counter .gatePass) (if x.pass then 1 else 0)
  rejects : w.counter .gateReject = satAdd (s.counter .gateReject) (if x.pass then 0 else 1)
  invalid : w.counter .pyroInvalid = satAdd (s.counter .pyroInvalid) (if s.pins.pyroValid then 0 else 1)

section
variable {s v : State} (h : s.SampleTaken v) (b : Latched) (x : Reasons) (reading : Option Nat)
include h

theorem State.SampleTaken.beforeLog_rest : v.beforeLog x = { s with
    exu := { s.exu with
      awaiting := none, gate := x.pass, pulse := (v.beforeLog x).exu.pulse, owed := (v.beforeLog x).exu.owed }
    counters := (v.beforeLog x).counters } := by
  have hbefore := v.beforeLog_eq x
  generalize v.beforeLog x = y at *
  rw [h.rest] at hbefore
  exact hbefore

theorem State.SampleTaken.decided_rest : (v.beforeLog x).recorded b x reading = { s with
    exu := { s.exu with
      awaiting := none, gate := x.pass, pulse := (v.beforeLog x).exu.pulse, owed := (v.beforeLog x).exu.owed
      log := (if s.exu.log.length < 64 then s.exu.log else s.exu.log.drop 1) ++ [logEntry s.now b x reading] }
    tail := if x.pass then s.clearFill.tail else s.tail
    counters := ((v.beforeLog x).recorded b x reading).counters } := by
  have hbefore := h.beforeLog_rest x
  have hrecorded := (v.beforeLog x).recorded_eq b x reading
  have hfill : (v.beforeLog x).clearFill.tail = s.clearFill.tail := by
    rw [State.clearFill_tail, State.clearFill_tail, hbefore]
    rfl
  have hcounters := (v.beforeLog x).recorded_counters b x reading
  rw [hfill] at hrecorded
  generalize (v.beforeLog x).recorded b x reading = w at *
  generalize v.beforeLog x = y at *
  rw [← hcounters] at hrecorded
  generalize y.exu.pulse = pulse, y.exu.owed = owed, y.counters = counted, w.counters = counted' at hbefore hrecorded ⊢
  rw [hrecorded, hbefore]
  rfl

/-- R121: the counters of the log entry, and no other, move after the verdict. -/
theorem State.SampleTaken.decided_counters : CountsOnly sampleDecisionCounters s ((v.beforeLog x).recorded b x reading) ∧
    CountsOnly [.exitLogEntries, .exitLogOverwrites] (v.beforeLog x) ((v.beforeLog x).recorded b x reading) ∧
    ((v.beforeLog x).recorded b x reading).counter .exitLogEntries = satAdd (s.counter .exitLogEntries) 1 ∧
    ((v.beforeLog x).recorded b x reading).counter .exitLogOverwrites =
      satAdd (s.counter .exitLogOverwrites) (if s.exu.log.length < 64 then 0 else 1) := by
  have hlog : (v.beforeLog x).exu.log = s.exu.log := by rw [h.beforeLog_rest]
  have hverdict : CountsOnly sampleDecisionCounters s (v.beforeLog x) :=
    (h.only.mono (by decide)).trans ((v.beforeLog_only x).mono (by decide))
  have hbefore {c : Counter} (hc : c ∉ [Counter.pyroInvalid, .pyroOutside]) (hc' : c ∉ decisionCounters) :
      (v.beforeLog x).counter c = s.counter c := (v.beforeLog_only x c hc').trans (h.only c hc)
  have hcounters := (v.beforeLog x).recorded_counters b x reading
  generalize (v.beforeLog x).recorded b x reading = w at *
  generalize v.beforeLog x = y at *
  have hcount (c : Counter) : w.counter c = (y.appendLog (logEntry y.now b x reading)).counter c := by
    unfold State.counter
    rw [hcounters]
  have hentry : CountsOnly [.exitLogEntries, .exitLogOverwrites] y w := fun c hc =>
    (hcount c).trans (y.appendLog_only _ c hc)
  refine ⟨hverdict.trans (hentry.mono (by decide)), hentry, ?_, ?_⟩
  · rw [hcount, State.appendLog_counter, hbefore (by decide) (by decide)]
  · rw [hcount, State.appendLog_overwrites, hlog, hbefore (by decide) (by decide)]

theorem State.SampleTaken.decided : s.SampleDecided ((v.beforeLog x).recorded b x reading) b x reading := by
  have hexu : v.exu = { s.exu with awaiting := none } := by rw [h.rest]
  have hnow : v.now = s.now := by rw [h.rest]; rfl
  have hrest := h.decided_rest b x reading
  obtain ⟨honly, hentry, hentries, hoverwrites⟩ := h.decided_counters b x reading
  obtain ⟨hpasses, hrejects⟩ := v.beforeLog_gate x
  have hrejected := State.beforeLog_exu_of_reject (s := v) (x := x)
  have hpulse := State.beforeLog_pulse (s := v) (x := x)
  have hinvalid : (v.beforeLog x).counter .pyroInvalid = v.counter .pyroInvalid := v.beforeLog_only x _ (by decide)
  rw [h.only _ (by decide)] at hpasses hrejects
  rw [h.invalid] at hinvalid
  rw [hexu] at hrejected hpulse
  rw [hnow] at hpulse
  generalize (v.beforeLog x).recorded b x reading = w at *
  generalize v.beforeLog x = y at *
  have hwpulse : w.exu.pulse = y.exu.pulse := by rw [hrest]
  have hwowed : w.exu.owed = y.exu.owed := by rw [hrest]
  rw [← hwpulse, ← hwowed] at hrest hpulse
  refine ⟨hrest, honly, fun hreject => ?_, fun hpass => (hpulse hpass).1, fun hpass => (hpulse hpass).2, hentries, hoverwrites,
    (hentry _ (by decide)).trans hpasses, (hentry _ (by decide)).trans hrejects, (hentry _ (by decide)).trans hinvalid⟩
  rw [hwpulse, hwowed, hrejected hreject]
  exact ⟨rfl, rfl⟩

end

/-! ### The command (R116) -/

theorem exec_sampleDeadlineExpiry_eq {e : Env} {s : State} {a : Awaiting} (h : s.exu.awaiting = some a)
    (hdue : reached (s.observe e).now a.deadline = true) :
    exec (.sampleDeadlineExpiry e) s = .next ((s.observe e).takeSample a) := by
  have hawaits : (s.observe e).sampleDue = some a := by
    unfold State.sampleDue
    rw [show (s.observe e).exu.awaiting = some a from h, Option.filter_some, if_pos hdue]
  show execSampleDeadlineExpiry e s = _
  simp only [execSampleDeadlineExpiry, hawaits]

/-- Nothing else differs over a decision that leaves the DOWN port. -/
theorem ExitFrame.eq {s t : State} (h : ExitFrame s t) (hdown : t.downPort = s.downPort) : t = { s with
    exu := t.exu, tail := t.tail, tau := { s.tau with trim := t.tau.trim }, upPort := s.upPort.offered t.upPort
    ltr := t.ltr, counters := t.counters, cru := { s.cru with loans := t.cru.loans } } := by
  have hup : s.upPort.offered t.upPort = t.upPort := h.upPort.symm
  rw [hup, ← h.cru, ← h.tau, ← h.head, ← h.micros, ← h.freeIndex, ← h.pins, ← h.ldu, ← h.cq, ← h.pdu, ← h.ivi, ← h.tracker,
    ← h.hlu, ← h.svi, ← h.pending, ← hdown]

/-- R116, R117: the decision of the awaiting billet, and the error of a PASS with a reading. -/
theorem State.takeSample_cases {s : State} (a : Awaiting) {reading : Option Nat} {reasons : Reasons}
    (hreading : reading = if s.pins.pyroValid then some (min s.pins.pyro 1600) else none)
    (hreasons : reasons = if reading.any (fun v => decide (s.img.pyroLow ≤ v ∧ v ≤ s.img.pyroHigh)) then a.billet.reasons
      else { a.billet.reasons with pyroOut := true }) :
    ∃ w, s.SampleDecided w a.billet reasons reading ∧ w.TrimKept (s.takeSample a) ∧
      CountsOnly trimSampleCounters w (s.takeSample a) ∧ (reasons.pass = false → s.takeSample a = w) ∧
      (reasons.pass = true → ∀ v, reading = some v → s.takeSample a = w.sampleTrim ((v : Int) - a.billet.surface)) := by
  obtain ⟨v, htaken, heq⟩ := State.takeSample_decides a hreading hreasons
  obtain ⟨hkept, honly⟩ := (v.beforeLog reasons).recordDecision_kept a.billet reasons reading
  rw [State.gateEvent_eq_recordDecision] at heq
  rw [heq]
  refine ⟨_, htaken.decided a.billet reasons reading, hkept, honly, State.recordDecision_of_reject _ _ _ _,
    fun hpass y hy => ?_⟩
  subst hy
  exact State.recordDecision_of_pass _ _ _ hpass y

/-! ### The trim sample of a decision, in the terms of the state before it (R122 to R124) -/

section
variable {s w : State} {b : Latched} {x : Reasons} {reading : Option Nat} (h : s.SampleDecided w b x reading)
include h

/-- A decision leaves what the trim sample reads. -/
theorem State.SampleDecided.keeps : w.exu.window = s.exu.window ∧ w.exu.counter = s.exu.counter ∧ w.tau = s.tau ∧
    w.upPort = s.upPort ∧ w.downPort = s.downPort ∧ w.img = s.img := by
  rw [h.rest]
  exact ⟨rfl, rfl, rfl, rfl, rfl, rfl⟩

/-- R122: a window with room takes the error. -/
theorem State.SampleDecided.short (hshort : s.exu.window.length < 7) (error : Int) :
    (w.sampleTrim error).exu.window = s.exu.window ++ [error] ∧ (w.sampleTrim error).tau = s.tau ∧
    (w.sampleTrim error).upPort = s.upPort := by
  obtain ⟨hwindow, -, htau, hup, -, -⟩ := h.keeps
  rw [← hwindow] at hshort
  have hjoined := State.sampleTrim_short hshort error
  rwa [hwindow, htau, hup] at hjoined

/-- R123: the eighth error empties the window. -/
theorem State.SampleDecided.full (hfull : 7 ≤ s.exu.window.length) (error : Int) :
    (w.sampleTrim error).exu.window = [] ∧
    (w.sampleTrim error).counter .trimWindows = satAdd (s.counter .trimWindows) 1 := by
  obtain ⟨hwindow, -⟩ := h.keeps
  rw [← hwindow] at hfull
  have hemptied := State.sampleTrim_full hfull error
  rwa [h.only _ (by decide)] at hemptied

/-- R123: an average within the deadband. -/
theorem State.SampleDecided.within (hfull : 7 ≤ s.exu.window.length) {error : Int}
    (hlow : -(s.img.trimDeadband : Int) ≤ Int.tdiv (s.exu.window ++ [error]).sum 8)
    (hhigh : Int.tdiv (s.exu.window ++ [error]).sum 8 ≤ s.img.trimDeadband) :
    (w.sampleTrim error).tau = s.tau ∧ (w.sampleTrim error).exu.counter = s.exu.counter ∧
    (w.sampleTrim error).upPort = s.upPort := by
  obtain ⟨hwindow, hnumber, htau, hup, -, himg⟩ := h.keeps
  have hnone := windowStep_within hlow hhigh
  rw [← hwindow] at hfull hnone
  rw [← himg] at hnone
  have hsame := State.sampleTrim_within hfull hnone
  rwa [htau, hnumber, hup] at hsame

/-- R124: an average outside the deadband. -/
theorem State.SampleDecided.sends (hfull : 7 ≤ s.exu.window.length) {error : Int} {step : TrimStep}
    (hstep : step = .raise ∧ Int.tdiv (s.exu.window ++ [error]).sum 8 > s.img.trimDeadband ∨
      step = .lower ∧ Int.tdiv (s.exu.window ++ [error]).sum 8 < -(s.img.trimDeadband : Int)) :
    s.TrimSent (w.sampleTrim error) step := by
  obtain ⟨hwindow, hnumber, -, -, -, himg⟩ := h.keeps
  have hsome := windowStep_outside hstep
  rw [← hwindow] at hfull hsome
  rw [← himg] at hsome
  exact (State.sampleTrim_sends hfull hsome).of_prior (cs := sampleDecisionCounters) (by rw [h.rest]) hnumber h.only (by decide)

end

/-- Settles O39: the decision and its log entry, and then the trim sample of a PASS. -/
theorem sampleDecidesTheAwaitingBillet : Obligations.SampleDecidesTheAwaitingBillet := by
  rintro e s u a reading reasons rfl hawaits hdue hreading hreasons
  refine ⟨_, exec_sampleDeadlineExpiry_eq hawaits hdue, ?_⟩
  have hframe := (s.observe e).takeSample_exit a
  obtain ⟨w, hdecided, hkept, honly, hreject, hpass⟩ :=
    State.takeSample_cases (s := s.observe e) a hreading hreasons
  generalize (s.observe e).takeSample a = t at *
  obtain ⟨hwindow, -, htau, hup, hdown, -⟩ := hdecided.keeps
  have hwexu := congrArg State.exu hdecided.rest
  have hwtail : w.tail = if reasons.pass then (s.observe e).clearFill.tail else s.tail :=
    (congrArg State.tail hdecided.rest :)
  have hexu := hkept.exu
  have hpulse : t.exu.pulse = w.exu.pulse := by rw [hexu]
  have howed : t.exu.owed = w.exu.owed := by rw [hexu]
  refine ⟨by rw [hexu, hwexu], by rw [hexu, hwexu], ?_, (honly _ (by decide)).trans hdecided.entries,
    (honly _ (by decide)).trans hdecided.overwrites, (honly _ (by decide)).trans hdecided.passes,
    (honly _ (by decide)).trans hdecided.rejects, (honly _ (by decide)).trans hdecided.invalid, fun hx => ?_,
    fun hx hoff => ?_, fun hx hbusy => ?_, fun hx => ?_, fun hx hshort v hv => ?_, fun hx hfull v avg hv havg => ?_,
    hframe.eq (hkept.downPort.trans hdown)⟩
  · rw [hexu, hwexu]
    rfl
  · rw [hpulse, howed, hreject hx, hwtail, hx]
    obtain ⟨hstays, howes⟩ := hdecided.rejected hx
    exact ⟨hstays, howes, hwindow, rfl, htau, hup⟩
  · rw [hpulse, howed]
    exact hdecided.emitted hx hoff
  · rw [hpulse, howed]
    exact hdecided.waits hx hbusy
  · rw [hkept.tail, hwtail, hx]
    exact (s.observe e).clearFill_tail
  · rw [hpass hx v hv]
    exact hdecided.short hshort _
  · obtain ⟨hempty, hwindows⟩ := hdecided.full hfull ((v : Int) - a.billet.surface)
    subst havg
    rw [hpass hx v hv]
    refine ⟨hempty, hwindows, hdecided.within hfull, fun step hstep => ?_⟩
    obtain ⟨hnumber, happlied, hwithin, hjoins, hrefused⟩ := hdecided.sends hfull hstep
    exact ⟨hnumber, happlied, hwithin, hjoins, hrefused⟩

end Sys2Proof.Machine
end

section
/-!
PROOFS. What the invariant of the hold cause list reads (R128), the list it asks for, and the operations of the Hold Unit that
change it: causes raised, removed, heard, cleared and expired.
-/

namespace Sys2Proof.Machine

/-! ### The list at a station (R128) -/

/-- R128: a hold cause list as it may stand at the station of an origin byte. -/
structure ListSound (origin : Byte) (es : List HoldEntry) : Prop where
  length : es.length ≤ 16
  distinct : es.Pairwise (fun a b => a.cause ≠ b.cause ∨ a.origin ≠ b.origin)
  own : ∀ e ∈ es, e.own = true ↔ e.origin = origin

theorem State.holdListOk_iff (s : State) : s.HoldListOk ↔
    ListSound s.originByte s.hlu.entries ∧ (s.onLine = false → s.hlu.entries = []) :=
  ⟨fun ⟨hlength, hdistinct, hown, hoff⟩ => ⟨⟨hlength, hdistinct, hown⟩, hoff⟩,
    fun ⟨⟨hlength, hdistinct, hown⟩, hoff⟩ => ⟨hlength, hdistinct, hown, hoff⟩⟩

theorem ListSound.nil (origin : Byte) : ListSound origin [] := ⟨Nat.zero_le _, .nil, by simp⟩

theorem ListSound.sublist {origin : Byte} {es fs : List HoldEntry} (h : ListSound origin es) (hsub : fs.Sublist es) :
    ListSound origin fs :=
  ⟨hsub.length_le.trans h.length, h.distinct.sublist hsub, fun e he => h.own e (hsub.subset he)⟩

/-- R134: refreshed entries keep what the invariant reads of them. -/
theorem ListSound.map {origin : Byte} {es : List HoldEntry} (h : ListSound origin es) {f : HoldEntry → HoldEntry}
    (hcause : ∀ e, (f e).cause = e.cause) (horigin : ∀ e, (f e).origin = e.origin) (hown : ∀ e, (f e).own = e.own) :
    ListSound origin (es.map f) := by
  refine ⟨by rw [List.length_map]; exact h.length, List.pairwise_map.mpr (h.distinct.imp fun hab => ?_), fun e he => ?_⟩
  · rw [hcause, hcause, horigin, horigin]
    exact hab
  · obtain ⟨x, hx, rfl⟩ := List.mem_map.mp he
    rw [hown, horigin]
    exact h.own x hx

/-- R130, R134: an entry joins a list with room that holds none of its cause and origin. -/
theorem ListSound.append {origin : Byte} {es : List HoldEntry} (h : ListSound origin es) (hroom : es.length < 16) {x : HoldEntry}
    (hnew : ∀ e ∈ es, e.cause ≠ x.cause ∨ e.origin ≠ x.origin) (hown : x.own = true ↔ x.origin = origin) :
    ListSound origin (es ++ [x]) := by
  refine ⟨by rw [List.length_append]; exact hroom,
    List.pairwise_append.mpr ⟨h.distinct, List.pairwise_singleton _ _, ?_⟩, ?_⟩
  · exact fun a ha b hb => List.mem_singleton.mp hb ▸ hnew a ha
  · intro e he
    rcases List.mem_append.mp he with hold | hjoined
    · exact h.own e hold
    · rw [List.mem_singleton.mp hjoined]
      exact hown

/-- R128: there are six causes. -/
theorem cause_mem_all (c : Cause) :
    c ∈ [Cause.pressIdle, .linkLossUp, .linkLossDown, .estop, .inverterFault, .pusherFault] := by cases c <;> decide

/-- R128, R130: own entries differ in their causes, so that a full list holds a heard one. -/
theorem ListSound.exists_heard {origin : Byte} {es : List HoldEntry} (h : ListSound origin es) (hfull : 16 ≤ es.length) :
    ∃ e ∈ es, e.own = false := by
  by_contra hnone
  have hall : ∀ e ∈ es, e.origin = origin := fun e he =>
    (h.own e he).mp (Bool.not_eq_false _ ▸ fun hf => hnone ⟨e, he, hf⟩)
  have hcauses : (es.map HoldEntry.cause).Nodup :=
    List.pairwise_map.mpr (h.distinct.imp_of_mem fun ha hb hab =>
      hab.resolve_right fun hne => hne ((hall _ ha).trans (hall _ hb).symm))
  have hsix := (hcauses.subperm fun c _ => cause_mem_all c).length_le
  rw [List.length_map] at hsix
  exact absurd (hfull.trans hsix) (by decide)

/-- R130: among heard entries there is one that none exceeds in age. -/
theorem exists_oldestHeard (now : Time) {es : List HoldEntry} (h : ∃ e ∈ es, e.own = false) :
    ∃ x ∈ es, x.own = false ∧ ∀ y ∈ es, y.own = false → y.age now ≤ x.age now := by
  obtain ⟨e, he, hheard⟩ := h
  have hmem {y : HoldEntry} (hy : y ∈ es) (hown : y.own = false) : y ∈ es.filter (! ·.own) :=
    List.mem_filter.mpr ⟨hy, by rw [hown]; rfl⟩
  obtain ⟨x, hx⟩ := Option.isSome_iff_exists.mp (Option.ne_none_iff_isSome.mp
    (mt List.argmax_eq_none.mp (List.ne_nil_of_mem (hmem he hheard)) : (es.filter (! ·.own)).argmax (HoldEntry.age now) ≠ none))
  obtain ⟨hxes, hxheard⟩ := List.mem_filter.mp (List.argmax_mem hx)
  exact ⟨x, hxes, by simpa using hxheard, fun y hy hown => List.le_of_mem_argmax (hmem hy hown) hx⟩

/-- R130: an eviction takes one heard entry away. -/
theorem length_evictOldest (now : Time) {es : List HoldEntry} (h : ∃ e ∈ es, e.own = false) :
    (evictOldest now es).length = es.length - 1 := by
  obtain ⟨x, hx, hheard, holdest⟩ := exists_oldestHeard now h
  unfold evictOldest
  refine List.length_eraseP_of_mem hx ?_
  rw [hheard, oldestHeard_eq hx hheard holdest, beq_self_eq_true]
  rfl

/-- R130: room is made, and every entry that stays was in the list. -/
theorem State.makeRoom_sound {s : State} {origin : Byte} (h : ListSound origin s.hlu.entries) :
    s.makeRoom.hlu.entries.length < 16 ∧ s.makeRoom.hlu.entries.Sublist s.hlu.entries := by
  by_cases hroom : s.hlu.entries.length < 16
  · rw [State.makeRoom_of_room hroom]
    exact ⟨hroom, .refl _⟩
  · have hfull := Nat.not_lt.mp hroom
    have hlength := length_evictOldest s.now (h.exists_heard hfull)
    have hmost := h.length
    rw [State.makeRoom_of_full hfull]
    exact ⟨by rw [State.count_hlu]; dsimp only; omega, List.eraseP_sublist⟩

/-! ### What the invariant reads -/

/-- All that the invariant of the list reads is the same in both states, but for entries that may have left the list. -/
structure SameHolds (s t : State) : Prop where
  entries : t.hlu.entries.Sublist s.hlu.entries
  position : t.ldu.position = s.ldu.position
  onLine : t.onLine = s.onLine

/-- The invariant passes from one state to the other, and a station on line stays there. -/
structure KeepsHolds (s t : State) : Prop where
  sound : s.HoldListOk → t.HoldListOk
  onLine : s.onLine = true → t.onLine = true

@[refl] theorem KeepsHolds.refl (s : State) : KeepsHolds s s := ⟨id, id⟩

@[trans] theorem KeepsHolds.trans {s t u : State} (h : KeepsHolds s t) (k : KeepsHolds t u) : KeepsHolds s u :=
  ⟨fun x => k.sound (h.sound x), fun x => k.onLine (h.onLine x)⟩

/-- A choice between two events. -/
theorem KeepsHolds.ite {s t u : State} {p : Prop} [Decidable p] (ht : p → KeepsHolds s t) (hu : ¬p → KeepsHolds s u) :
    KeepsHolds s (if p then t else u) := by
  split
  · exact ht ‹_›
  · exact hu ‹_›

/-- An event that acts under a condition alone. -/
theorem KeepsHolds.whenever {s t : State} {p : Prop} [Decidable p] (h : p → KeepsHolds s t) :
    KeepsHolds s (if p then t else s) := .ite h (fun _ => .refl s)

theorem SameHolds.originByte {s t : State} (h : SameHolds s t) : t.originByte = s.originByte := by
  unfold State.originByte State.pos
  rw [h.position]

theorem SameHolds.keeps {s t : State} (h : SameHolds s t) : KeepsHolds s t := by
  refine ⟨fun hs => ?_, h.onLine.trans⟩
  obtain ⟨hsound, hoff⟩ := s.holdListOk_iff.mp hs
  refine t.holdListOk_iff.mpr ⟨?_, fun ht => ?_⟩
  · rw [h.originByte]
    exact hsound.sublist h.entries
  · exact List.sublist_nil.mp (hoff (h.onLine.symm.trans ht) ▸ h.entries)

theorem SameHolds.of_eq {s t : State} (hlu : t.hlu = s.hlu) (ldu : t.ldu = s.ldu) : SameHolds s t :=
  ⟨by rw [hlu], by rw [ldu], by unfold State.onLine; rw [ldu]⟩

theorem SamePower.holds {s t : State} (h : SamePower s t) : KeepsHolds s t :=
  SameHolds.keeps ⟨by rw [h.entries], h.position, h.onLine⟩

theorem LinkFrame.holds {s t : State} (h : LinkFrame s t) : KeepsHolds s t := SameHolds.keeps (.of_eq h.hlu h.ldu)

theorem State.PeriodFrame.holds {s t : State} (h : s.PeriodFrame t) : KeepsHolds s t := SameHolds.keeps (.of_eq h.hlu h.ldu)

/-- An empty list is sound at any station. -/
theorem State.holdListOk_of_nil {s : State} (h : s.hlu.entries = []) : s.HoldListOk :=
  s.holdListOk_iff.mpr ⟨h ▸ ListSound.nil _, fun _ => h⟩

/-- R128: a station off line holds no entry, so that it may change its place and its state. -/
theorem KeepsHolds.of_offLine {s t : State} (hs : s.onLine = false) (entries : t.hlu.entries = s.hlu.entries) : KeepsHolds s t :=
  ⟨fun ⟨_, _, _, hoff⟩ => State.holdListOk_of_nil (entries.trans (hoff hs)),
    fun hon => absurd (hs.symm.trans hon) Bool.false_ne_true⟩

/-- R128: a station that goes on line starts with an empty list. -/
theorem KeepsHolds.of_fresh {s t : State} (hs : s.onLine = false) (entries : t.hlu.entries = []) : KeepsHolds s t :=
  ⟨fun _ => State.holdListOk_of_nil entries, fun hon => absurd (hs.symm.trans hon) Bool.false_ne_true⟩

/-! ### The mode and own causes (R129 to R133) -/

theorem State.deriveMode_holds (s : State) : KeepsHolds s s.deriveMode :=
  SameHolds.keeps ⟨by rw [State.deriveMode_hlu], s.deriveMode_place.position, s.deriveMode_place.onLine⟩

/-- R130: a raised cause joins the list of a station on line, a new one in the room that is made for it. -/
theorem State.raiseOwn_holds {s : State} (hon : s.onLine = true) (c : Cause) : KeepsHolds s (s.raiseOwn c) := by
  have hplace := s.raiseOwn_place c
  refine ⟨fun hs => ?_, hplace.onLine.trans⟩
  obtain ⟨hsound, -⟩ := s.holdListOk_iff.mp hs
  refine (State.holdListOk_iff _).mpr ⟨?_, fun hoff => absurd (hoff.symm.trans (hplace.onLine.trans hon)) Bool.false_ne_true⟩
  have horigin : (s.raiseOwn c).originByte = s.originByte := by unfold State.originByte; rw [hplace.pos]
  rw [horigin]
  cases hnew : s.hlu.hasOwn c with
  | true =>
    rw [State.raiseOwn_old hnew]
    exact hsound
  | false =>
    obtain ⟨hroom, hsub⟩ := State.makeRoom_sound hsound
    rw [s.raiseOwn_entries c hnew]
    refine (hsound.sublist hsub).append hroom (fun e he => ?_) (iff_of_true rfl rfl)
    by_contra hsame
    obtain ⟨hcause, hown⟩ := not_or.mp hsame
    have hstands : s.hlu.hasOwn c = true := List.any_eq_true.mpr ⟨e, hsub.subset he, by
      rw [(hsound.own e (hsub.subset he)).mpr (not_not.mp hown), not_not.mp hcause, beq_self_eq_true]
      rfl⟩
    exact absurd (hnew.symm.trans hstands) Bool.false_ne_true

theorem State.removeListed_holds (s : State) (w : Cause → Bool) (es : List HoldEntry) : KeepsHolds s (s.removeListed w es) := by
  obtain ⟨hplace, -⟩ := s.removeListed_place w es
  exact SameHolds.keeps ⟨by rw [s.removeListed_entries]; exact List.filter_sublist, hplace.position, hplace.onLine⟩

theorem State.removeOwn_holds (s : State) (c : Cause) : KeepsHolds s (s.removeOwn c) := by
  rw [← State.removeListed_single]
  exact s.removeListed_holds _ _

/-- R129: an own cause is raised and the mode follows. -/
theorem State.raiseDerive_holds {s : State} (hon : s.onLine = true) (c : Cause) : KeepsHolds s (s.raiseOwn c).deriveMode :=
  (State.raiseOwn_holds hon c).trans (State.deriveMode_holds _)

/-- R62, R63: a trip edge on line. -/
theorem State.tripEdge_holds {s : State} (hon : s.onLine = true) (c : Cause) (k : Counter) :
    KeepsHolds s ((s.tripInverter.raiseOwn c).count k).deriveMode := by
  have htrip : KeepsHolds s s.tripInverter := by
    rw [State.tripInverter_eq]
    exact SameHolds.keeps (.of_eq rfl rfl)
  exact ((htrip.trans (State.raiseOwn_holds (htrip.onLine hon) c)).trans (State.count_link _ k).holds).trans
    (State.deriveMode_holds _)

theorem State.resetTrip_holds (s : State) : KeepsHolds s s.resetTrip :=
  ((s.countTripReset_power.trans (State.resetPusher_power _)).holds.trans (State.removeListed_holds _ _ _)).trans
    (State.deriveMode_holds _)

theorem State.pusherTimesOut_holds {s : State} (hon : s.onLine = true) : KeepsHolds s s.pusherTimesOut := by
  have hcount : KeepsHolds s (s.pusherFaultedHead.count .pusherTimeouts) := SameHolds.keeps (.of_eq rfl rfl)
  exact hcount.trans (State.raiseDerive_holds (hcount.onLine hon) _)

theorem State.pressIdles_holds {s : State} (hon : s.onLine = true) : KeepsHolds s s.pressIdles := by
  have hcount : KeepsHolds s (s.withoutPressIdle.count .pressIdleHolds) := SameHolds.keeps (.of_eq rfl rfl)
  exact hcount.trans (State.raiseDerive_holds (hcount.onLine hon) _)

theorem State.takePressCall_holds (s : State) : KeepsHolds s s.takePressCall := by
  have hidle : KeepsHolds s s.idleEnded := by
    unfold State.idleEnded
    exact .ite (fun _ => ((s.count_link _).holds.trans (State.removeOwn_holds _ _)).trans (State.deriveMode_holds _))
      (fun _ => (s.count_link _).holds)
  obtain ⟨hhlu, hldu, -⟩ := s.takePressCall_after
  exact hidle.trans (SameHolds.keeps (.of_eq hhlu hldu))

/-! ### Causes of the line (R134 to R137) -/

theorem State.dropHeard_holds (s : State) (c : Cause) (origin : Byte) : KeepsHolds s (s.dropHeard c origin) :=
  SameHolds.keeps ⟨List.filter_sublist, rfl, rfl⟩

/-- R137: a heard entry expires, and the mode follows. -/
theorem State.expireHeard_holds (s : State) (c : Cause) (origin : Byte) :
    KeepsHolds s ((s.dropHeard c origin).count .holdExpiries).deriveMode :=
  ((s.dropHeard_holds c origin).trans (State.count_link _ _).holds).trans (State.deriveMode_holds _)

/-- A list that a station on line takes, sound at its origin byte. -/
theorem State.setHlu_holds {s : State} (hon : s.onLine = true) {x : Hlu}
    (h : ListSound s.originByte s.hlu.entries → ListSound s.originByte x.entries) : KeepsHolds s { s with hlu := x } :=
  ⟨fun hs => (State.holdListOk_iff _).mpr
    ⟨h (s.holdListOk_iff.mp hs).1, fun hoff => absurd (hoff.symm.trans hon) Bool.false_ne_true⟩, id⟩

/-- R134: a HOLD that a station on line takes refreshes an entry, joins a list with room, or leaves the list. -/
theorem State.hearHold_holds {s : State} (hon : s.onLine = true) (code origin : Byte) : KeepsHolds s (s.hearHold code origin) := by
  unfold State.hearHold
  extract_lets t
  have ht : KeepsHolds s t := (s.count_link _).holds
  have hcount (k : Counter) : KeepsHolds s (t.count k) := ht.trans (t.count_link k).holds
  split
  · exact hcount _
  · rename_i c _
    refine .ite (fun _ => hcount _) fun hother => .ite (fun _ => ?_) fun hnew => .ite (fun hroom => ?_) fun _ => ?_
    · refine (ht.trans (State.setHlu_holds (s := t) hon fun h => h.map ?_ ?_ ?_)).trans (State.deriveMode_holds _) <;>
        (intro e; split <;> rfl)
    · refine (ht.trans (State.setHlu_holds (s := t) hon fun h => h.append hroom (fun e he => ?_) ?_)).trans
        (State.deriveMode_holds _)
      · by_contra hsame
        obtain ⟨hcause, horigin⟩ := not_or.mp hsame
        exact hnew (List.any_eq_true.mpr ⟨e, he, by rw [not_not.mp hcause, not_not.mp horigin]; simp⟩)
      · exact iff_of_false Bool.false_ne_true hother
    · exact (hcount _).trans (State.deriveMode_holds _)

/-- R136: a CLEAR deletes the heard entry it names, or leaves the list. -/
theorem State.hearClear_holds (s : State) (code origin : Byte) : KeepsHolds s (s.hearClear code origin) := by
  unfold State.hearClear
  extract_lets t
  have ht : KeepsHolds s t := (s.count_link _).holds
  have hcount (k : Counter) : KeepsHolds s (t.count k) := ht.trans (t.count_link k).holds
  split
  · exact hcount _
  · exact .ite (fun _ => hcount _) fun _ =>
      .ite (fun _ => (ht.trans (t.dropHeard_holds _ _)).trans (State.deriveMode_holds _)) fun _ => hcount _

end Sys2Proof.Machine
end

section
/-!
PROOFS. The rest of the part's operations keep the hold cause list sound (R128): the credits, line discovery, the link ports and the
service port; and from these the step (O9).
-/

namespace Sys2Proof.Machine

/-! ### The credits (R71 to R79) -/

theorem State.setCru_holds (s : State) (x : Cru) : KeepsHolds s { s with cru := x } := SameHolds.keeps (.of_eq rfl rfl)

theorem State.keepWithinCredits_holds (s : State) : KeepsHolds s s.keepWithinCredits := by
  rw [State.keepWithinCredits_eq]
  exact SameHolds.keeps (.of_eq rfl rfl)

theorem State.answerCanvass_holds (s : State) (origin : Byte) (n want : Half) : KeepsHolds s (s.answerCanvass origin n want) := by
  unfold State.answerCanvass
  refine .ite (fun _ => (s.count_power _).holds) fun _ => ?_
  extract_lets ans t r src src2 u
  have hr : KeepsHolds s r.state := ((s.count_power _).trans (t.offer_power _ _)).holds
  exact .ite (fun _ => (hr.trans (r.state.setCru_holds _)).trans (u.countBy_power _ _).holds)
    (fun _ => hr.trans (State.count_power _ _).holds)

theorem State.takeLend_holds (s : State) (lender : Byte) (c : Canvass) (amount : Nat) :
    KeepsHolds s (s.takeLend lender c amount) := by
  unfold State.takeLend
  extract_lets total src t u excess r src2 src3 v
  have hu : KeepsHolds s u := (s.setCru_holds _).trans (t.countBy_power _ _).holds
  have hr : KeepsHolds s r.state := hu.trans (u.offer_power _ _).holds
  have hreturned (y : State) (n : Nat) : KeepsHolds y (y.countReturned n) := SameHolds.keeps (.of_eq rfl rfl)
  have hunreturned (y : State) (n : Nat) : KeepsHolds y (y.countUnreturned n) := SameHolds.keeps (.of_eq rfl rfl)
  refine .ite (fun _ => .ite (fun _ => ?_) fun _ => hr.trans (hunreturned _ _)) (fun _ => hu)
  exact ((hr.trans (r.state.setCru_holds _)).trans (hreturned v _)).trans (State.keepWithinCredits_holds _)

theorem State.takeReply_holds (s : State) (lender : Byte) (n : Half) (k : ReplyKind) (amount : Nat) :
    KeepsHolds s (s.takeReply lender n k amount) := by
  have hmatch (c : Canvass) : KeepsHolds s (s.matchReply lender c k amount) := by
    unfold State.matchReply
    cases k with
    | conflict => exact (s.setCru_holds _).trans (State.count_power _ _).holds
    | decline => exact s.setCru_holds _
    | lend => exact s.takeLend_holds _ _ _
  unfold State.takeReply
  split
  · exact .ite (fun _ => (hmatch _).trans (State.closeIfAnswered_power _).holds) (fun _ => (s.lateReply_power _ _ _ _).holds)
  · exact (s.lateReply_power _ _ _ _).holds

/-! ### Going on line (R170, R172) -/

theorem State.settlePort_holds {s : State} (hon : s.onLine = true) (p : Port) : KeepsHolds s (s.settlePort p) :=
  .whenever fun _ => .ite (fun _ => (s.setCheck_power _ _ _).holds) (fun _ => State.raiseOwn_holds hon _)

theorem State.settleOtherPort_holds {s : State} (hon : s.onLine = true) (p : Port) : KeepsHolds s (s.settleOtherPort p) :=
  .whenever fun _ =>
    have hcheck := (s.setCheck_power p .pending none).holds
    hcheck.trans (State.raiseOwn_holds (hcheck.onLine hon) _)

theorem State.raiseTrips_holds {s : State} (hon : s.onLine = true) : KeepsHolds s s.raiseTrips := by
  have hraise {t : State} (ht : t.onLine = true) (b : Bool) (c : Cause) (k : Counter) :
      KeepsHolds t (if b then (t.raiseOwn c).count k else t) :=
    .whenever fun _ => (State.raiseOwn_holds ht c).trans (State.count_power _ k).holds
  have hestop := hraise hon s.pins.estop .estop .estopTrips
  exact hestop.trans (hraise (hestop.onLine hon) _ _ _)

theorem State.openLine_holds {s : State} (hon : s.onLine = true) : KeepsHolds s s.openLine := by
  have hmode : KeepsHolds s (s.enterMode (modeOf s.hlu.entries)) :=
    SameHolds.keeps ⟨.refl _, rfl, (modeOf_online _).trans hon.symm⟩
  have hlatch (t : State) : KeepsHolds t t.latchSetpoint := SameHolds.keeps (.of_eq rfl rfl)
  exact (hmode.trans (hlatch _)).trans (State.preview_power _).holds

/-- R170: discovery starts with an empty list, and raises what stands at the ports and the lines. -/
theorem State.discover_holds {s : State} (hs : s.onLine = false) (p : Fin 16) (n : Nat) : KeepsHolds s (s.discover p n) := by
  unfold State.discover
  extract_lets t u
  have hpool : SamePower (s.createUnits p n) (s.createUnits p n).headTakesPool :=
    .ite (fun _ => ⟨rfl, Nat.zero_le _⟩) (fun _ => .refl _)
  have ht : SamePower (s.createUnits p n) t := hpool.trans (.ite (fun _ => State.setTail_power _ _) (fun _ => .refl _))
  have hu : SamePower (s.createUnits p n) u := ht.trans ⟨rfl, Nat.le_refl _⟩
  have hon : u.onLine = true := hu.onLine.trans rfl
  have hup := State.settlePort_holds hon .up
  have hports := hup.trans (State.settlePort_holds (hup.onLine hon) .down)
  have htrips := hports.trans (State.raiseTrips_holds (hports.onLine hon))
  have hopen := htrips.trans (State.openLine_holds (htrips.onLine hon))
  exact (KeepsHolds.of_fresh hs (by rw [hu.entries]; rfl)).trans (hopen.trans (State.count_power _ _).holds)

/-- R172: a rejoin starts with an empty list, and raises what stands at the other port and the lines. -/
theorem State.rejoin_holds {s : State} (hs : s.onLine = false) (p : Port) (q : Fin 16) (h : Hello) :
    KeepsHolds s (s.rejoin p q h) := by
  unfold State.rejoin
  obtain ⟨next, tail, heq, -⟩ := (s.createUnits q h.n.toNat).rejoinEnds_eq h
  rw [heq]
  extract_lets src t u v w
  have hv : v.onLine = true := rfl
  have hcheck := (v.setCheck_power p .passed none).holds
  have hports := hcheck.trans (State.settleOtherPort_holds (hcheck.onLine hv) p.other)
  have htrips := hports.trans (State.raiseTrips_holds (hports.onLine hv))
  have hw : KeepsHolds v w := htrips.trans (State.openLine_holds (htrips.onLine hv))
  have hstarted : KeepsHolds w (if w.hasNeighbour p.other && w.linkIsUp p.other then w.startCheck p.other else w) :=
    .whenever fun _ => (w.startCheck_power _).holds
  have hended (x : State) : SamePower x (x.count .rejoins).nextFree := (x.count_power _).trans (State.nextFree_power _)
  exact (KeepsHolds.of_fresh hs rfl).trans ((hw.trans hstarted).trans (hended _).holds)

/-! ### Line discovery (R165 to R173) -/

theorem State.discoverOrBudget_holds {s : State} (hs : s.onLine = false) (n : Nat) : KeepsHolds s (s.discoverOrBudget n) := by
  unfold State.discoverOrBudget
  extract_lets src t
  have ht : KeepsHolds s t := .of_offLine hs rfl
  exact .ite (fun _ => .of_offLine hs rfl) (fun _ => ht.trans (State.discover_holds (s := t) hs _ _))

theorem State.headPos_holds {s : State} (hs : s.onLine = false) : KeepsHolds s s.headPos :=
  .of_offLine hs (s.offerCountTaken_power _ _ _).entries

theorem State.headDecision_holds {s : State} (hs : s.onLine = false) : KeepsHolds s s.headDecision := by
  unfold State.headDecision State.becomeHead
  refine .whenever fun _ => ?_
  extract_lets src t
  have ht : KeepsHolds s t := .of_offLine hs rfl
  exact .ite (fun _ => ht.trans (State.headPos_holds (s := t) hs)) (fun _ => ht.trans (State.discoverOrBudget_holds (s := t) hs _))

theorem State.acceptCount_holds {s : State} (hs : s.onLine = false) (n : Nat) (b : Bool) : KeepsHolds s (s.acceptCount n b) :=
  .ite (fun _ => State.discoverOrBudget_holds hs n) (fun _ => .of_offLine hs rfl)

theorem State.takeCount_holds (s : State) (n : Nat) (b : Bool) : KeepsHolds s (s.takeCount n b) :=
  .ite (fun h => State.acceptCount_holds (State.onLine_of_discover h.1) n b) (fun _ => (s.count_power _).holds)

theorem State.takePlace_holds {s : State} (hs : s.onLine = false) (q : Fin 16) (recipe : Half) (version : Byte) (b : Bool) :
    KeepsHolds s (s.takePlace q recipe version b) := by
  unfold State.takePlace
  extract_lets src t n src2 u
  have ht : KeepsHolds s t := .of_offLine hs rfl
  have hu : KeepsHolds s u := .of_offLine hs rfl
  have hc : SamePower u (u.offerCount n b) := u.offer_power _ _
  exact .ite (fun _ => ht.trans (t.offerCountTaken_power _ _ _).holds)
    (fun _ => (hu.trans hc.holds).trans (State.acceptCount_holds (hc.onLine.trans hs) _ _))

theorem State.takePos_holds (s : State) (q : Byte) (recipe : Half) (version : Byte) (b : Bool) :
    KeepsHolds s (s.takePos q recipe version b) := by
  unfold State.takePos State.discoverPos
  split
  · rename_i hd
    have hs := State.onLine_of_discover hd
    split
    · exact State.takePlace_holds hs _ _ _ _
    · exact .of_offLine hs rfl
  refine .ite (fun _ => .ite (fun _ => ((s.offer_power _ _).trans (State.count_power _ _)).holds)
    (fun _ => (s.count_power _).holds)) (fun _ => ?_)
  split
  · exact (s.offer_power _ _).holds
  · exact (s.count_power _).holds

theorem State.passCheck_holds (s : State) (p : Port) (h : Hello) : KeepsHolds s (s.passCheck p h) := by
  unfold State.passCheck
  extract_lets t
  have ht : SamePower s t := (s.setCheck_power _ _ _).trans (State.count_power _ _)
  exact ((ht.trans (t.catchUps_power _)).holds.trans (State.removeOwn_holds _ _)).trans (State.deriveMode_holds _)

theorem State.hearAnswerOnLine_holds (s : State) (p : Port) (h : Hello) : KeepsHolds s (s.hearAnswerOnLine p h) :=
  .ite (fun _ => .ite (fun _ => s.passCheck_holds p h) (fun _ => ((s.setCheck_power _ _ _).trans (State.count_power _ _)).holds))
    (fun _ => (s.count_power _).holds)

theorem State.hearAnswerDiscover_holds {s : State} (hs : s.onLine = false) (p : Port) (h : Hello) :
    KeepsHolds s (s.hearAnswerDiscover p h) := by
  unfold State.hearAnswerDiscover
  split
  · extract_lets src t
    have ht : KeepsHolds s t := .of_offLine hs rfl
    split
    · exact .ite (fun _ => .of_offLine hs rfl) (fun _ => ht.trans (State.rejoin_holds (s := t) hs _ _ _))
    · exact ht.trans (t.count_power _).holds
  · exact (s.count_power _).holds

theorem State.takeHello_holds (s : State) (p : Port) (h : Hello) : KeepsHolds s (s.takeHello p h) :=
  .ite (fun _ => (((s.offer_power _ _).trans (State.count_power _ _)).trans (State.nextFree_power _)).holds) fun _ =>
    .ite (fun _ => s.hearAnswerOnLine_holds p h) fun _ =>
      .ite (fun hd => State.hearAnswerDiscover_holds (State.onLine_of_discover hd) p h) (fun _ => (s.count_power _).holds)

theorem State.settled_holds {s : State} (hs : s.onLine = false) : KeepsHolds s s.settled := by
  unfold State.settled
  extract_lets src t
  have ht : KeepsHolds s t := .of_offLine hs rfl
  exact ht.trans (State.headDecision_holds (s := t) hs)

/-! ### The link ports (R145 to R160) -/

theorem State.unitsLinkDown_holds (s : State) (p : Port) : KeepsHolds s (s.unitsLinkDown p) := by
  unfold State.unitsLinkDown
  extract_lets t
  have ht : KeepsHolds s t := (s.setCheck_power _ _ _).holds
  exact ht.trans (.ite (fun hon => .whenever fun _ => State.raiseDerive_holds hon _)
    (fun hoff => .whenever fun _ => State.headDecision_holds (Bool.eq_false_iff.mpr hoff)))

/-- R128, R154: a frame that reaches a unit; HOLD reaches the Hold Unit on line alone. -/
theorem State.unitTakes_holds (s : State) (p : Port) (f : Frame)
    (h : s.onLine = true ∨ frameKind f = .pos ∨ frameKind f = .count ∨ frameKind f = .hello) :
    KeepsHolds s (s.unitTakes p f) := by
  unfold State.unitTakes
  unfold frameKind at h
  split
  · rename_i hf
    rw [hf] at h
    exact State.hearHold_holds (by simpa [payloadKind] using h) _ _
  · exact s.hearClear_holds _ _
  · exact (s.takeStroke_power _ _ _).holds
  · exact .whenever fun _ => (s.takeCall_power _ _).holds
  · exact s.takePos_holds _ _ _ _
  · exact s.takeCount_holds _ _
  · exact s.takeHello_holds _ _
  · exact s.answerCanvass_holds _ _ _
  · exact s.takeReply_holds _ _ _ _
  · exact (s.takeReturn_power _).holds
  · exact (s.hearTrim_power _ _).holds

theorem State.route_holds (s : State) (p : Port) (f : Frame) : KeepsHolds s (s.route p f) := by
  unfold State.route
  split
  · rename_i hc
    have htraced (t : State) : SamePower t (t.traceAction p .consumed (viewOfFrame f)) := t.offerTrace_power _
    have ht := ((s.portCount_power p .framesConsumed).trans (htraced _)).trans (State.endReceive_power _ p)
    exact ht.holds.trans (State.unitTakes_holds _ p f ((State.disposition_reaches (.inl hc)).imp_left ht.onLine.trans))
  · rename_i hc
    have ht := s.portCount_power p .framesConsumed
    exact (ht.holds.trans (State.unitTakes_holds _ p f ((State.disposition_reaches (.inr hc)).imp_left ht.onLine.trans))).trans
      ((State.carry_power _ _ _ _).trans (State.endReceive_power _ _)).holds
  · exact ((s.carry_power _ _ _).trans (State.endReceive_power _ _)).holds
  · exact (((s.portCount_power _ _).trans (State.offerTrace_power _ _)).trans (State.endReceive_power _ _)).holds

theorem State.receiveFrame_holds (s : State) (p : Port) (f : Frame) : KeepsHolds s (s.receiveFrame p f) :=
  .ite (fun _ => (s.portCount_power _ _).holds.trans (State.route_holds _ _ _)) (fun _ => (s.dropReceived_power _ _ _ _).holds)

theorem State.linkGoesDown_holds (s : State) (p : Port) (c : PortCounter) : KeepsHolds s (s.linkGoesDown p c) := by
  have hdiscard (fs : List (Frame × Bool)) (t : State) : SamePower t (t.discardAll p fs) := by
    induction fs generalizing t with
    | nil => exact .refl t
    | cons f rest ih =>
      refine SamePower.trans ?_ (ih (t.discard p f))
      exact ((t.portCount_power _ _).trans (State.offerTrace_power _ _)).trans
        (.ite (fun _ => State.countBy_power _ _ _) (fun _ => .refl _))
  have hassembly (t : State) : SamePower t (t.dropAssembly p) := by
    unfold State.dropAssembly
    split
    · exact t.endReceive_power p
    · exact .refl t
  exact ((((s.portCount_power p c).trans (hdiscard _ _)).trans (hassembly _)).trans (State.setPort_power _ p _)).holds.trans
    (State.unitsLinkDown_holds _ p)

theorem State.completeFrame_holds (s : State) (p : Port) (got : List Byte) : KeepsHolds s (s.completeFrame p got) := by
  unfold State.completeFrame
  extract_lets t body
  have ht : SamePower s t := s.setReceiver_power _ _
  have hdrop (c : PortCounter) (k : ErrorKind) : KeepsHolds s (t.dropReceived p c k (viewOfBytes got)) :=
    (ht.trans (t.dropReceived_power _ _ _ _)).holds
  split
  · split
    · exact hdrop _ _
    · split
      · exact .ite (fun _ => ht.holds.trans (t.receiveFrame_holds _ _)) (fun _ => hdrop _ _)
      · exact hdrop _ _
  · exact hdrop _ _

theorem State.receiverTakes_holds (s : State) (p : Port) (c : CharSort) : KeepsHolds s (s.receiverTakes p c) := by
  have hcollect (got : List Byte) (b : Byte) : KeepsHolds s (s.collect p got b) := by
    unfold State.collect
    extract_lets got'
    split
    · exact .ite (fun _ => (s.dropOpen_power _ _ _ _).holds) fun _ =>
        .ite (fun _ => s.completeFrame_holds _ _) (fun _ => (s.setReceiver_power _ _).holds)
    · exact (s.setReceiver_power _ _).holds
  unfold State.receiverTakes
  split
  · exact (s.dropOpen_power _ _ _ _).holds
  · exact .refl s
  · exact ((s.dropOpen_power _ _ _ _).trans (State.setReceiver_power _ _ _)).holds
  · exact (s.setReceiver_power _ _).holds
  · exact hcollect _ _
  · exact (s.portCount_power _ _).holds
  · exact (s.dropOpen_power _ _ _ _).holds
  · exact .refl s

theorem State.errorChar_holds (s : State) (p : Port) : KeepsHolds s (s.errorChar p) := by
  unfold State.errorChar
  extract_lets t u n src v
  have ht : KeepsHolds s t := (s.portCount_power _ _).holds
  split
  · have hv : KeepsHolds s v := (ht.trans (t.receiverTakes_holds _ _)).trans (u.setPort_power _ _).holds
    exact .ite (fun _ => hv.trans (v.linkGoesDown_holds _ _)) (fun _ => hv)
  · exact ht.trans (t.setPort_power _ _).holds

theorem State.validChar_holds (s : State) (p : Port) (c : CharSort) : KeepsHolds s (s.validChar p c) := by
  unfold State.validChar
  split
  · exact (s.setPort_power p _).holds.trans (State.receiverTakes_holds _ _ _)
  · unfold State.validWhileDown
    extract_lets t n
    have ht : KeepsHolds s t := (s.noteStray_link p c).holds
    exact ht.trans (.ite (fun _ => .refl t) fun _ =>
      .ite (fun _ => (t.linkComesUp_power p).holds) (fun _ => (t.setPort_power _ _).holds))

theorem State.receiveChar_holds (s : State) (p : Port) (c : RawChar) : KeepsHolds s (s.receiveChar p c) := by
  unfold State.receiveChar
  split
  · exact s.errorChar_holds p
  · exact s.validChar_holds _ _
  · exact s.validChar_holds _ _
  · exact s.validChar_holds _ _

theorem State.frameArrives_holds (s : State) (a : Arrival) (x : Payload) : KeepsHolds s (s.frameArrives a x) :=
  .whenever fun _ => ((s.setPort_power _ _).trans (State.setReceiver_power _ _ _)).holds.trans (State.receiveFrame_holds _ _ _)

/-! ### The service port (R182 to R187) -/

/-- A command of the service port keeps the list sound in the states that take it. -/
def Service.KeepsHolds (c : Service) : Prop :=
  ∀ (s : State) (payload : List Byte), c.takenIn s = true → Machine.KeepsHolds s (c.run s payload).state

/-- A command that changes neither the list nor line discovery. -/
theorem Service.keepsHolds_of_eq {c : Service} (h : ∀ s payload, (c.run s payload).state.hlu = s.hlu ∧
    (c.run s payload).state.ldu = s.ldu) : c.KeepsHolds :=
  fun s payload _ =>
    have ⟨hhlu, hldu⟩ := h s payload
    SameHolds.keeps (.of_eq hhlu hldu)

theorem loadImageService_holds : loadImageService.KeepsHolds := by
  intro s payload htaken
  have hs : s.onLine = false := by
    simp only [loadImageService, Bool.or_eq_true, beq_iff_eq] at htaken
    unfold State.onLine
    rcases htaken with h | h <;> rw [h] <;> rfl
  unfold loadImageService
  dsimp only
  split <;> exact .of_offLine hs rfl

theorem startService_holds : startService.KeepsHolds := by
  intro s payload htaken
  have hs : s.onLine = false := State.onLine_of_state htaken rfl
  have hwaits (x : Ldu) : KeepsHolds s { s with ldu := x } := .of_offLine hs rfl
  exact (hwaits _).trans (State.sendHellos_power _).holds

/-- R183, R190: every command byte names a command that keeps the list sound. -/
theorem serviceOf_holds {code : Byte} {c : Service} (h : serviceOf code = some c) : c.KeepsHolds := by
  unfold serviceOf at h
  split at h <;> cases h
  · exact Service.keepsHolds_of_eq fun _ _ => ⟨rfl, rfl⟩
  · exact loadImageService_holds
  · exact startService_holds
  · exact Service.keepsHolds_of_eq fun _ _ => ⟨rfl, rfl⟩
  · exact Service.keepsHolds_of_eq fun _ _ => ⟨rfl, rfl⟩
  · refine Service.keepsHolds_of_eq fun _ _ => ?_
    unfold readExitLogService
    dsimp only
    split <;> exact ⟨rfl, rfl⟩
  · refine Service.keepsHolds_of_eq fun _ _ => ?_
    unfold readCountersService
    dsimp only
    split <;> exact ⟨rfl, rfl⟩
  · exact Service.keepsHolds_of_eq fun _ _ => ⟨rfl, rfl⟩
  · exact Service.keepsHolds_of_eq fun _ _ => ⟨rfl, rfl⟩
  · refine Service.keepsHolds_of_eq fun _ _ => ?_
    unfold traceSetupService
    dsimp only
    split <;> exact ⟨rfl, rfl⟩
  · exact Service.keepsHolds_of_eq fun _ _ => ⟨rfl, rfl⟩
  · exact Service.keepsHolds_of_eq fun _ _ => ⟨rfl, rfl⟩
  · refine Service.keepsHolds_of_eq fun _ _ => ?_
    unfold readTraceService
    dsimp only
    split <;> exact ⟨rfl, rfl⟩

theorem State.takeRequest_holds (s : State) (code : Byte) {svc : Option Service} (h : ∀ c, svc = some c → c.KeepsHolds)
    (r : Request) : KeepsHolds s (s.takeRequest code svc r) := by
  have hrespond (a : Answer) : KeepsHolds a.state (State.respond a) :=
    KeepsHolds.trans (.ite (fun _ => .refl _) (fun _ => (State.count_power _ _).holds)) (State.setSvcReceiver_power _ _).holds
  have hanswer (t : State) : KeepsHolds t (t.answerRequest code svc r).state := by
    unfold State.answerRequest
    split
    · exact .refl t
    split
    · exact .refl t
    · split
      · exact .refl t
      split
      · exact .refl t
      · rename_i htaken
        exact h _ rfl t r.payload (by simpa using htaken)
  exact ((s.count_power _).holds.trans (hanswer _)).trans (hrespond _)

theorem State.requestArrives_holds (s : State) (code : Byte) {svc : Option Service} (h : ∀ c, svc = some c → c.KeepsHolds)
    (r : Request) : KeepsHolds s (s.requestArrives code svc r) := by
  have htake : KeepsHolds s (if 1024 < r.payload.length then s.abandonRequest else s.takeRequest code svc r) :=
    .ite (fun _ => s.abandonRequest_power.holds) (fun _ => s.takeRequest_holds code h r)
  unfold State.requestArrives
  split
  · exact (s.countBy_power _ _).holds
  · exact htake
  · exact htake

theorem State.serviceByte_holds (s : State) (b : Byte) : KeepsHolds s (s.serviceByte b) := by
  have hhunt (t : State) : KeepsHolds t (t.huntByte b) :=
    .ite (fun _ => (t.setSvcReceiver_power _).holds) (fun _ => (t.count_power _).holds)
  unfold State.serviceByte State.collectByte
  split
  · exact hhunt s
  · exact .ite (fun _ => s.abandonRequest_power.holds.trans (hhunt _)) fun _ =>
      .ite (fun _ => (s.setSvcReceiver_power _).holds) fun _ => .ite (fun _ => s.abandonRequest_power.holds) fun _ =>
        .ite (fun _ => (s.setSvcReceiver_power _).holds) fun _ => s.takeRequest_holds _ (fun _ => serviceOf_holds) _
  · exact (s.count_power _).holds

/-! ### Every command -/

theorem State.observe_holds (s : State) (e : Env) : KeepsHolds s (s.observe e) := SameHolds.keeps (.of_eq rfl rfl)

theorem State.setPins_holds (s : State) (x : Pins) : KeepsHolds s { s with pins := x } := SameHolds.keeps (.of_eq rfl rfl)

/-- An event that acts under a condition alone, once its time has passed. -/
theorem KeepsHolds.observeIte {s : State} {e : Env} {t : State} {p : Prop} [Decidable p] (h : p → KeepsHolds (s.observe e) t) :
    KeepsHolds s (if p then t else s.observe e) := (s.observe_holds e).trans (.whenever h)

/-- R61 to R64: a plant line takes its level, and may act. -/
theorem KeepsHolds.line {s t : State} {e : Env} {x : Pins} {p : Prop} [Decidable p]
    (h : p → KeepsHolds { s.observe e with pins := x } t) :
    KeepsHolds s (if p then t else { s.observe e with pins := x }) :=
  ((s.observe_holds e).trans (State.setPins_holds _ x)).trans (.whenever h)

theorem execPushed_holds (e : Env) (s : State) : ∃ t, execPushed e s = .next t ∧ KeepsHolds s t :=
  ⟨_, rfl, (s.observe_holds e).trans
    (.ite (fun _ => (State.takePushed_power _).holds) (fun _ => (State.count_power _ _).holds))⟩

theorem execSampleDeadlineExpiry_holds (e : Env) (s : State) :
    ∃ t, execSampleDeadlineExpiry e s = .next t ∧ KeepsHolds s t := by
  refine ⟨_, rfl, (s.observe_holds e).trans ?_⟩
  split
  · exact (State.takeSample_power _ _).holds
  · exact .refl _

theorem execCanvassDeadlineExpiry_holds (e : Env) (s : State) :
    ∃ t, execCanvassDeadlineExpiry e s = .next t ∧ KeepsHolds s t := by
  refine ⟨_, rfl, (s.observe_holds e).trans ?_⟩
  split
  · exact (State.closeCanvass_power _ _ _).holds
  · exact .refl _

theorem execLinkUp_holds (e : Env) (p : Port) (s : State) : ∃ t, execLinkUp e p s = .next t ∧ KeepsHolds s t :=
  ⟨_, rfl, (s.observe_holds e).trans (.ite (fun _ => .refl _) (fun _ => (State.linkComesUp_power _ _).holds))⟩

/-- Every command but a reset keeps the list sound, and a station on line there. -/
theorem exec_keepsHolds (c : Instr) (s : State) (hc : ∀ e, c ≠ .powerOn e ∧ c ≠ .resetPin e) :
    ∃ t, exec c s = .next t ∧ KeepsHolds s t := by
  have request (e : Env) (code code' : Byte) {svc : Service} (r : Request) (h : serviceOf code' = some svc) :
      KeepsHolds s ((s.observe e).requestArrives code (some svc) r) :=
    (s.observe_holds e).trans (State.requestArrives_holds _ _ (fun _ hc => serviceOf_holds (h.trans hc)) r)
  have frame (e : Env) (a : Arrival) (x : Payload) : KeepsHolds s ((s.observe e).frameArrives a x) :=
    (s.observe_holds e).trans (State.frameArrives_holds _ a x)
  have waits (t : State) (x : Cru) : KeepsHolds t { t with cru := x } := t.setCru_holds x
  cases c with
  | powerOn e => exact absurd rfl (hc e).1
  | resetPin e => exact absurd rfl (hc e).2
  | identify e r => exact ⟨_, rfl, request e _ 1 r rfl⟩
  | loadImage e r => exact ⟨_, rfl, request e _ 2 r rfl⟩
  | start e r => exact ⟨_, rfl, request e _ 3 r rfl⟩
  | readStatus e r => exact ⟨_, rfl, request e _ 16 r rfl⟩
  | readQueue e r => exact ⟨_, rfl, request e _ 17 r rfl⟩
  | readExitLog e r => exact ⟨_, rfl, request e _ 18 r rfl⟩
  | readCounters e r => exact ⟨_, rfl, request e _ 19 r rfl⟩
  | clearCounters e r => exact ⟨_, rfl, request e _ 20 r rfl⟩
  | clearResetCause e r => exact ⟨_, rfl, request e _ 21 r rfl⟩
  | traceSetup e r => exact ⟨_, rfl, request e _ 32 r rfl⟩
  | traceArm e r => exact ⟨_, rfl, request e _ 33 r rfl⟩
  | traceStop e r => exact ⟨_, rfl, request e _ 34 r rfl⟩
  | readTrace e r => exact ⟨_, rfl, request e _ 35 r rfl⟩
  | unknownCommand e code r =>
    exact ⟨_, rfl, (s.observe_holds e).trans (State.requestArrives_holds _ _ (fun _ => serviceOf_holds) r)⟩
  | serviceAbandoned e => exact ⟨_, rfl, (s.observe_holds e).trans (State.gapExpires_power _).holds⟩
  | serviceResponseSent e => exact ⟨_, rfl, (s.observe_holds e).trans (State.responseSent_power _).holds⟩
  | serviceByteReceived e b => exact ⟨_, rfl, (s.observe_holds e).trans (State.serviceByte_holds _ b)⟩
  | periodEnd e => exact ⟨_, rfl, .observeIte fun _ => (State.endPeriod_leaves _).1.holds⟩
  | estopAsserted e => exact ⟨_, rfl, .line fun hon => State.tripEdge_holds hon .estop .estopTrips⟩
  | estopReleased e => exact ⟨_, rfl, (s.observe_holds e).trans (State.setPins_holds _ _)⟩
  | faultHigh e => exact ⟨_, rfl, .line fun hon => State.tripEdge_holds hon .inverterFault .inverterFaultTrips⟩
  | faultLow e => exact ⟨_, rfl, (s.observe_holds e).trans (State.setPins_holds _ _)⟩
  | readyLow e => exact ⟨_, rfl, .line fun _ => SameHolds.keeps (.of_eq rfl rfl)⟩
  | readyHigh e => exact ⟨_, rfl, (s.observe_holds e).trans (State.setPins_holds _ _)⟩
  | tripReset e => exact ⟨_, rfl, .line fun _ => State.resetTrip_holds _⟩
  | motionEdge e => exact ⟨_, rfl, (s.observe_holds e).trans (State.takeMotion_power _).holds⟩
  | pushed e => exact execPushed_holds e s
  | pressCall e => exact ⟨_, rfl, .observeIte fun _ => State.takePressCall_holds _⟩
  | motionDeadlineExpiry e => exact ⟨_, rfl, .observeIte fun _ => (State.selfStroke_power _).holds⟩
  | confirmDeadlineExpiry e => exact ⟨_, rfl, .observeIte fun _ => (State.giveUpConfirm_power _).holds⟩
  | pusherTimeout e => exact ⟨_, rfl, .observeIte fun h => State.pusherTimesOut_holds (by
      rw [Bool.and_assoc, Bool.and_assoc] at h
      exact State.onLine_of_and h)⟩
  | pushPulseEnd e => exact ⟨_, rfl, .observeIte fun _ => (State.setHead_power _ _).holds⟩
  | callTimerExpiry e => exact ⟨_, rfl, .observeIte fun _ => (State.callTimeout_power _).holds⟩
  | fillTimerExpiry e => exact ⟨_, rfl, .observeIte fun _ => (State.fillExpires_power _).holds⟩
  | pressIdleExpiry e =>
    exact ⟨_, rfl, .observeIte fun h =>
      State.pressIdles_holds (State.onLine_of_and ((Bool.and_assoc _ _ _).symm.trans h))⟩
  | sampleDeadlineExpiry e => exact execSampleDeadlineExpiry_holds e s
  | deliveredPulseEnd e => exact ⟨_, rfl, (s.observe_holds e).trans (State.stepPulse_power _).holds⟩
  | canvassDeadlineExpiry e => exact execCanvassDeadlineExpiry_holds e s
  | backoffExpiry e => exact ⟨_, rfl, .observeIte fun _ => waits _ _⟩
  | recanvassExpiry e => exact ⟨_, rfl, .observeIte fun _ => waits _ _⟩
  | refreshTimerExpiry e => exact ⟨_, rfl, .observeIte fun _ => (State.refreshOwn_power _).holds⟩
  | holdExpiry e cause origin => exact ⟨_, rfl, .observeIte fun _ => State.expireHeard_holds _ cause origin⟩
  | settleExpiry e => exact ⟨_, rfl, .observeIte fun h => State.settled_holds (State.onLine_of_state h rfl)⟩
  | helloTimerExpiry e => exact ⟨_, rfl, .observeIte fun _ => (State.repeatHellos_power _).holds⟩
  | posTimerExpiry e =>
    exact ⟨_, rfl, .observeIte fun h =>
      State.headPos_holds (State.onLine_of_state ((Bool.and_assoc _ _ _).symm.trans h) rfl)⟩
  | helloCheckRepeat e p => exact ⟨_, rfl, .observeIte fun _ => (State.repeatCheck_power _ p).holds⟩
  | linkUp e p => exact execLinkUp_holds e p s
  | linkDownErrors e p =>
    exact ⟨_, rfl, .observeIte fun _ => (State.setPort_power _ p _).holds.trans (State.errorChar_holds _ p)⟩
  | linkDownSilence e p => exact ⟨_, rfl, .observeIte fun _ => State.linkGoesDown_holds _ p _⟩
  | breakPeriodEnd e p => exact ⟨_, rfl, .observeIte fun _ => (State.setPort_power _ p _).holds⟩
  | transmitterFree e p => exact ⟨_, rfl, (s.observe_holds e).trans (State.becomeFree_power _ p).holds⟩
  | frameDropped e p c => exact ⟨_, rfl, (s.observe_holds e).trans (State.receiveChar_holds _ p c)⟩
  | characterReceived e p c => exact ⟨_, rfl, (s.observe_holds e).trans (State.receiveChar_holds _ p c)⟩
  | hold e a cause origin => exact ⟨_, rfl, frame e a _⟩
  | clear e a cause origin => exact ⟨_, rfl, frame e a _⟩
  | stroke e a n synth content => exact ⟨_, rfl, frame e a _⟩
  | call e a kind n => exact ⟨_, rfl, frame e a _⟩
  | pos e a q recipe version agrees => exact ⟨_, rfl, frame e a _⟩
  | count e a n agrees => exact ⟨_, rfl, frame e a _⟩
  | hello e a h => exact ⟨_, rfl, frame e a _⟩
  | canvass e a origin n want => exact ⟨_, rfl, frame e a _⟩
  | reply e a n kind amount => exact ⟨_, rfl, frame e a _⟩
  | ret e a n amount => exact ⟨_, rfl, frame e a _⟩
  | trim e a step n => exact ⟨_, rfl, frame e a _⟩

/-- R128, R186: every command keeps the list sound; a reset empties it. -/
theorem exec_keepsHoldList (c : Instr) (s : State) : ∃ t, exec c s = .next t ∧ (s.HoldListOk → t.HoldListOk) := by
  by_cases hc : ∀ e, c ≠ .powerOn e ∧ c ≠ .resetPin e
  · obtain ⟨t, ht, hkeeps⟩ := exec_keepsHolds c s hc
    exact ⟨t, ht, hkeeps.sound⟩
  · obtain ⟨e, he⟩ := not_forall.mp hc
    have hreset : c = .powerOn e ∨ c = .resetPin e := by
      rwa [not_and_or, not_not, not_not] at he
    rcases hreset with rfl | rfl
    · exact ⟨_, rfl, fun _ => State.holdListOk_of_nil rfl⟩
    · exact ⟨_, rfl, fun _ => State.holdListOk_of_nil rfl⟩

/-- Settles O9: the step takes the command at the front, and every command keeps the hold cause list sound. -/
theorem stepKeepsHoldList : Obligations.StepKeepsHoldList := by
  intro s t hs h
  unfold step at h
  split at h
  · rename_i c rest _
    obtain ⟨t', ht', hkeeps⟩ := exec_keepsHoldList c { s with pending := rest }
    cases ht'.symm.trans h
    exact hkeeps hs
  · cases h
    exact hs

end Sys2Proof.Machine
end

section
/-!
PROOFS. A HOLD and a CLEAR of the line at a station on line: the list each leaves, the mode that follows it and the stroke a head
may start, and the settlement of O48 (R134, R136).
-/

namespace Sys2Proof.Machine

/-! ### The list that a HOLD leaves (R134) -/

/-- R134: the hold cause list once a HOLD of a cause and another origin has been heard. -/
def Hlu.heard (x : Hlu) (now : Time) (c : Cause) (origin : Byte) : Hlu :=
  { x with
    entries :=
      if x.hears c origin then
        x.entries.map fun e => if e.cause = c ∧ e.origin = origin then { e with refreshed := now } else e
      else if x.entries.length < 16 then x.entries ++ [{ cause := c, origin := origin, own := false, refreshed := now }]
      else x.entries }

/-- R134: a HOLD that is lost to a full list is counted. -/
def Hlu.lost (x : Hlu) (c : Cause) (origin : Byte) : Nat := if x.hears c origin = false ∧ 16 ≤ x.entries.length then 1 else 0

theorem Hlu.lost_of_full {x : Hlu} {c : Cause} {origin : Byte} (hnew : x.hears c origin = false) (hfull : 16 ≤ x.entries.length) :
    x.lost c origin = 1 := if_pos ⟨hnew, hfull⟩

/-- R134: a HOLD of a cause and another origin has moved the list, and the mode has not followed yet. -/
def State.listsHold (s : State) (c : Cause) (origin : Byte) : State :=
  { (s.count .holdsTaken).countBy .holdListFull (s.hlu.lost c origin) with hlu := s.hlu.heard s.now c origin }

/-- R134: after a HOLD of a cause the list is not empty. -/
theorem Hlu.heard_ne_nil (x : Hlu) (now : Time) (c : Cause) (origin : Byte) : (x.heard now c origin).entries ≠ [] := by
  unfold Hlu.heard
  dsimp only
  split
  · rename_i hhears
    obtain ⟨e, he, -⟩ := List.any_eq_true.mp hhears
    exact fun hnil => List.ne_nil_of_mem he (List.map_eq_nil_iff.mp hnil)
  · split
    · exact List.append_ne_nil_of_right_ne_nil _ (List.cons_ne_nil _ _)
    · rename_i hfull
      exact fun hnil => hfull (by rw [hnil]; decide)

section
variable {s : State} {code origin : Byte}

/-- R134: a HOLD of no known cause, or of this station's own origin, is counted alone. -/
theorem State.hearHold_ignored (h : causeOfCode code = none ∨ origin = s.originByte) :
    ∃ k ∈ [Counter.holdsUnknown, .holdsOwnOrigin], s.hearHold code origin = (s.count .holdsTaken).count k := by
  unfold State.hearHold
  cases hcode : causeOfCode code with
  | none => exact ⟨_, by decide, rfl⟩
  | some c => exact ⟨.holdsOwnOrigin, by decide, if_pos (h.resolve_left (by rw [hcode]; exact Option.some_ne_none c))⟩

/-- R134, R129: a HOLD of a cause and another origin moves the list, and the mode follows. -/
theorem State.hearHold_known {c : Cause} (hcode : causeOfCode code = some c) (hother : origin ≠ s.originByte) :
    s.hearHold code origin = (s.listsHold c origin).deriveMode := by
  have hunlost (h : ¬(s.hlu.hears c origin = false ∧ 16 ≤ s.hlu.entries.length)) :
      (s.count .holdsTaken).countBy .holdListFull (s.hlu.lost c origin) = s.count .holdsTaken := by
    unfold Hlu.lost
    rw [if_neg h, State.countBy_zero]
  unfold State.hearHold State.listsHold
  rw [hcode]
  refine (if_neg hother).trans ?_
  by_cases hhears : s.hlu.hears c origin = true
  · rw [hunlost fun h => Bool.false_ne_true (h.1.symm.trans hhears)]
    unfold Hlu.heard
    rw [if_pos hhears]
    exact if_pos hhears
  · have hnew : s.hlu.hears c origin = false := Bool.eq_false_iff.mpr hhears
    refine (if_neg hhears).trans ?_
    by_cases hroom : s.hlu.entries.length < 16
    · rw [hunlost fun h => absurd h.2 (Nat.not_le.mpr hroom)]
      unfold Hlu.heard
      rw [if_neg hhears, if_pos hroom]
      exact if_pos hroom
    · rw [Hlu.lost_of_full hnew (Nat.not_lt.mp hroom)]
      unfold Hlu.heard
      rw [if_neg hhears, if_neg hroom]
      exact if_neg hroom

/-- R134: a HOLD is counted alone, or moves the list. -/
theorem State.hearHold_cases (s : State) (code origin : Byte) :
    (∃ k ∈ [Counter.holdsUnknown, .holdsOwnOrigin], s.hearHold code origin = (s.count .holdsTaken).count k) ∨
    ∃ c, s.hearHold code origin = (s.listsHold c origin).deriveMode := by
  by_cases h : causeOfCode code = none ∨ origin = s.originByte
  · exact .inl (State.hearHold_ignored h)
  · obtain ⟨hknown, hother⟩ := not_or.mp h
    obtain ⟨c, hcode⟩ := Option.ne_none_iff_exists'.mp hknown
    exact .inr ⟨c, State.hearHold_known hcode hother⟩

/-! ### The list that a CLEAR leaves (R136) -/

/-- R136: a CLEAR of no known cause, or of this station's own origin, is counted alone. -/
theorem State.hearClear_ignored (h : causeOfCode code = none ∨ origin = s.originByte) :
    ∃ k ∈ [Counter.holdsUnknown, .holdsOwnOrigin], s.hearClear code origin = (s.count .clearsTaken).count k := by
  unfold State.hearClear
  cases hcode : causeOfCode code with
  | none => exact ⟨_, by decide, rfl⟩
  | some c => exact ⟨.holdsOwnOrigin, by decide, if_pos (h.resolve_left (by rw [hcode]; exact Option.some_ne_none c))⟩

/-- R136: a CLEAR that names no heard entry is counted. -/
theorem State.hearClear_unmatched {c : Cause} (hcode : causeOfCode code = some c) (hother : origin ≠ s.originByte)
    (hnone : s.hlu.hearsOther c origin = false) :
    s.hearClear code origin = (s.count .clearsTaken).count .clearsUnmatched := by
  unfold State.hearClear
  rw [hcode]
  exact (if_neg hother).trans (if_neg fun h => Bool.false_ne_true (hnone.symm.trans h))

/-- R136, R129: a CLEAR deletes the heard entry it names, and the mode follows. -/
theorem State.hearClear_matched {c : Cause} (hcode : causeOfCode code = some c) (hother : origin ≠ s.originByte)
    (hhears : s.hlu.hearsOther c origin = true) :
    s.hearClear code origin = ((s.count .clearsTaken).dropHeard c origin).deriveMode := by
  unfold State.hearClear
  rw [hcode]
  exact (if_neg hother).trans (if_pos hhears)

/-- R136: a CLEAR is counted alone, or deletes a heard entry. -/
theorem State.hearClear_cases (s : State) (code origin : Byte) :
    (∃ k ∈ [Counter.holdsUnknown, .holdsOwnOrigin, .clearsUnmatched],
      s.hearClear code origin = (s.count .clearsTaken).count k) ∨
    ∃ c, s.hearClear code origin = ((s.count .clearsTaken).dropHeard c origin).deriveMode := by
  by_cases h : causeOfCode code = none ∨ origin = s.originByte
  · obtain ⟨k, hmem, hk⟩ := State.hearClear_ignored h
    exact .inl ⟨k, List.mem_append_left [Counter.clearsUnmatched] hmem, hk⟩
  · obtain ⟨hknown, hother⟩ := not_or.mp h
    obtain ⟨c, hcode⟩ := Option.ne_none_iff_exists'.mp hknown
    cases hhears : s.hlu.hearsOther c origin with
    | false => exact .inl ⟨_, by decide, State.hearClear_unmatched hcode hother hhears⟩
    | true => exact .inr ⟨c, State.hearClear_matched hcode hother hhears⟩

end

/-! ### What the Hold Unit changes as it hears a frame -/

/-- All that the Hold Unit changes over a HOLD or a CLEAR. -/
def State.HearsFrame (s t : State) : Prop := t = { s with hlu := t.hlu, ldu := t.ldu, head := t.head, counters := t.counters }

theorem State.HearsFrame.deriveMode {s t : State} (h : s.HearsFrame t) : s.HearsFrame t.deriveMode := by
  have hmode := t.deriveMode_eq
  generalize t.deriveMode = u at *
  unfold State.HearsFrame at *
  generalize t.hlu = x, t.ldu = y, t.head = z, t.counters = w at h
  subst h
  rw [hmode]

theorem State.hearHold_hears (s : State) (code origin : Byte) : s.HearsFrame (s.hearHold code origin) := by
  rcases s.hearHold_cases code origin with ⟨k, -, hk⟩ | ⟨c, hc⟩
  · rw [hk]
    rfl
  · rw [hc]
    exact State.HearsFrame.deriveMode rfl

theorem State.hearClear_hears (s : State) (code origin : Byte) : s.HearsFrame (s.hearClear code origin) := by
  rcases s.hearClear_cases code origin with ⟨k, -, hk⟩ | ⟨c, hc⟩
  · rw [hk]
    rfl
  · rw [hc]
    exact State.HearsFrame.deriveMode rfl

/-- R98: a list that is not empty lets no stroke start. -/
theorem State.deriveMode_head_held {s : State} (hon : s.onLine = true) (h : s.hlu.entries ≠ []) : s.deriveMode.head = s.head :=
  (State.deriveMode_head hon).trans (s.startedHead_held h _)

/-- R134: a HOLD starts no stroke, since it leaves a list that is not empty. -/
theorem State.hearHold_head {s : State} (hon : s.onLine = true) (code origin : Byte) : (s.hearHold code origin).head = s.head := by
  rcases s.hearHold_cases code origin with ⟨k, -, hk⟩ | ⟨c, hc⟩
  · rw [hk]
    rfl
  · rw [hc]
    exact State.deriveMode_head_held hon (s.hlu.heard_ne_nil _ _ _)

theorem State.hearHold_refresh (s : State) (code origin : Byte) : (s.hearHold code origin).hlu.refresh = s.hlu.refresh := by
  rcases s.hearHold_cases code origin with ⟨k, -, hk⟩ | ⟨c, hc⟩
  · rw [hk]
    rfl
  · rw [hc, State.deriveMode_hlu]
    rfl

/-- R134: every HOLD is counted. -/
theorem State.hearHold_taken (s : State) (code origin : Byte) :
    (s.hearHold code origin).counter .holdsTaken = satAdd (s.counter .holdsTaken) 1 := by
  refine Eq.trans ?_ (s.counter_count .holdsTaken)
  rcases s.hearHold_cases code origin with ⟨k, hmem, hk⟩ | ⟨c, hc⟩
  · rw [hk]
    exact State.count_only hmem _ _ (by decide)
  · rw [hc, State.deriveMode_only _ _ (by decide)]
    exact State.counter_countBy_ne _ _ _ _ (by decide)

/-- R136: every CLEAR is counted. -/
theorem State.hearClear_taken (s : State) (code origin : Byte) :
    (s.hearClear code origin).counter .clearsTaken = satAdd (s.counter .clearsTaken) 1 := by
  refine Eq.trans ?_ (s.counter_count .clearsTaken)
  rcases s.hearClear_cases code origin with ⟨k, hmem, hk⟩ | ⟨c, hc⟩
  · rw [hk]
    exact State.count_only hmem _ _ (by decide)
  · rw [hc, State.deriveMode_only _ _ (by decide)]
    rfl

/-! ### What each leaves -/

section
variable {s : State} {code origin : Byte}

theorem State.hearHold_ignored_leaves (h : causeOfCode code = none ∨ origin = s.originByte) :
    (s.hearHold code origin).hlu = s.hlu ∧ (s.hearHold code origin).ldu = s.ldu := by
  obtain ⟨k, -, hk⟩ := State.hearHold_ignored h
  rw [hk]
  exact ⟨rfl, rfl⟩

theorem State.hearHold_known_leaves {c : Cause} (hon : s.onLine = true) (hcode : causeOfCode code = some c)
    (hother : origin ≠ s.originByte) :
    (s.hearHold code origin).hlu = s.hlu.heard s.now c origin ∧
    (s.hearHold code origin).ldu = { s.ldu with state := modeOf (s.hlu.heard s.now c origin).entries } ∧
    (s.hearHold code origin).counter .holdListFull = satAdd (s.counter .holdListFull) (s.hlu.lost c origin) := by
  rw [State.hearHold_known hcode hother]
  refine ⟨State.deriveMode_hlu _, State.deriveMode_ldu hon, (State.deriveMode_only _ _ (by decide)).trans ?_⟩
  exact (State.counter_countBy (s.count .holdsTaken) _ _).trans
    (congrArg (satAdd · _) (s.counter_count_ne (by decide)))

theorem State.hearClear_ignored_leaves (h : causeOfCode code = none ∨ origin = s.originByte) :
    (s.hearClear code origin).hlu = s.hlu ∧ (s.hearClear code origin).ldu = s.ldu ∧
    (s.hearClear code origin).head = s.head := by
  obtain ⟨k, -, hk⟩ := State.hearClear_ignored h
  rw [hk]
  exact ⟨rfl, rfl, rfl⟩

theorem State.hearClear_unmatched_leaves {c : Cause} (hcode : causeOfCode code = some c) (hother : origin ≠ s.originByte)
    (hnone : s.hlu.hearsOther c origin = false) :
    (s.hearClear code origin).hlu = s.hlu ∧ (s.hearClear code origin).ldu = s.ldu ∧ (s.hearClear code origin).head = s.head ∧
    (s.hearClear code origin).counter .clearsUnmatched = satAdd (s.counter .clearsUnmatched) 1 := by
  rw [State.hearClear_unmatched hcode hother hnone]
  exact ⟨rfl, rfl, rfl, (State.counter_count _ _).trans (congrArg (satAdd · 1) (s.counter_count_ne (by decide)))⟩

theorem State.hearClear_matched_leaves {c : Cause} (hon : s.onLine = true) (hcode : causeOfCode code = some c)
    (hother : origin ≠ s.originByte) (hhears : s.hlu.hearsOther c origin = true) :
    (s.hearClear code origin).hlu = (s.dropHeard c origin).hlu ∧
    (s.hearClear code origin).ldu = { s.ldu with state := modeOf (s.dropHeard c origin).hlu.entries } ∧
    s.HeadStarts (s.hearClear code origin) s.head := by
  rw [State.hearClear_matched hcode hother hhears]
  have hstarts := State.deriveMode_headStarts (s := (s.count .clearsTaken).dropHeard c origin) hon
  exact ⟨State.deriveMode_hlu _, State.deriveMode_ldu hon, hstarts.congr rfl rfl rfl (s.counter_count_ne (by decide)).symm⟩

end

/-! ### The commands -/

/-- R134: a HOLD has been heard at a port, and has gone on. -/
def State.heldBy (s : State) (p : Port) (code origin : Byte) (f : Frame) : State := ((s.heard p).hearHold code origin).passOn p f

/-- R136: a CLEAR has been heard at a port, and has gone on. -/
def State.clearedBy (s : State) (p : Port) (code origin : Byte) (f : Frame) : State :=
  ((s.heard p).hearClear code origin).passOn p f

theorem exec_hold_eq {e : Env} {a : Arrival} {code origin : Byte} {s : State} (h : s.admits a (.hold code origin) = true) :
    exec (.hold e a code origin) s =
      .next ((s.observe e).heldBy a.port code origin (arrivedFrame a (.hold code origin))) :=
  congrArg Host.Outcome.next (State.frameArrives_copied (s := s.observe e) h rfl)

theorem exec_clear_eq {e : Env} {a : Arrival} {code origin : Byte} {s : State} (h : s.admits a (.clear code origin) = true) :
    exec (.clear e a code origin) s =
      .next ((s.observe e).clearedBy a.port code origin (arrivedFrame a (.clear code origin))) :=
  congrArg Host.Outcome.next (State.frameArrives_copied (s := s.observe e) h rfl)

/-- The Hold Unit's work over a heard frame, seen past the router. -/
theorem State.HearsFrame.passOn {s w : State} {p : Port} (h : (s.heard p).HearsFrame w) (f : Frame) :
    s.PortsReceived (w.passOn p f) p ∧ (∀ q, ((w.passOn p f).port q).localQ = (s.port q).localQ) ∧
    w.passOn p f = { s with
      hlu := (w.passOn p f).hlu, ldu := (w.passOn p f).ldu, head := (w.passOn p f).head, upPort := (w.passOn p f).upPort
      downPort := (w.passOn p f).downPort, ltr := (w.passOn p f).ltr, counters := (w.passOn p f).counters } := by
  have hport (q : Port) : w.port q = (s.heard p).port q := by
    rw [h]
    cases q <;> rfl
  have hmicros : w.micros = s.micros := by
    rw [h]
    exact (s.heard_tracesAs p).micros
  refine ⟨.of_copied hmicros fun q => ?_, fun q => ?_, ?_⟩
  · rw [hport]
    rfl
  · exact ((w.passOn_frame p f).localQ q).trans ((congrArg LinkPort.localQ (hport q)).trans ((s.heard_frame p).localQ q))
  · have hheard := (s.heard_frame p).rest
    have hroute := (w.passOn_frame p f).rest
    unfold State.HearsFrame at h
    generalize w.passOn p f = v at *
    generalize (s.heard p).upPort = up, (s.heard p).downPort = down, (s.heard p).ltr = trace at hheard
    rw [hheard] at h
    generalize v.upPort = up', v.downPort = down', v.ltr = trace' at *
    rw [hroute, h]

/-- What the Hold Unit leaves stands past the router. -/
theorem State.passOn_reads (s : State) (p : Port) (f : Frame) :
    (s.passOn p f).hlu = s.hlu ∧ (s.passOn p f).ldu = s.ldu ∧ (s.passOn p f).head = s.head :=
  have h := (s.passOn_frame p f).rest
  ⟨(congrArg State.hlu h :), (congrArg State.ldu h :), (congrArg State.head h :)⟩

/-- What the Hold Unit reads stands in the state that has heard the frame. -/
theorem State.heard_reads (s : State) (p : Port) :
    (s.heard p).hlu = s.hlu ∧ (s.heard p).ldu = s.ldu ∧ (s.heard p).head = s.head := by
  cases p <;> exact ⟨rfl, rfl, rfl⟩

theorem State.heard_onLine (s : State) (p : Port) : (s.heard p).onLine = s.onLine := by cases p <;> rfl

theorem State.heard_isHead (s : State) (p : Port) : (s.heard p).isHead = s.isHead := by cases p <;> rfl

/-- R98: the start of a stroke is read off the list, the head and one counter after the event. -/
theorem State.HeadStarts.of_after {s t v : State} {h : Head} (hs : s.HeadStarts t h) (hhlu : v.hlu = t.hlu)
    (hhead : v.head = t.head) (hcounter : v.counter .pushesStarted = t.counter .pushesStarted) : s.HeadStarts v h := by
  unfold State.HeadStarts
  rw [hhlu, hhead, hcounter]
  exact hs

section
variable (s : State) (p : Port) (code origin : Byte) (f : Frame)

theorem State.heldBy_counted :
    (s.heldBy p code origin f).hlu.refresh = s.hlu.refresh ∧
    (s.heldBy p code origin f).counter .holdsTaken = satAdd (s.counter .holdsTaken) 1 := by
  obtain ⟨hhlu, -, -⟩ := s.heard_reads p
  obtain ⟨hhlu', hldu', hhead'⟩ := ((s.heard p).hearHold code origin).passOn_reads p f
  have hroute := State.passOn_frame ((s.heard p).hearHold code origin) p f
  have hrefresh := (s.heard p).hearHold_refresh code origin
  have htaken := (s.heard p).hearHold_taken code origin
  rw [hhlu] at hrefresh
  rw [(s.heard_frame p).counter] at htaken
  exact ⟨(congrArg Hlu.refresh hhlu').trans hrefresh, (hroute.counter _).trans htaken⟩

theorem State.clearedBy_counted : (s.clearedBy p code origin f).counter .clearsTaken = satAdd (s.counter .clearsTaken) 1 := by
  have htaken := (s.heard p).hearClear_taken code origin
  rw [(s.heard_frame p).counter] at htaken
  exact ((State.passOn_frame _ p f).counter _).trans htaken

end

section
variable {s : State} {p : Port} {code origin : Byte} {f : Frame}

theorem State.heldBy_ignored (h : causeOfCode code = none ∨ origin = s.originByte) :
    (s.heldBy p code origin f).hlu = s.hlu ∧ (s.heldBy p code origin f).ldu = s.ldu := by
  obtain ⟨hhlu, hldu, -⟩ := s.heard_reads p
  obtain ⟨hhlu', hldu', hhead'⟩ := ((s.heard p).hearHold code origin).passOn_reads p f
  have hleaves := State.hearHold_ignored_leaves (h.imp_right fun ho => ho.trans (s.heard_frame p).originByte.symm)
  rw [hhlu, hldu] at hleaves
  exact hleaves.imp hhlu'.trans hldu'.trans

/-- R134: a HOLD changes nothing but the list, the mode and the ports. -/
theorem State.heldBy_frame (hon : s.onLine = true) (p : Port) (code origin : Byte) (f : Frame) :
    s.PortsReceived (s.heldBy p code origin f) p ∧ (∀ q, ((s.heldBy p code origin f).port q).localQ = (s.port q).localQ) ∧
    s.heldBy p code origin f = { s with
      hlu := (s.heldBy p code origin f).hlu, ldu := (s.heldBy p code origin f).ldu
      upPort := (s.heldBy p code origin f).upPort, downPort := (s.heldBy p code origin f).downPort
      ltr := (s.heldBy p code origin f).ltr, counters := (s.heldBy p code origin f).counters } := by
  obtain ⟨-, -, hhead⟩ := s.heard_reads p
  obtain ⟨-, -, hhead'⟩ := ((s.heard p).hearHold code origin).passOn_reads p f
  obtain ⟨hports, hlocal, hrest⟩ := (State.hearHold_hears (s.heard p) code origin).passOn f
  have hstays : (s.heldBy p code origin f).head = s.head :=
    (hhead'.trans (State.hearHold_head ((s.heard_onLine p).trans hon) code origin)).trans hhead
  refine ⟨hports, hlocal, ?_⟩
  rw [← hstays]
  exact hrest

theorem State.heldBy_known {c : Cause} (hon : s.onLine = true) (hcode : causeOfCode code = some c)
    (hother : origin ≠ s.originByte) :
    (s.heldBy p code origin f).hlu = s.hlu.heard s.now c origin ∧
    (s.heldBy p code origin f).ldu = { s.ldu with state := modeOf (s.hlu.heard s.now c origin).entries } ∧
    (s.heldBy p code origin f).counter .holdListFull = satAdd (s.counter .holdListFull) (s.hlu.lost c origin) := by
  obtain ⟨hhlu, hldu, -⟩ := s.heard_reads p
  have hframe := s.heard_frame p
  have hroute := State.passOn_frame ((s.heard p).hearHold code origin) p f
  obtain ⟨hhlu', hldu', hhead'⟩ := ((s.heard p).hearHold code origin).passOn_reads p f
  obtain ⟨hlist, hmode, hfull⟩ := State.hearHold_known_leaves ((s.heard_onLine p).trans hon) hcode
    fun ho => hother (ho.trans hframe.originByte)
  rw [hhlu, hframe.now] at hlist hmode
  rw [hldu] at hmode
  rw [hhlu, hframe.counter] at hfull
  exact ⟨hhlu'.trans hlist, hldu'.trans hmode, (hroute.counter _).trans hfull⟩

theorem State.clearedBy_ignored (h : causeOfCode code = none ∨ origin = s.originByte) :
    (s.clearedBy p code origin f).hlu = s.hlu ∧ (s.clearedBy p code origin f).ldu = s.ldu ∧
    (s.clearedBy p code origin f).head = s.head := by
  obtain ⟨hhlu, hldu, hhead⟩ := s.heard_reads p
  obtain ⟨hhlu', hldu', hhead'⟩ := ((s.heard p).hearClear code origin).passOn_reads p f
  have hleaves := State.hearClear_ignored_leaves (h.imp_right fun ho => ho.trans (s.heard_frame p).originByte.symm)
  rw [hhlu, hldu, hhead] at hleaves
  obtain ⟨hlist, hmode, hstays⟩ := hleaves
  exact ⟨hhlu'.trans hlist, hldu'.trans hmode, hhead'.trans hstays⟩

theorem State.clearedBy_unmatched {c : Cause} (hcode : causeOfCode code = some c) (hother : origin ≠ s.originByte)
    (hnone : s.hlu.hearsOther c origin = false) :
    (s.clearedBy p code origin f).hlu = s.hlu ∧ (s.clearedBy p code origin f).ldu = s.ldu ∧
    (s.clearedBy p code origin f).head = s.head ∧
    (s.clearedBy p code origin f).counter .clearsUnmatched = satAdd (s.counter .clearsUnmatched) 1 := by
  obtain ⟨hhlu, hldu, hhead⟩ := s.heard_reads p
  have hframe := s.heard_frame p
  have hroute := State.passOn_frame ((s.heard p).hearClear code origin) p f
  obtain ⟨hhlu', hldu', hhead'⟩ := ((s.heard p).hearClear code origin).passOn_reads p f
  have hleaves := State.hearClear_unmatched_leaves (s := s.heard p) hcode (fun ho => hother (ho.trans hframe.originByte))
    (hhlu.symm ▸ hnone)
  rw [hhlu, hldu, hhead, hframe.counter] at hleaves
  obtain ⟨hlist, hmode, hstays, hcounted⟩ := hleaves
  exact ⟨hhlu'.trans hlist, hldu'.trans hmode, hhead'.trans hstays,
    (hroute.counter _).trans hcounted⟩

theorem State.clearedBy_matched {c : Cause} (hon : s.onLine = true) (hcode : causeOfCode code = some c)
    (hother : origin ≠ s.originByte) (hhears : s.hlu.hearsOther c origin = true) :
    (s.clearedBy p code origin f).hlu = (s.dropHeard c origin).hlu ∧
    (s.clearedBy p code origin f).ldu = { s.ldu with state := modeOf (s.dropHeard c origin).hlu.entries } ∧
    s.HeadStarts (s.clearedBy p code origin f) s.head := by
  obtain ⟨hhlu, hldu, hhead⟩ := s.heard_reads p
  have hframe := s.heard_frame p
  have hroute := State.passOn_frame ((s.heard p).hearClear code origin) p f
  obtain ⟨hhlu', hldu', hhead'⟩ := ((s.heard p).hearClear code origin).passOn_reads p f
  obtain ⟨hlist, hmode, hstarts⟩ := State.hearClear_matched_leaves (s := s.heard p) ((s.heard_onLine p).trans hon) hcode
    (fun ho => hother (ho.trans hframe.originByte)) (hhlu.symm ▸ hhears)
  have hdropped : ((s.heard p).dropHeard c origin).hlu = (s.dropHeard c origin).hlu := by
    unfold State.dropHeard
    rw [hhlu]
  rw [hdropped] at hlist hmode
  rw [hldu] at hmode
  rw [hhead] at hstarts
  have hstart := hstarts.congr (s.heard_isHead p).symm hframe.now.symm hframe.img.symm (hframe.counter _).symm
  exact ⟨hhlu'.trans hlist, hldu'.trans hmode,
    hstart.of_after hhlu' hhead' (hroute.counter _)⟩

end

/-- Settles O48: the copy of the HOLD or the CLEAR moves the list, the mode follows, and the frame goes on. -/
theorem holdAndClearMoveTheList : Obligations.HoldAndClearMoveTheList := by
  rintro e a code origin s u rfl
  have hqueues {t : State} (h : ∀ p, (t.port p).localQ = ((s.observe e).port p).localQ) (p : Port) :
      (t.port p).localQ = (s.port p).localQ := (h p).trans (by cases p <;> rfl)
  refine ⟨fun hadmits => ⟨_, exec_hold_eq hadmits, ?_⟩, fun hadmits => ⟨_, exec_clear_eq hadmits, ?_⟩⟩
  · obtain ⟨-, hon, -, -⟩ := (s.admits_iff a _).mp hadmits
    obtain ⟨hports, hlocal, hrest⟩ := State.heldBy_frame (s := s.observe e) hon a.port code origin
      (arrivedFrame a (.hold code origin))
    obtain ⟨hrefresh, htaken⟩ := (s.observe e).heldBy_counted a.port code origin (arrivedFrame a (.hold code origin))
    refine ⟨fun c hcode hother => ?_, fun hign => State.heldBy_ignored hign, hrefresh, htaken, hports, hqueues hlocal, hrest⟩
    obtain ⟨hlist, hmode, hfull⟩ := State.heldBy_known (s := s.observe e) hon hcode hother
    exact ⟨congrArg Hlu.entries hlist, hlist ▸ hmode, hfull⟩
  · obtain ⟨-, hon, -, -⟩ := (s.admits_iff a _).mp hadmits
    obtain ⟨hports, hlocal, hrest⟩ := (((s.observe e).heard a.port).hearClear_hears code origin).passOn
      (p := a.port) (arrivedFrame a (.clear code origin))
    refine ⟨fun c hcode hother hhears => ?_, fun c hcode hother hnone => State.clearedBy_unmatched hcode hother hnone,
      fun hign => State.clearedBy_ignored hign, State.clearedBy_counted _ _ _ _ _, hports, hqueues hlocal, hrest⟩
    obtain ⟨hlist, hmode, hstarts⟩ := State.clearedBy_matched (s := s.observe e) hon hcode hother hhears
    exact ⟨hlist, hlist ▸ hmode, hstarts⟩

end Sys2Proof.Machine
end

section
/-!
PROOFS. The refresh of own causes (R131) and the expiry of a heard one (R137), and the settlement of O41.
-/

namespace Sys2Proof.Machine

/-! ### The HOLDs of a refresh (R131, R158) -/

/-- The own entries of a list, whose HOLDs a refresh repeats. -/
def ownEntries (es : List HoldEntry) : List HoldEntry := es.filter (·.own)

theorem ownEntries_cons_own {x : HoldEntry} (h : x.own = true) (es : List HoldEntry) :
    ownEntries (x :: es) = x :: ownEntries es := List.filter_cons_of_pos h

theorem ownEntries_cons_heard {x : HoldEntry} (h : ¬x.own = true) (es : List HoldEntry) :
    ownEntries (x :: es) = ownEntries es := List.filter_cons_of_neg h

/-- R131: an own cause is repeated on the ports whose link is UP. -/
def State.repeats (s : State) (c : Cause) : State :=
  s.offerBothCounted (.hold (causeCode c) s.originByte) .holdsSent .holdsRefused

theorem State.repeatOwn_cons_own {x : HoldEntry} (h : x.own = true) (s : State) (es : List HoldEntry) :
    s.repeatOwn (x :: es) = (s.repeats x.cause).repeatOwn es := if_pos h

theorem State.repeatOwn_cons_heard {x : HoldEntry} (h : ¬x.own = true) (s : State) (es : List HoldEntry) :
    s.repeatOwn (x :: es) = s.repeatOwn es := if_neg h

theorem State.repeats_link (s : State) (c : Cause) : LinkFrame s (s.repeats c) := s.offerBothCounted_link _ _ _

/-- R131: a port whose link is DOWN gets no HOLD. -/
theorem State.repeatOwn_linkDown {s : State} {p : Port} (h : s.linkIsUp p = false) (es : List HoldEntry) :
    (s.repeatOwn es).port p = s.port p := by
  induction es generalizing s with
  | nil => rfl
  | cons x rest ih =>
    by_cases hown : x.own = true
    · rw [State.repeatOwn_cons_own hown, ih (((s.repeats_link x.cause).linkIsUp p).trans h)]
      exact (s.offerBothCounted_port _ _ _ p).trans (if_neg (Bool.eq_false_iff.mp h))
    · rw [State.repeatOwn_cons_heard hown]
      exact ih h

/-- R131, R158: a HOLD joins the queue of a port with room. -/
theorem State.repeats_port {s : State} {p : Port} (h : s.hasRoom p = true) (c : Cause) :
    (s.repeats c).port p = (s.port p).taken (s.port p).localQ (s.frame dstAll (s.holdOf c)) := by
  obtain ⟨hup, hcheck, hroom⟩ := (s.hasRoom_iff p).mp h
  refine (s.offerBothCounted_port _ _ _ p).trans ?_
  rw [if_pos hup]
  exact LinkPort.afterOffer_room (beq_iff_eq.mp hup) hcheck hroom _

/-- R131, R158: the HOLDs join the queue of a port with room for all, in the order of the list. -/
theorem State.repeatOwn_queue {s : State} {p : Port} (es : List HoldEntry) (hup : s.linkIsUp p = true)
    (hcheck : (s.port p).check ≠ .miswired) (hroom : (s.port p).localQ.length + (ownEntries es).length ≤ 8) :
    ((s.repeatOwn es).port p).localQ = (ownEntries es).foldl
      (fun q x => insertByClass (s.frame dstAll (s.holdOf x.cause)) q) (s.port p).localQ := by
  induction es generalizing s with
  | nil => rfl
  | cons x rest ih =>
    by_cases hown : x.own = true
    · rw [ownEntries_cons_own hown, List.length_cons] at hroom
      have hlink := s.repeats_link x.cause
      have hport := State.repeats_port ((s.hasRoom_iff p).mpr ⟨hup, hcheck, by omega⟩) x.cause
      have hframe (c : Cause) :
          (s.repeats x.cause).frame dstAll ((s.repeats x.cause).holdOf c) = s.frame dstAll (s.holdOf c) := by
        rw [hlink.frame]
        unfold State.holdOf
        rw [hlink.originByte]
      rw [State.repeatOwn_cons_own hown, ownEntries_cons_own hown, List.foldl_cons,
        ih ((hlink.linkIsUp p).trans hup) (by rw [hport]; exact hcheck)
          (by rw [hport]; unfold LinkPort.taken; dsimp only; rw [insertByClass_length]; omega)]
      simp only [hframe, hport]
      rfl
    · rw [ownEntries_cons_heard hown] at hroom ⊢
      rw [State.repeatOwn_cons_heard hown]
      exact ih hup hcheck hroom

/-- R131: the HOLDs of a refresh are counted where every port that is UP has room for all. -/
theorem State.repeatOwn_counter {s : State} (es : List HoldEntry) (h : ∀ p, s.linkIsUp p = true →
      (s.port p).check ≠ .miswired ∧ (s.port p).localQ.length + (ownEntries es).length ≤ 8) :
    (s.repeatOwn es).counter .holdsSent = satAdd (s.counter .holdsSent) ((ownEntries es).length * s.linksUp) := by
  induction es generalizing s with
  | nil => exact ((congrArg _ (Nat.zero_mul _)).trans (satAdd_zero _)).symm
  | cons x rest ih =>
    by_cases hown : x.own = true
    · rw [ownEntries_cons_own hown, List.length_cons] at h
      have hroom (p : Port) (hup : s.linkIsUp p = true) : s.hasRoom p = true := by
        obtain ⟨hcheck, hlength⟩ := h p hup
        exact (s.hasRoom_iff p).mpr ⟨hup, hcheck, by omega⟩
      have hlink := s.repeats_link x.cause
      have hlinks : (s.repeats x.cause).linksUp = s.linksUp := by
        unfold State.linksUp
        rw [hlink.linkIsUp, hlink.linkIsUp]
      have hfirst : (s.repeats x.cause).counter .holdsSent = satAdd (s.counter .holdsSent) s.linksUp :=
        State.offerBothCounted_counter hroom _ _ _
      rw [State.repeatOwn_cons_own hown, ownEntries_cons_own hown, List.length_cons, ih fun p hup => ?_, hfirst, satAdd_satAdd,
        hlinks, Nat.succ_mul, Nat.add_comm]
      have hup' := (hlink.linkIsUp p).symm.trans hup
      obtain ⟨hcheck, hlength⟩ := h p hup'
      rw [State.repeats_port (hroom p hup')]
      refine ⟨hcheck, ?_⟩
      unfold LinkPort.taken
      dsimp only
      rw [insertByClass_length]
      omega
    · rw [ownEntries_cons_heard hown] at h ⊢
      rw [State.repeatOwn_cons_heard hown]
      exact ih h

/-! ### The expiry of a heard cause (R137) -/

/-- R137: a heard entry is dropped and counted, and the mode follows. -/
def State.expires (s : State) (c : Cause) (origin : Byte) : State := ((s.dropHeard c origin).count .holdExpiries).deriveMode

/-- R137, R129: an expiry changes nothing but the list, the mode and the head that may start. -/
theorem State.expires_frame (s : State) (c : Cause) (origin : Byte) : s.HearsFrame (s.expires c origin) :=
  State.HearsFrame.deriveMode rfl

theorem State.expires_leaves {s : State} (hon : s.onLine = true) (c : Cause) (origin : Byte) :
    (s.expires c origin).hlu = (s.dropHeard c origin).hlu ∧
    (s.expires c origin).ldu = { s.ldu with state := modeOf (s.dropHeard c origin).hlu.entries } ∧
    (s.expires c origin).counter .holdExpiries = satAdd (s.counter .holdExpiries) 1 ∧
    s.HeadStarts (s.expires c origin) s.head := by
  have hstarts := State.deriveMode_headStarts (s := (s.dropHeard c origin).count .holdExpiries) hon
  refine ⟨State.deriveMode_hlu _, State.deriveMode_ldu hon, ?_,
    hstarts.congr rfl rfl rfl (State.counter_count_ne _ (by decide)).symm⟩
  exact (State.deriveMode_only _ _ (by decide)).trans (State.counter_count _ _)

/-! ### The settlement -/

theorem exec_refreshTimerExpiry_eq {e : Env} {s : State} (h : due (s.observe e).now s.hlu.refresh = true) :
    exec (.refreshTimerExpiry e) s = .next (s.observe e).refreshOwn := congrArg Host.Outcome.next (if_pos h)

theorem exec_holdExpiry_eq {e : Env} {c : Cause} {origin : Byte} {s : State} (h : (s.observe e).heardExpired c origin = true) :
    exec (.holdExpiry e c origin) s = .next ((s.observe e).expires c origin) := congrArg Host.Outcome.next (if_pos h)

/-- R131: what a refresh changes besides the timer is what its HOLDs change. -/
theorem State.refreshOwn_eq (s : State) : s.refreshOwn = { s.repeatOwn s.hlu.entries with
    hlu := { s.hlu with refresh := if s.hlu.entries.any (·.own) then some (after s.now 500) else none } } := by
  have hlink := s.repeatOwn_link s.hlu.entries
  unfold State.refreshOwn
  dsimp only
  rw [hlink.hlu, hlink.now]
  rfl

/-- Settles O41: the refresh repeats the own causes in order, and the expiry of a heard one moves the list. -/
theorem refreshAndHoldExpiry : Obligations.RefreshAndHoldExpiry := by
  rintro e s u rfl
  refine ⟨fun hdue => ⟨_, exec_refreshTimerExpiry_eq hdue, ?_⟩,
    fun c o hon hexpired => ⟨_, exec_holdExpiry_eq hexpired, ?_⟩⟩
  · have hlink := (s.observe e).repeatOwn_link s.hlu.entries
    rw [State.refreshOwn_eq]
    refine ⟨rfl, fun p hup hcheck hroom => ?_, fun hroom => ?_, fun p hdown => ?_, fun p => hlink.toDemandFrame.port p, ?_⟩
    · exact State.repeatOwn_queue (s := s.observe e) (p := p) s.hlu.entries hup hcheck hroom
    · exact State.repeatOwn_counter (s := s.observe e) s.hlu.entries hroom
    · exact State.repeatOwn_linkDown (s := s.observe e) (p := p) hdown s.hlu.entries
    · exact congrArg (fun t : State => { t with
        hlu := { s.hlu with refresh := if s.hlu.entries.any (·.own) then some (after (s.observe e).now 500) else none } })
        hlink.eq
  · obtain ⟨hlist, hmode, hcounted, hstarts⟩ := State.expires_leaves (s := s.observe e) hon c o
    exact ⟨hlist, hlist ▸ hmode, hcounted, hstarts, (s.observe e).expires_frame c o⟩

end Sys2Proof.Machine
end

section
/-!
PROOFS. A port whose link goes DOWN (R82, R148, R149, R162): the frames it loses with their trace offers and credits, and the port
itself, up to what the units then do.
-/

namespace Sys2Proof.Machine

/-! ### The loss in the Link Trace (R162, R175) -/

/-- The Link Trace is offered the loss of a port's frames alike by either state. -/
structure State.LosesAs (s t : State) (p : Port) : Prop where
  micros : t.micros = s.micros
  sentAt : (t.port p).sentAt = (s.port p).sentAt
  ltr : t.ltr = s.ltr

/-- R162: the loss of frames of a port is offered to the Link Trace, in their order. -/
def State.tracesLost (s : State) (p : Port) (fs : List (Frame × Bool)) : State :=
  fs.foldl (fun w f => w.traceDrop p .linkLoss (viewOfFrame f.1)) s

theorem State.LosesAs.trans {s t u : State} {p : Port} (h : s.LosesAs t p) (k : t.LosesAs u p) : s.LosesAs u p :=
  ⟨k.micros.trans h.micros, k.sentAt.trans h.sentAt, k.ltr.trans h.ltr⟩

/-- R175: the loss of a frame is stamped from the send end of its port. -/
theorem State.LosesAs.traceDrop {s t : State} {p : Port} (h : s.LosesAs t p) (v : FrameView) :
    (s.traceDrop p .linkLoss v).LosesAs (t.traceDrop p .linkLoss v) p := by
  refine ⟨h.micros, h.sentAt, ?_⟩
  have hentry : t.traceEntry { port := p, action := .dropped, error := some .linkLoss, view := v } =
      s.traceEntry { port := p, action := .dropped, error := some .linkLoss, view := v } := by
    unfold State.traceEntry State.now
    rw [h.micros]
    show ({ gap := gapSince _ ((t.port p).sentAt _), .. } : TraceEntry) = { gap := gapSince _ ((s.port p).sentAt _), .. }
    rw [h.sentAt]
  unfold State.traceDrop State.offerTrace
  rw [hentry, h.ltr]

theorem State.LosesAs.tracesLost {s t : State} {p : Port} (h : s.LosesAs t p) (fs : List (Frame × Bool)) :
    (t.tracesLost p fs).ltr = (s.tracesLost p fs).ltr := by
  induction fs generalizing s t with
  | nil => exact h.ltr
  | cons f rest ih => exact ih (h.traceDrop _)

/-! ### The frames of the port (R82, R149) -/

/-- R82: the credits of the station's own among frames of a port. -/
def lostCredits (fs : List (Frame × Bool)) : Nat := ((fs.filter Prod.snd).map (fun f => carriedCredits f.1)).sum

theorem lostCredits_cons (f : Frame × Bool) (fs : List (Frame × Bool)) :
    lostCredits (f :: fs) = (if f.2 then carriedCredits f.1 else 0) + lostCredits fs := by
  unfold lostCredits
  cases h : f.2 with
  | true =>
    rw [List.filter_cons_of_pos h, List.map_cons, List.sum_cons]
    rfl
  | false =>
    rw [List.filter_cons_of_neg (Bool.eq_false_iff.mp h)]
    exact (Nat.zero_add _).symm

/-- R82, R149: frames of a port are discarded, counted, and offered to the trace. -/
structure State.Discards (s t : State) (p : Port) (fs : List (Frame × Bool)) : Prop where
  rest : t = { s with upPort := t.upPort, downPort := t.downPort, ltr := t.ltr, counters := t.counters }
  port : t.port p = { s.port p with counters := (t.port p).counters }
  other : t.port p.other = s.port p.other
  discarded : t.portCounter p .linkLossDiscards = satAdd (s.portCounter p .linkLossDiscards) fs.length
  portOnly : ∀ d, d ≠ .linkLossDiscards → t.portCounter p d = s.portCounter p d
  credits : t.counter .creditsDiscarded = satAdd (s.counter .creditsDiscarded) (lostCredits fs)
  counted : CountsOnly [.creditsDiscarded] s t
  ltr : t.ltr = (s.tracesLost p fs).ltr

theorem State.counter_setPort (s : State) (p : Port) (x : LinkPort) (c : Counter) : (s.setPort p x).counter c = s.counter c := by
  cases p <;> rfl

theorem State.portCounter_portCount (s : State) (p : Port) (c : PortCounter) :
    (s.portCount p c).portCounter p c = satAdd (s.portCounter p c) 1 := by
  unfold State.portCounter State.portCount
  rw [State.portCountBy_port]
  exact LinkPort.countBy_same _ _ _

theorem State.portCounter_portCount_ne (s : State) (p : Port) {c d : PortCounter} (h : c ≠ d) :
    (s.portCount p c).portCounter p d = s.portCounter p d := by
  unfold State.portCounter State.portCount
  rw [State.portCountBy_port]
  exact LinkPort.countBy_ne _ _ h

theorem State.discard_eq (s : State) (p : Port) (f : Frame × Bool) : s.discard p f =
    ((s.portCount p .linkLossDiscards).traceDrop p .linkLoss (viewOfFrame f.1)).countBy .creditsDiscarded
      (if f.2 then carriedCredits f.1 else 0) := by
  unfold State.discard
  dsimp only
  split
  · rfl
  · rw [State.countBy_zero]

theorem State.discard_discards (s : State) (p : Port) (f : Frame × Bool) : s.Discards (s.discard p f) p [f] := by
  rw [State.discard_eq]
  have hport : (s.portCount p .linkLossDiscards).port p = (s.port p).countBy .linkLossDiscards 1 := s.portCountBy_port p _ 1
  have hsame : s.LosesAs (s.portCount p .linkLossDiscards) p :=
    ⟨s.portCount_micros p _, by rw [hport]; rfl, s.portCount_ltr p _⟩
  constructor
  · cases p <;> rfl
  · cases p <;> rfl
  · cases p <;> rfl
  · exact s.portCounter_portCount p _
  · exact fun d hd => s.portCounter_portCount_ne p hd.symm
  · rw [State.counter_countBy, lostCredits_cons]
    refine congrArg (satAdd · _) ?_
    cases p <;> rfl
  · exact CountsOnly.trans (t := (s.portCount p .linkLossDiscards).traceDrop p .linkLoss (viewOfFrame f.1))
      (.of_counters (s.portCount_counters p _)) (State.countBy_only List.mem_cons_self _ _)
  · exact hsame.tracesLost [f]

theorem State.Discards.losesAs {s t : State} {p : Port} {fs : List (Frame × Bool)} (h : s.Discards t p fs) :
    (s.tracesLost p fs).LosesAs t p := by
  have hkeeps (fs : List (Frame × Bool)) (w : State) :
      (w.tracesLost p fs).micros = w.micros ∧ (w.tracesLost p fs).port p = w.port p := by
    induction fs generalizing w with
    | nil => exact ⟨rfl, rfl⟩
    | cons f rest ih => exact ih (w.traceDrop p .linkLoss (viewOfFrame f.1))
  obtain ⟨hmicros, hport⟩ := hkeeps fs s
  refine ⟨?_, ?_, h.ltr⟩
  · rw [hmicros, h.rest]
  · rw [hport, h.port]
    rfl

theorem State.Discards.trans {s t u : State} {p : Port} {fs gs : List (Frame × Bool)} (h : s.Discards t p fs)
    (k : t.Discards u p gs) : s.Discards u p (fs ++ gs) where
  rest := k.rest.trans (by rw [h.rest])
  port := k.port.trans (by rw [h.port])
  other := k.other.trans h.other
  discarded := by rw [k.discarded, h.discarded, satAdd_satAdd, List.length_append]
  portOnly d hd := (k.portOnly d hd).trans (h.portOnly d hd)
  credits := by
    rw [k.credits, h.credits, satAdd_satAdd]
    unfold lostCredits
    rw [List.filter_append, List.map_append, List.sum_append]
  counted := h.counted.trans k.counted
  ltr := by
    rw [k.ltr, h.losesAs.tracesLost]
    unfold State.tracesLost
    rw [List.foldl_append]

/-- R82, R149, R162: every frame of a list is discarded. -/
theorem State.discardAll_discards (s : State) (p : Port) (fs : List (Frame × Bool)) : s.Discards (s.discardAll p fs) p fs := by
  induction fs generalizing s with
  | nil => exact ⟨rfl, rfl, rfl, (satAdd_zero _).symm, fun _ _ => rfl, (satAdd_zero _).symm, .refl s, rfl⟩
  | cons f rest ih => exact (s.discard_discards p f).trans (ih (s.discard p f))

/-! ### The port itself (R132, R145, R148, R173) -/

/-- R145, R148, R173: a port whose link goes DOWN. -/
def LinkPort.down (x : LinkPort) (now : Time) : LinkPort :=
  { x with
    link := .down, validRun := 0, errorRun := 0, silence := none, receiver := .hunting
    transmitter := .brk (after now 4), forward := [], localQ := [], starvation := 0
    check := if x.check = .passed then .pending else x.check, checkTimer := none }

/-- A link has gone DOWN and its port is empty, before the units act on it. -/
structure State.GoesDown (s t : State) (p : Port) (c : PortCounter) : Prop where
  rest : t = { s with upPort := t.upPort, downPort := t.downPort, ltr := t.ltr, counters := t.counters }
  port : t.port p = { (s.port p).down s.now with
    sendEnd := (t.port p).sendEnd, recvEnd := (t.port p).recvEnd, counters := (t.port p).counters }
  other : t.port p.other = s.port p.other
  discarded : t.portCounter p .linkLossDiscards = satAdd (s.portCounter p .linkLossDiscards) (s.port p).heldFrames.length
  gone : t.portCounter p c = satAdd (s.portCounter p c) 1
  portOnly : ∀ d, d ≠ .linkLossDiscards → d ≠ c → t.portCounter p d = s.portCounter p d
  credits : t.counter .creditsDiscarded = satAdd (s.counter .creditsDiscarded) (lostCredits (s.port p).heldFrames)
  counted : CountsOnly [.creditsDiscarded] s t
  ltr : t.ltr = (s.tracesLost p (s.port p).heldFrames).ltr

/-- The frames of a port whose link goes DOWN have been discarded, and its receiver hunts. -/
def State.discarded (s : State) (p : Port) (c : PortCounter) : State :=
  ((s.portCount p c).discardAll p (s.port p).heldFrames).dropAssembly p

/-- A link has gone DOWN, before the units act on it. -/
def State.downed (s : State) (p : Port) (c : PortCounter) : State :=
  ((s.discarded p c).setPort p
    { (s.discarded p c).port p with
      link := .down, validRun := 0, errorRun := 0, silence := none, receiver := .hunting
      transmitter := .brk (after (s.discarded p c).now Config.breakMs), forward := [], localQ := [], starvation := 0
      sendEnd := ((s.discarded p c).port p).sentAt (s.discarded p c).micros }).unpassCheck p

/-- R132, R167: what the units do once the port is empty. -/
def State.unitsHearLoss (s : State) (p : Port) : State :=
  if s.onLine then
    if s.hasNeighbour p then (s.raiseOwn (lossCause p)).deriveMode else s
  else if p = .up ∧ s.waitsForPos then s.headDecision
  else s

theorem State.linkGoesDown_eq (s : State) (p : Port) (c : PortCounter) : s.linkGoesDown p c = (s.downed p c).unitsHearLoss p := rfl

/-- Dropping the frame under assembly keeps the receive end alone. -/
theorem State.dropAssembly_eq (s : State) (p : Port) :
    s.dropAssembly p = s.setPort p { s.port p with recvEnd := ((s.dropAssembly p).port p).recvEnd } := by
  unfold State.dropAssembly
  split
  · cases p <;> rfl
  · cases p <;> rfl

theorem State.downed_eq (s : State) (p : Port) (c : PortCounter) : ∃ x : LinkPort,
    s.downed p c = ((s.portCount p c).discardAll p (s.port p).heldFrames).setPort p x ∧
    x = { (((s.portCount p c).discardAll p (s.port p).heldFrames).port p).down
        ((s.portCount p c).discardAll p (s.port p).heldFrames).now with
      sendEnd := x.sendEnd, recvEnd := x.recvEnd } := by
  unfold State.downed State.discarded
  generalize (s.portCount p c).discardAll p (s.port p).heldFrames = t
  rw [State.dropAssembly_eq]
  cases p <;> exact ⟨_, rfl, rfl⟩

/-- R148, R149: every item of a port whose link goes DOWN. -/
theorem State.downed_goesDown (s : State) (p : Port) {c : PortCounter} (hc : c ≠ .linkLossDiscards) :
    s.GoesDown (s.downed p c) p c := by
  obtain ⟨x, heq, hx⟩ := s.downed_eq p c
  have hlost := (s.portCount p c).discardAll_discards p (s.port p).heldFrames
  have hsame : s.LosesAs (s.portCount p c) p :=
    ⟨s.portCount_micros p c, by rw [State.portCount, State.portCountBy_port]; rfl, s.portCount_ltr p c⟩
  have hgone : (s.portCount p c).portCounter p c = satAdd (s.portCounter p c) 1 := s.portCounter_portCount p c
  have hothers (d : PortCounter) (hd : d ≠ c) := s.portCounter_portCount_ne p hd.symm
  have hcounted := CountsOnly.of_counters (cs := [.creditsDiscarded]) (s.portCount_counters p c)
  have hcredits : (s.portCount p c).counter .creditsDiscarded = s.counter .creditsDiscarded :=
    s.counter_setPort p _ _
  have hport : (s.portCount p c).port p = { s.port p with counters := ((s.portCount p c).port p).counters } := by
    cases p <;> rfl
  have hother : (s.portCount p c).port p.other = s.port p.other := s.portCountBy_other p c 1
  have hnow : ((s.portCount p c).discardAll p (s.port p).heldFrames).now = s.now := by
    have hmicros : ((s.portCount p c).discardAll p (s.port p).heldFrames).micros = (s.portCount p c).micros := by rw [hlost.rest]
    unfold State.now
    rw [hmicros, s.portCount_micros]
  have hrest : (s.portCount p c).discardAll p (s.port p).heldFrames = { s with
      upPort := ((s.portCount p c).discardAll p (s.port p).heldFrames).upPort
      downPort := ((s.portCount p c).discardAll p (s.port p).heldFrames).downPort
      ltr := ((s.portCount p c).discardAll p (s.port p).heldFrames).ltr
      counters := ((s.portCount p c).discardAll p (s.port p).heldFrames).counters } :=
    hlost.rest.trans (by cases p <;> rfl)
  rw [heq]
  generalize (s.portCount p c).discardAll p (s.port p).heldFrames = t at *
  have hkept (d : PortCounter) : (t.setPort p x).portCounter p d = t.portCounter p d := by
    unfold State.portCounter
    rw [State.setPort_port, hx]
    rfl
  constructor
  · rw [hrest]
    cases p <;> rfl
  · rw [State.setPort_port]
    rw [hlost.port, hport, hnow] at hx
    generalize (t.port p).counters = counted at hx
    rw [hx]
    rfl
  · rw [State.setPort_other, hlost.other, hother]
  · rw [hkept, hlost.discarded, hothers _ hc.symm]
  · rw [hkept, hlost.portOnly _ hc, hgone]
  · exact fun d hd hdc => by rw [hkept, hlost.portOnly _ hd, hothers _ hdc]
  · rw [State.counter_setPort, hlost.credits, hcredits]
  · exact (hcounted.trans hlost.counted).trans (.of_counters (t.setPort_counters p _))
  · rw [State.setPort_ltr, hlost.ltr, hsame.tracesLost]

end Sys2Proof.Machine
end

section
/-!
PROOFS. The two ways a link goes DOWN (R148): the eighth error character in a row, with the frame it closes (R151, log 22), and the
silence; and the port they leave.
-/

namespace Sys2Proof.Machine

/-! ### The eighth error character (R148, R151) -/

/-- R151, log 22: where an error character closes a frame under reception, that frame is offered to the Link Trace first. -/
def State.tracesOpen (s : State) (p : Port) (byErrors : Bool) : State :=
  match (s.port p).receiver with
  | .inFrame got => if byErrors then s.traceDrop p .charError (viewOfBytes got) else s
  | .hunting => s

theorem State.tracesLoss_eq (s : State) (p : Port) (byErrors : Bool) :
    s.tracesLoss p byErrors = (s.tracesOpen p byErrors).tracesLost p (s.port p).heldFrames := rfl

/-- What has happened at a port as its link goes DOWN: at most an error character taken. -/
structure State.LossBegins (s t : State) (p : Port) (byErrors : Bool) : Prop where
  rest : t = { s with upPort := t.upPort, downPort := t.downPort, ltr := t.ltr }
  port : t.port p = { s.port p with
    errorRun := (t.port p).errorRun, receiver := (t.port p).receiver, recvEnd := (t.port p).recvEnd
    counters := (t.port p).counters }
  other : t.port p.other = s.port p.other
  portOnly : ∀ d, d ≠ .charErrors → d ≠ .frameCharErrors → t.portCounter p d = s.portCounter p d
  loses : (s.tracesOpen p byErrors).LosesAs t p

theorem State.LossBegins.silence (s : State) (p : Port) : s.LossBegins s p false := by
  refine ⟨rfl, rfl, rfl, fun _ _ _ => rfl, ?_⟩
  unfold State.tracesOpen
  cases (s.port p).receiver <;> exact ⟨rfl, rfl, rfl⟩

/-- R151: the eighth error character has been counted, and has closed a frame under reception. -/
def State.errorTaken (s : State) (p : Port) : State := ((s.sevenErrors p).portCount p .charErrors).receiverTakes p .error

/-- R148: the eighth error character in a row has been taken. -/
def State.eighthError (s : State) (p : Port) : State :=
  (s.errorTaken p).setPort p { (s.errorTaken p).port p with errorRun := 8 }

theorem State.errorTaken_hunting {s : State} {p : Port} (h : (s.port p).receiver = .hunting) :
    s.errorTaken p = s.setPort p { (s.port p).countBy .charErrors 1 with errorRun := 7 } := by
  have hreceiver : (((s.sevenErrors p).portCount p .charErrors).port p).receiver = .hunting := by
    cases p <;> exact h
  unfold State.errorTaken State.receiverTakes
  rw [hreceiver]
  cases p <;> rfl

/-- R151: what dropping a frame under reception leaves. -/
theorem State.dropOpen_eq (s : State) (p : Port) (got : List Byte) (c : PortCounter) (k : ErrorKind) : s.dropOpen p got c k =
    { s.setPort p { (s.port p).countBy c 1 with receiver := .hunting, recvEnd := some s.micros } with
      ltr := (s.traceDrop p k (viewOfBytes got)).ltr } := by
  cases p <;> rfl

theorem State.errorCounted_ltr (s : State) (p : Port) : ((s.sevenErrors p).portCount p .charErrors).ltr = s.ltr := by
  cases p <;> rfl

theorem State.errorCounted_tracesAs (s : State) (p : Port) : s.TracesAs ((s.sevenErrors p).portCount p .charErrors) where
  micros := by cases p <;> rfl
  recvEnd q := by cases p <;> cases q <;> rfl
  sentAt q := by cases p <;> cases q <;> rfl
  forward q := by cases p <;> cases q <;> rfl
  canCarry q := by cases p <;> cases q <;> rfl

theorem State.errorTaken_inFrame {s : State} {p : Port} {got : List Byte} (h : (s.port p).receiver = .inFrame got) :
    s.errorTaken p =
      { s.setPort p { ((s.port p).countBy .charErrors 1).countBy .frameCharErrors 1 with
          errorRun := 7, receiver := .hunting, recvEnd := some s.micros } with
        ltr := (s.traceDrop p .charError (viewOfBytes got)).ltr } := by
  have hreceiver : (((s.sevenErrors p).portCount p .charErrors).port p).receiver = .inFrame got := by
    cases p <;> exact h
  have htrace := s.errorCounted_tracesAs p
  unfold State.errorTaken State.receiverTakes
  rw [hreceiver]
  refine (State.dropOpen_eq _ p got _ _).trans ?_
  have hltr := htrace.offerTrace (s.errorCounted_ltr p)
    { port := p, action := .dropped, error := some .charError, view := viewOfBytes got }
  unfold State.traceDrop
  rw [hltr]
  cases p <;> rfl

theorem State.errorTaken_errorRun (s : State) (p : Port) : ((s.errorTaken p).port p).errorRun = 7 := by
  cases h : (s.port p).receiver with
  | hunting =>
    rw [State.errorTaken_hunting h]
    cases p <;> rfl
  | inFrame got =>
    rw [State.errorTaken_inFrame h]
    cases p <;> rfl

/-- One port changes, and the trace. -/
theorem State.LossBegins.of_setPort {s : State} {p : Port} {x : LinkPort} {l : Ltr} {byErrors : Bool}
    (hx : x = { s.port p with errorRun := x.errorRun, receiver := x.receiver, recvEnd := x.recvEnd, counters := x.counters })
    (hcounters : ∀ d : PortCounter, d ≠ .charErrors → d ≠ .frameCharErrors →
      x.counters.get d.idx = (s.port p).counters.get d.idx)
    (hltr : l = (s.tracesOpen p byErrors).ltr) : s.LossBegins { s.setPort p x with ltr := l } p byErrors := by
  have hport : ({ s.setPort p x with ltr := l } : State).port p = x := s.setPort_port p x
  have hopen : (s.tracesOpen p byErrors).micros = s.micros ∧ (s.tracesOpen p byErrors).port p = s.port p := by
    unfold State.tracesOpen
    split
    · split <;> exact ⟨rfl, rfl⟩
    · exact ⟨rfl, rfl⟩
  refine ⟨by cases p <;> rfl, ?_, s.setPort_other p x, ?_, (s.setPort_micros p x).trans hopen.1.symm, ?_, hltr⟩
  · rw [hport]
    exact hx
  · unfold State.portCounter
    rw [hport]
    exact hcounters
  · rw [hport, hopen.2, hx]
    rfl

/-- R151: the error character, and the frame that it closes. -/
theorem State.errorTaken_begins (s : State) (p : Port) : s.LossBegins (s.errorTaken p) p true := by
  cases h : (s.port p).receiver with
  | hunting =>
    have hltr : s.ltr = (s.tracesOpen p true).ltr := by
      unfold State.tracesOpen
      rw [h]
    have heq : s.errorTaken p =
        { s.setPort p { (s.port p).countBy .charErrors 1 with errorRun := 7 } with ltr := s.ltr } :=
      (State.errorTaken_hunting h).trans (by cases p <;> rfl)
    rw [heq]
    exact .of_setPort rfl (fun d hd _ => LinkPort.countBy_ne _ 1 hd.symm) hltr
  | inFrame got =>
    have hltr : (s.traceDrop p .charError (viewOfBytes got)).ltr = (s.tracesOpen p true).ltr := by
      unfold State.tracesOpen
      rw [h]
      rfl
    rw [State.errorTaken_inFrame h]
    exact .of_setPort rfl (fun d hd hdf => (LinkPort.countBy_ne _ 1 hdf.symm).trans (LinkPort.countBy_ne _ 1 hd.symm)) hltr

theorem State.eighthError_begins (s : State) (p : Port) : s.LossBegins (s.eighthError p) p true := by
  obtain ⟨hrest, hport, hother, hportOnly, hloses⟩ := s.errorTaken_begins p
  unfold State.eighthError
  generalize s.errorTaken p = t at *
  have hcounters (d : PortCounter) : (t.setPort p { t.port p with errorRun := 8 }).portCounter p d = t.portCounter p d := by
    cases p <;> rfl
  refine ⟨?_, ?_, (t.setPort_other p _).trans hother, fun d hd hdf => (hcounters d).trans (hportOnly d hd hdf), ?_⟩
  · rw [hrest]
    cases p <;> rfl
  · rw [State.setPort_port, hport]
  · exact hloses.trans ⟨t.setPort_micros p _, by rw [State.setPort_port]; rfl, t.setPort_ltr p _⟩

/-! ### The port after the loss (R148, R149) -/

/-- A link has been lost, before the units act on it. -/
structure State.LinkLost (s t : State) (p : Port) (byErrors : Bool) : Prop where
  rest : t = { s with upPort := t.upPort, downPort := t.downPort, ltr := t.ltr, counters := t.counters }
  port : t.port p = { (s.port p).down s.now with
    sendEnd := (t.port p).sendEnd, recvEnd := (t.port p).recvEnd, counters := (t.port p).counters }
  other : t.port p.other = s.port p.other
  discarded : t.portCounter p .linkLossDiscards = satAdd (s.portCounter p .linkLossDiscards) (s.port p).heldFrames.length
  errors : t.portCounter p .linkDownsErrors = satAdd (s.portCounter p .linkDownsErrors) (if byErrors then 1 else 0)
  silence : t.portCounter p .linkDownsSilence = satAdd (s.portCounter p .linkDownsSilence) (if byErrors then 0 else 1)
  credits : t.counter .creditsDiscarded = satAdd (s.counter .creditsDiscarded) (lostCredits (s.port p).heldFrames)
  counted : CountsOnly [.creditsDiscarded] s t
  ltr : t.ltr = (s.tracesLoss p byErrors).ltr

/-- The counter of the links that went DOWN the one way or the other. -/
def downsCounter (byErrors : Bool) : PortCounter := if byErrors then .linkDownsErrors else .linkDownsSilence

theorem State.LossBegins.lost {s t : State} {p : Port} {byErrors : Bool} (h : s.LossBegins t p byErrors) :
    s.LinkLost (t.downed p (downsCounter byErrors)) p byErrors := by
  obtain ⟨hrest, hport, hother, hportOnly, hloses⟩ := h
  have hdown := t.downed_goesDown p (c := downsCounter byErrors) (by cases byErrors <;> decide)
  generalize t.downed p (downsCounter byErrors) = w at *
  have hnow : t.now = s.now := by rw [hrest]; rfl
  have hheld : (t.port p).heldFrames = (s.port p).heldFrames := by rw [hport]; rfl
  have hcounters : t.counters = s.counters := by rw [hrest]
  have hcounter (c : Counter) : t.counter c = s.counter c := congrArg (fun x : Vector _ _ => x.get c.idx) hcounters
  obtain ⟨wrest, wport, wother, wdiscarded, wgone, wportOnly, wcredits, wcounted, wltr⟩ := hdown
  rw [hheld] at wdiscarded wcredits wltr
  constructor
  · rw [wrest, hrest]
  · rw [wport, hport, hnow]
    rfl
  · rw [wother, hother]
  · rw [wdiscarded, hportOnly _ (by decide) (by decide)]
  · cases byErrors with
    | true => exact wgone.trans (congrArg (satAdd · 1) (hportOnly _ (by decide) (by decide)))
    | false =>
      refine ((wportOnly _ (by decide) (by decide)).trans (hportOnly _ (by decide) (by decide))).trans ?_
      exact (satAdd_zero _).symm
  · cases byErrors with
    | false => exact wgone.trans (congrArg (satAdd · 1) (hportOnly _ (by decide) (by decide)))
    | true =>
      refine ((wportOnly _ (by decide) (by decide)).trans (hportOnly _ (by decide) (by decide))).trans ?_
      exact (satAdd_zero _).symm
  · rw [wcredits, hcounter]
  · exact (CountsOnly.of_counters hcounters).trans wcounted
  · rw [wltr, hloses.tracesLost, State.tracesLoss_eq]

/-! ### The commands (R148) -/

theorem State.errorChar_eighth {s : State} {p : Port} (h : s.linkIsUp p = true) :
    (s.sevenErrors p).errorChar p = (s.eighthError p).linkGoesDown p .linkDownsErrors := by
  have hup : ((s.sevenErrors p).portCount p .charErrors).linkIsUp p = true := by cases p <;> exact h
  have hrun := s.errorTaken_errorRun p
  unfold State.errorChar
  dsimp only
  rw [if_pos hup]
  change (if 8 ≤ ((s.errorTaken p).port p).errorRun + 1 then
    ((s.errorTaken p).setPort p { (s.errorTaken p).port p with
      errorRun := ((s.errorTaken p).port p).errorRun + 1 }).linkGoesDown p .linkDownsErrors else _) = _
  rw [hrun]
  rfl

theorem exec_linkDownErrors_eq {e : Env} {p : Port} {s : State} (h : s.linkIsUp p = true) : exec (.linkDownErrors e p) s =
    .next ((((s.observe e).eighthError p).downed p .linkDownsErrors).unitsHearLoss p) := by
  have hup : (s.observe e).linkIsUp p = true := by cases p <;> exact h
  exact congrArg Host.Outcome.next
    (((if_pos hup).trans (State.errorChar_eighth hup)).trans (State.linkGoesDown_eq _ p _))

theorem exec_linkDownSilence_eq {e : Env} {p : Port} {s : State} (h : s.linkIsUp p = true)
    (hdue : due (s.observe e).now (s.port p).silence = true) : exec (.linkDownSilence e p) s =
    .next (((s.observe e).downed p .linkDownsSilence).unitsHearLoss p) := by
  have hboth : ((s.observe e).linkIsUp p && due (s.observe e).now ((s.observe e).port p).silence) = true := by
    rw [Bool.and_eq_true]
    cases p <;> exact ⟨h, hdue⟩
  exact congrArg Host.Outcome.next ((if_pos hboth).trans (State.linkGoesDown_eq _ p _))

end Sys2Proof.Machine
end

section
/-!
PROOFS. What the units do when a link goes DOWN (R130, R132, R167): the LINK_LOSS cause of a station on line, and the head decision
of one that waits in DISCOVER.
-/

namespace Sys2Proof.Machine

/-! ### A raise and the ports that are DOWN (R130) -/

/-- R130: a port whose link is DOWN gets no HOLD. -/
theorem State.raiseOwn_linkDown {s : State} {p : Port} (h : s.linkIsUp p = false) (c : Cause) :
    (s.raiseOwn c).port p = s.port p := by
  by_cases hquiet : s.hlu.hasOwn c = true ∨ s.isSingle = true
  · obtain ⟨hports, -⟩ := State.raiseOwn_quiet hquiet
    exact hports p
  · obtain ⟨hnew, hlines⟩ := not_or.mp hquiet
    obtain ⟨hports, -⟩ := State.raiseOwn_offers (Bool.eq_false_iff.mpr hnew) (Bool.eq_false_iff.mpr hlines)
    exact (hports p).trans (if_neg (Bool.eq_false_iff.mp h))

theorem State.offerBothCounted_linksDown {s : State} (h : ∀ p, s.linkIsUp p = false) (x : Payload) (a b : Counter) :
    s.offerBothCounted x a b = s := by
  rw [State.offerBothCounted_eq, State.broadcastAt_down (h .up), State.broadcastAt_down (h .down)]

/-- R130, R162: a raise that offers no frame offers none to the Link Trace. -/
theorem State.raiseOwn_ltr {s : State} {c : Cause}
    (h : s.hlu.hasOwn c = true ∨ s.isSingle = true ∨ ∀ p, s.linkIsUp p = false) : (s.raiseOwn c).ltr = s.ltr := by
  cases hown : s.hlu.hasOwn c with
  | true => rw [State.raiseOwn_old hown]
  | false =>
    have hsilent : (s.withOwn c).offerHold c = s.withOwn c := by
      rcases h.resolve_left (by rw [hown]; exact Bool.false_ne_true) with hsingle | hdown
      · exact State.offerHold_single _ _ ((s.withOwn_isSingle c).trans hsingle)
      · cases hsingle : s.isSingle with
        | true => exact State.offerHold_single _ _ ((s.withOwn_isSingle c).trans hsingle)
        | false =>
          rw [State.offerHold_lines ((s.withOwn_isSingle c).trans hsingle)]
          refine State.offerBothCounted_linksDown (fun p => ?_) _ _ _
          rw [State.withOwn_eq]
          exact hdown p
    obtain ⟨x, hx⟩ := State.raiseOwn_new hown
    rw [hsilent] at hx
    rw [hx]
    show (s.withOwn c).ltr = s.ltr
    rw [State.withOwn_eq]

theorem State.deriveMode_ltr (s : State) : s.deriveMode.ltr = s.ltr := by rw [State.deriveMode_eq]

/-- R167: a station that waits for its POS is off line. -/
theorem State.onLine_of_waitsForPos {s : State} (h : s.waitsForPos = true) : s.onLine = false := by
  simp only [State.waitsForPos, Bool.and_eq_true, beq_iff_eq] at h
  obtain ⟨⟨hdiscover, -⟩, -⟩ := h
  exact State.onLine_of_discover hdiscover

/-! ### What the units leave -/

/-- R132, R148, R167: what the units make of a link that has gone DOWN at a port. -/
structure State.UnitsHear (w t : State) (p : Port) : Prop where
  port : t.port p = w.port p
  other : t.port p.other = (w.port p.other).offered (t.port p.other)
  discarded : t.counter .creditsDiscarded = w.counter .creditsDiscarded
  raises : w.onLine = true → w.hasNeighbour p = true →
    t.hlu.hasOwn (lossCause p) = true ∧ t.ldu = { w.ldu with state := modeOf t.hlu.entries }
  raised : w.onLine = true → w.hasNeighbour p = true → w.hlu.hasOwn (lossCause p) = false →
    w.OwnRaised t (lossCause p) ∧
    (w.isSingle = false → w.hasRoom p.other = true →
      (t.port p.other).localQ = w.joined p.other dstAll (w.holdOf (lossCause p))) ∧
    (w.linkIsUp p.other = false ∨ w.isSingle = true → t.port p.other = w.port p.other)
  stands : w.onLine = true → w.hlu.hasOwn (lossCause p) = true → t.hlu = w.hlu ∧ t.port p.other = w.port p.other
  quiet : w.onLine = true →
    w.hasNeighbour p = false ∨ w.hlu.hasOwn (lossCause p) = true ∨ w.linkIsUp p.other = false ∨ w.isSingle = true →
    t.ltr = w.ltr
  keeps : w.onLine = true → t.cq = w.cq ∧ t.exu = w.exu ∧ t.tail = w.tail ∧ t.ivi = w.ivi ∧ t.tau = w.tau
  alone : w.onLine = true → w.hasNeighbour p = false → t.hlu = w.hlu ∧ t.ldu = w.ldu
  waits : w.onLine = false → p = .down ∨ w.waitsForPos = false ∨ w.ldu.seen = true → t = w
  heads : p = .up → w.waitsForPos = true → w.ldu.seen = false → t = w.becomeHead

/-- R130, R132: a station on line with a neighbour on the side of the loss raises its cause. -/
theorem State.raisesLoss {w : State} {p : Port} (hon : w.onLine = true) (hdown : w.linkIsUp p = false)
    (hnext : w.hasNeighbour p = true) : w.UnitsHear (w.raiseOwn (lossCause p)).deriveMode p := by
  have hraised := State.raiseOwn_ownRaised w (lossCause p)
  have hhas := State.raiseOwn_hasOwn w (lossCause p)
  have hquiet := State.raiseOwn_quiet (s := w) (c := lossCause p)
  have hoffers := State.raiseOwn_offers (s := w) (c := lossCause p)
  have honly := State.raiseOwn_only w (lossCause p)
  have hframe := (State.raiseOwn_hold w (lossCause p)).trans (State.deriveMode_hold _)
  have hdowned {q : Port} (hq : w.linkIsUp q = false) := State.raiseOwn_linkDown hq (lossCause p)
  have hltr := State.raiseOwn_ltr (s := w) (c := lossCause p)
  have hold (h : w.hlu.hasOwn (lossCause p) = true) : w.raiseOwn (lossCause p) = w := State.raiseOwn_old h
  have hldu := State.raiseOwn_ldu w (lossCause p)
  generalize w.raiseOwn (lossCause p) = r at *
  have honr : r.onLine = true := by unfold State.onLine; rw [hldu]; exact hon
  have hsame (d : Counter) (hd : d ∈ raiseCounters) : r.deriveMode.counter d = r.counter d :=
    r.deriveMode_only d (modeCounters_disjoint d hd)
  constructor
  · exact (r.deriveMode_port p).trans (hdowned hdown)
  · exact hframe.offered p.other
  · exact (r.deriveMode_only _ (by decide)).trans (honly _ (by decide))
  · exact fun _ _ => ⟨r.deriveMode_hlu ▸ hhas, by rw [State.deriveMode_ldu honr, State.deriveMode_hlu, hldu]⟩
  · refine fun _ _ hnew => ⟨hraised.of_same r.deriveMode_hlu hsame, fun hlines hroom => ?_, fun hsilent => ?_⟩
    · obtain ⟨hports, -⟩ := hoffers hnew hlines
      obtain ⟨hup, -⟩ := (w.hasRoom_iff p.other).mp hroom
      rw [State.deriveMode_port, hports, if_pos hup]
      exact State.afterOffer_joined hroom _ _
    · rw [State.deriveMode_port]
      rcases hsilent with hother | hsingle
      · exact hdowned hother
      · obtain ⟨hports, -⟩ := hquiet (.inr hsingle)
        exact hports _
  · exact fun _ hstands => by
      rw [State.deriveMode_hlu, State.deriveMode_port, hold hstands]
      exact ⟨rfl, rfl⟩
  · refine fun _ hsilent => r.deriveMode_ltr.trans (hltr ?_)
    rcases hsilent with halone | hstands | hother | hsingle
    · exact absurd (halone.symm.trans hnext) Bool.false_ne_true
    · exact .inl hstands
    · exact .inr (.inr fun q => by cases p <;> cases q <;> assumption)
    · exact .inr (.inl hsingle)
  · exact fun _ => ⟨hframe.cq, hframe.exu, hframe.tail, hframe.ivi, hframe.tau⟩
  · exact fun _ halone => absurd (halone.symm.trans hnext) Bool.false_ne_true
  · exact fun hoff => absurd (hoff.symm.trans hon) Bool.false_ne_true
  · exact fun _ hwaits => absurd ((State.onLine_of_waitsForPos hwaits).symm.trans hon) Bool.false_ne_true

/-- R132, R167: a loss that no unit acts on. -/
theorem State.UnitsHear.still {w : State} {p : Port} (hon : w.onLine = true → w.hasNeighbour p = false)
    (hoff : p = .up → w.waitsForPos = true → w.ldu.seen = true) : w.UnitsHear w p where
  port := rfl
  other := rfl
  discarded := rfl
  raises h hnext := absurd ((hon h).symm.trans hnext) Bool.false_ne_true
  raised h hnext := absurd ((hon h).symm.trans hnext) Bool.false_ne_true
  stands _ _ := ⟨rfl, rfl⟩
  quiet _ _ := rfl
  keeps _ := ⟨rfl, rfl, rfl, rfl, rfl⟩
  alone _ _ := ⟨rfl, rfl⟩
  waits _ _ := rfl
  heads hp hwaits hseen := absurd (hseen.symm.trans (hoff hp hwaits)) Bool.false_ne_true

/-! ### The head decision (R167) -/

/-- R167: the station has found itself head, at position 0. -/
def State.claimsHead (w : State) : State := { w with ldu := { w.ldu with headClaim := true, position := some 0 } }

theorem State.becomeHead_up {w : State} (h : w.linkIsUp .down = true) : w.becomeHead = w.claimsHead.headPos := if_pos h

theorem State.becomeHead_down {w : State} (h : w.linkIsUp .down = false) : w.becomeHead = w.claimsHead.discoverOrBudget 1 :=
  if_neg (Bool.eq_false_iff.mp h)

/-- R167: the POS that a head sends. -/
def State.posPayload (s : State) : Payload := .pos 0 (BitVec.ofNat 16 s.img.recipeId) (BitVec.ofNat 8 s.img.version) true

/-- R167: the POS has been offered downstream. -/
def State.offersPos (s : State) : State := s.offerCountTaken .down (s.frame dstAll s.posPayload) .posSent

theorem State.offerCountTaken_eq (s : State) (p : Port) (f : Frame) (a : Counter) :
    s.offerCountTaken p f a = if (s.offer p f).taken then (s.offer p f).state.count a else (s.offer p f).state := rfl

theorem State.offerCountTaken_only (s : State) (p : Port) (f : Frame) (a : Counter) :
    CountsOnly [.creditsRestored, a] s (s.offerCountTaken p f a) := by
  have hoffer := (s.offer_only p f).mono (ds := [.creditsRestored, a]) (by simp)
  rw [State.offerCountTaken_eq]
  split
  · exact hoffer.trans (State.count_only (by simp) _)
  · exact hoffer

theorem State.offerCountTaken_other (s : State) (p : Port) (f : Frame) (a : Counter) :
    (s.offerCountTaken p f a).port p.other = s.port p.other := by
  rw [State.offerCountTaken_eq, ← s.offer_other p f]
  split
  · exact State.count_port _ _ _
  · rfl

theorem State.headPos_eq (s : State) :
    s.headPos = { s.offersPos with ldu := { s.ldu with posTimer := some (after s.now 500) } } := by
  have hlink : LinkFrame s s.offersPos := s.offerCountTaken_link _ _ _
  have hoffered : s.headPos =
      { s.offersPos with ldu := { s.offersPos.ldu with posTimer := some (after s.offersPos.now 500) } } := rfl
  rw [hoffered, hlink.ldu, hlink.now]

theorem State.headPos_port (s : State) (p : Port) : s.headPos.port p = s.offersPos.port p := by
  rw [State.headPos_eq]
  cases p <;> rfl

/-- R158, R167: a POS joins the queue of a port with room, and is counted. -/
theorem State.headPos_sent {s : State} (h : s.hasRoom .down = true) :
    s.headPos.downPort.localQ = s.joined .down dstAll s.posPayload ∧
    s.headPos.counter .posSent = satAdd (s.counter .posSent) 1 := by
  have hoffer := State.offer_of_hasRoom h (s.frame dstAll s.posPayload)
  have htaken : s.offersPos = (s.takeLocal .down (s.port .down).localQ (s.frame dstAll s.posPayload)).count .posSent := by
    unfold State.offersPos
    rw [State.offerCountTaken_eq, hoffer]
    rfl
  rw [State.headPos_eq, htaken]
  exact ⟨rfl, State.counter_count _ _⟩

/-! ### A line of one station (R170) -/

/-- R170: the units of a line of one station have been created. -/
def State.createsSingle (s : State) : State :=
  let t := (s.createUnits 0 1).headTakesPool.discoveredTail
  t.createQueue (List.replicate t.slotCount none) 0

/-- All that discovery as a line of one station leaves, of what R132 asks. -/
structure State.SingleLine (s t : State) : Prop where
  n : t.ldu.n = some 1
  position : t.ldu.position = some 0
  role : t.ldu.role = some .headTail
  onLine : t.onLine = true
  slots : t.cq.slots = List.replicate (s.img.slotCount.get 0) none
  port : ∀ p, t.port p = s.port p
  discarded : t.counter .creditsDiscarded = s.counter .creditsDiscarded

theorem State.createsSingle_line (s : State) : s.SingleLine s.createsSingle := by
  have hends : ∃ x y, (s.createUnits 0 1).headTakesPool.discoveredTail = { s.createUnits 0 1 with cru := x, tail := y } := by
    unfold State.discoveredTail State.headTakesPool
    split <;> split <;> exact ⟨_, _, rfl⟩
  obtain ⟨x, y, heq⟩ := hends
  unfold State.createsSingle
  rw [heq]
  exact ⟨rfl, rfl, rfl, rfl, rfl, fun p => by cases p <;> rfl, rfl⟩

/-- R129, R130: raises, and a change of the mode, leave a line of one station as it is. -/
theorem State.SingleLine.after {s t u : State} (h : s.SingleLine t) (hldu : u.ldu = { t.ldu with state := u.ldu.state })
    (hon : u.onLine = true) (hcq : u.cq = t.cq) (hport : ∀ p, u.port p = t.port p)
    (hcounter : u.counter .creditsDiscarded = t.counter .creditsDiscarded) : s.SingleLine u where
  n := (congrArg Ldu.n hldu).trans h.n
  position := (congrArg Ldu.position hldu).trans h.position
  role := (congrArg Ldu.role hldu).trans h.role
  onLine := hon
  slots := (congrArg CoilQueue.slots hcq).trans h.slots
  port p := (hport p).trans (h.port p)
  discarded := hcounter.trans h.discarded

/-- R170: a line of one station has no neighbours. -/
theorem State.SingleLine.hasNeighbour {s t : State} (h : s.SingleLine t) (p : Port) : t.hasNeighbour p = false := by
  unfold State.hasNeighbour State.pos
  rw [h.n, h.position]
  cases p <;> rfl

theorem State.SingleLine.isSingle {s t : State} (h : s.SingleLine t) : t.isSingle = true := by
  unfold State.isSingle State.isHead State.isTail
  rw [h.role]
  rfl

/-- R130: a raise on a line of one station. -/
theorem State.SingleLine.raiseOwn {s t : State} (h : s.SingleLine t) (c : Cause) {k : Counter} (hk : k ≠ .creditsDiscarded) :
    s.SingleLine ((t.raiseOwn c).count k) := by
  have hldu : ((t.raiseOwn c).count k).ldu = t.ldu := t.raiseOwn_ldu c
  obtain ⟨hports, -⟩ := State.raiseOwn_quiet (c := c) (.inr h.isSingle)
  refine h.after (by rw [hldu]) ?_ (t.raiseOwn_hold c).cq (fun p => (State.count_port _ _ p).trans (hports p)) ?_
  · unfold State.onLine
    rw [hldu]
    exact h.onLine
  · exact (State.counter_count_ne _ hk).trans (t.raiseOwn_only c _ (by decide))

theorem State.SingleLine.raiseTrips {s t : State} (h : s.SingleLine t) : s.SingleLine t.raiseTrips := by
  have hraise {u : State} (hu : s.SingleLine u) (b : Bool) (c : Cause) {k : Counter} (hk : k ≠ .creditsDiscarded) :
      s.SingleLine (if b then (u.raiseOwn c).count k else u) := by
    split
    · exact hu.raiseOwn c hk
    · exact hu
  exact hraise (hraise h _ _ (by decide)) _ _ (by decide)

theorem State.SingleLine.openLine {s t : State} (h : s.SingleLine t) : s.SingleLine t.openLine := by
  have hmode : s.SingleLine (t.enterMode (modeOf t.hlu.entries)) :=
    h.after rfl (modeOf_online _) rfl (fun p => by cases p <;> rfl)
      (State.counter_count_ne _ (by cases modeOf t.hlu.entries <;> decide))
  have hlatch : s.SingleLine (t.enterMode (modeOf t.hlu.entries)).latchSetpoint :=
    hmode.after rfl hmode.onLine rfl (fun p => by cases p <;> rfl) rfl
  unfold State.openLine State.preview
  split
  · exact hlatch.after rfl hlatch.onLine rfl (fun p => by cases p <;> rfl) rfl
  · exact hlatch

/-- R170: discovery as a line of one station. -/
theorem State.discover_single (s : State) : s.SingleLine (s.discover 0 1) := by
  have hcreated := s.createsSingle_line
  have hsettled : (s.createsSingle.settlePort .up).settlePort .down = s.createsSingle := by
    have hsettle (p : Port) : s.createsSingle.settlePort p = s.createsSingle :=
      if_neg (Bool.eq_false_iff.mp (hcreated.hasNeighbour p))
    rw [hsettle, hsettle]
  have heq : s.discover 0 1 = s.createsSingle.raiseTrips.openLine.count .discoveries := by
    rw [← hsettled]
    rfl
  have hopen := hcreated.raiseTrips.openLine
  rw [heq]
  exact hopen.after rfl hopen.onLine rfl (State.count_port _ _) (State.counter_count_ne _ (by decide))

end Sys2Proof.Machine
end

section
/-!
PROOFS. The loss of a link in full (R132, R148, R149, R167): the port that it empties, what the units then do, and the settlement of
O44.
-/

namespace Sys2Proof.Machine

/-! ### The head decision at a loss (R167) -/

/-- R167: with room downstream the head sends its POS. -/
theorem State.becomeHead_sends {w : State} (h : w.hasRoom .down = true) :
    w.becomeHead.ldu = { w.ldu with headClaim := true, position := some 0, posTimer := some (after w.now 500) } ∧
    w.becomeHead.downPort.localQ = insertByClass { src := 0, dst := 255, payload := w.posPayload } w.downPort.localQ ∧
    w.becomeHead.counter .posSent = satAdd (w.counter .posSent) 1 := by
  obtain ⟨hup, -⟩ := (w.hasRoom_iff .down).mp h
  obtain ⟨hqueue, hcounted⟩ := State.headPos_sent (s := w.claimsHead) h
  rw [State.becomeHead_up hup]
  refine ⟨?_, hqueue, hcounted⟩
  rw [State.headPos_eq]
  rfl

/-- R84, R167, R169: with the DOWN link DOWN the station is a line of its own, or its loan pool is negative. -/
theorem State.becomeHead_single {w : State} (h : w.linkIsUp .down = false) :
    w.becomeHead.ldu.n = some 1 ∧ w.becomeHead.ldu.position = some 0 ∧
    (w.img.loanPool 1 < 0 → w.becomeHead.ldu.state = .fault ∧ w.becomeHead.ldu.reason = some .budget) ∧
    (0 ≤ w.img.loanPool 1 → w.becomeHead.onLine = true ∧ w.becomeHead.ldu.role = some .headTail ∧
      w.becomeHead.cq.slots = List.replicate (w.img.slotCount.get 0) none) := by
  rw [State.becomeHead_down h]
  by_cases hpool : w.img.loanPool 1 < 0
  · have hfault : w.claimsHead.discoverOrBudget 1 =
        ({ w.claimsHead with ldu := { w.claimsHead.ldu with n := some 1 } } : State).enterFault .budget := if_pos hpool
    rw [hfault]
    exact ⟨rfl, rfl, fun _ => ⟨rfl, rfl⟩, fun hpos => absurd hpool (not_lt.mpr hpos)⟩
  · have hline : w.claimsHead.discoverOrBudget 1 =
        ({ w.claimsHead with ldu := { w.claimsHead.ldu with n := some 1 } } : State).discover 0 1 := if_neg hpool
    have hsingle := State.discover_single { w.claimsHead with ldu := { w.claimsHead.ldu with n := some 1 } }
    rw [hline]
    exact ⟨hsingle.n, hsingle.position, fun hneg => absurd hneg hpool,
      fun _ => ⟨hsingle.onLine, hsingle.role, hsingle.slots⟩⟩

/-- R167: the head decision at the loss of the UP link changes that port in nothing. -/
theorem State.becomeHead_kept (w : State) : w.becomeHead.port .up = w.port .up ∧
    w.becomeHead.port .down = (w.port .down).offered (w.becomeHead.port .down) ∧
    w.becomeHead.counter .creditsDiscarded = w.counter .creditsDiscarded := by
  cases hdown : w.linkIsUp .down with
  | true =>
    rw [State.becomeHead_up hdown, State.headPos_port, State.headPos_port]
    have hlink : LinkFrame w.claimsHead w.claimsHead.offersPos := State.offerCountTaken_link _ _ _ _
    refine ⟨State.offerCountTaken_other _ .down _ _, hlink.downPort, ?_⟩
    rw [State.headPos_eq]
    exact State.offerCountTaken_only w.claimsHead .down _ .posSent _ (by decide)
  | false =>
    rw [State.becomeHead_down hdown]
    unfold State.discoverOrBudget
    extract_lets src t
    split
    · exact ⟨rfl, rfl, rfl⟩
    · have hsingle : t.SingleLine (t.discover w.claimsHead.pos 1) := t.discover_single
      refine ⟨hsingle.port .up, ?_, hsingle.discarded⟩
      rw [hsingle.port .down]
      rfl

theorem State.decidesHead {w : State} (hwaits : w.waitsForPos = true) (hseen : w.ldu.seen = false) :
    w.UnitsHear w.becomeHead .up := by
  have hoff := State.onLine_of_waitsForPos hwaits
  have hnever {q : Prop} (hon : w.onLine = true) : q := absurd (hoff.symm.trans hon) Bool.false_ne_true
  obtain ⟨hup, hdown, hdiscarded⟩ := w.becomeHead_kept
  exact ⟨hup, hdown, hdiscarded, hnever, hnever, hnever, hnever, hnever, hnever, fun _ hidle => by
    rcases hidle with h | h | h
    · cases h
    · exact absurd (h.symm.trans hwaits) Bool.false_ne_true
    · exact absurd (hseen.symm.trans h) Bool.false_ne_true, fun _ _ _ => rfl⟩

/-- R132, R148, R167: what the units do at a loss. -/
theorem State.unitsHearLoss_hears {w : State} {p : Port} (hdown : w.linkIsUp p = false) : w.UnitsHear (w.unitsHearLoss p) p := by
  unfold State.unitsHearLoss
  split
  · rename_i hon
    split
    · rename_i hnext
      exact State.raisesLoss hon hdown hnext
    · rename_i halone
      exact .still (fun _ => Bool.eq_false_iff.mpr halone) fun _ hwaits =>
        absurd ((State.onLine_of_waitsForPos hwaits).symm.trans hon) Bool.false_ne_true
  · rename_i hoff
    split
    · rename_i hwaits
      obtain ⟨rfl, hwaits⟩ := hwaits
      cases hseen : w.ldu.seen with
      | false =>
        have heq : w.headDecision = w.becomeHead := if_pos ⟨hdown, hseen⟩
        rw [heq]
        exact State.decidesHead hwaits hseen
      | true =>
        have heq : w.headDecision = w := if_neg fun h => Bool.false_ne_true (h.2.symm.trans hseen)
        rw [heq]
        exact .still (fun hon => absurd hon hoff) fun _ _ => hseen
    · rename_i hidle
      exact .still (fun hon => absurd hon hoff) fun hp hwaits => absurd ⟨hp, hwaits⟩ hidle

/-! ### What the loss leaves of the units (R149) -/

section
variable {s t : State} {p : Port} {byErrors : Bool} (h : s.LinkLost t p byErrors)
include h

theorem State.LinkLost.linkIsDown : t.linkIsUp p = false := by
  unfold State.linkIsUp
  rw [h.port]
  rfl
theorem State.LinkLost.ldu : t.ldu = s.ldu := by rw [h.rest]
theorem State.LinkLost.hlu : t.hlu = s.hlu := by rw [h.rest]
theorem State.LinkLost.img : t.img = s.img := by rw [h.rest]; rfl
theorem State.LinkLost.now : t.now = s.now := by rw [h.rest]; rfl
theorem State.LinkLost.onLine : t.onLine = s.onLine := by rw [h.rest]; rfl
theorem State.LinkLost.isSingle : t.isSingle = s.isSingle := by rw [h.rest]; rfl
theorem State.LinkLost.originByte : t.originByte = s.originByte := by rw [h.rest]; rfl
theorem State.LinkLost.hasNeighbour (q : Port) : t.hasNeighbour q = s.hasNeighbour q := by rw [h.rest]; rfl
theorem State.LinkLost.waitsForPos : t.waitsForPos = s.waitsForPos := by rw [h.rest]; rfl
theorem State.LinkLost.linkIsUp_other : t.linkIsUp p.other = s.linkIsUp p.other := by unfold State.linkIsUp; rw [h.other]
theorem State.LinkLost.hasRoom_other : t.hasRoom p.other = s.hasRoom p.other := by
  unfold State.hasRoom; rw [h.linkIsUp_other, h.other]
theorem State.LinkLost.frame (dst : Byte) (x : Payload) : t.frame dst x = s.frame dst x := by rw [h.rest]; rfl
theorem State.LinkLost.holdOf (c : Cause) : t.holdOf c = s.holdOf c := by rw [h.rest]; rfl
theorem State.LinkLost.posPayload : t.posPayload = s.posPayload := by rw [h.rest]; rfl
theorem State.LinkLost.hasOwn (c : Cause) : t.hlu.hasOwn c = s.hlu.hasOwn c := by rw [h.rest]
theorem State.LinkLost.joined_other (dst : Byte) (x : Payload) : t.joined p.other dst x = s.joined p.other dst x := by
  unfold State.joined; rw [h.other, h.frame]
theorem State.LinkLost.counter {c : Counter} (hc : c ≠ .creditsDiscarded) : t.counter c = s.counter c :=
  h.counted c (by simpa using hc)

/-- R130: the raise reads nothing that the loss changes. -/
theorem State.LinkLost.ownRaised {u : State} {c : Cause} (hraised : t.OwnRaised u c) : s.OwnRaised u c := by
  unfold State.OwnRaised at hraised
  rw [h.hlu, h.originByte, h.now, h.counter (by decide), h.counter (by decide)] at hraised
  exact hraised

end

/-! ### The settlement -/

theorem State.waitsForPos_iff (s : State) :
    s.waitsForPos = true ↔ s.ldu.state = .discover ∧ s.ldu.settle = none ∧ s.ldu.position = none := by
  simp [State.waitsForPos, and_assoc]

/-- R148: either command takes the link DOWN, and the units act on the port it leaves. -/
theorem exec_linkDown {e : Env} {p : Port} {s : State} (hup : s.linkIsUp p = true) {c : Instr}
    (hc : c ∈ [Instr.linkDownErrors e p, Instr.linkDownSilence e p])
    (hsilence : c = .linkDownSilence e p → due (s.observe e).now (s.port p).silence = true) :
    ∃ w, (s.observe e).LinkLost w p (c = .linkDownErrors e p) ∧ exec c s = .next (w.unitsHearLoss p) := by
  rcases List.mem_cons.mp hc with rfl | hc
  · rw [decide_eq_true rfl]
    exact ⟨_, ((s.observe e).eighthError_begins p).lost, exec_linkDownErrors_eq hup⟩
  · obtain rfl := List.mem_singleton.mp hc
    rw [decide_eq_false nofun]
    exact ⟨_, (State.LossBegins.silence (s.observe e) p).lost, exec_linkDownSilence_eq hup (hsilence rfl)⟩

/-- Settles O44: the loss empties the port, and the units act on it. -/
theorem linkDownEmptiesThePort : Obligations.LinkDownEmptiesThePort := by
  rintro e p s u rfl hup c hc hsilence
  obtain ⟨w, hw, hexec⟩ := exec_linkDown hup hc hsilence
  have ht := State.unitsHearLoss_hears hw.linkIsDown
  have herrors := hw.errors
  have hdowns := hw.silence
  simp only [decide_eq_true_eq] at herrors hdowns
  refine ⟨_, hexec, ?_⟩
  generalize w.unitsHearLoss p = t at *
  have hport := ht.port.trans hw.port
  have hcounter (d : PortCounter) : t.portCounter p d = w.portCounter p d :=
    congrArg (fun x => x.counters.get d.idx) ht.port
  have hforward : (t.port p.other).forward = (s.port p.other).forward := by
    rw [ht.other, hw.other]
    rfl
  have hlink : (t.port p.other).link = (s.port p.other).link := by
    rw [ht.other, hw.other]
    rfl
  have hon (h : s.onLine = true) : w.onLine = true := hw.onLine.trans h
  have hnext {b : Bool} (h : s.hasNeighbour p = b) : w.hasNeighbour p = b := (hw.hasNeighbour p).trans h
  have hown {b : Bool} (h : s.hlu.hasOwn (lossCause p) = b) : w.hlu.hasOwn (lossCause p) = b := (hw.hasOwn _).trans h
  have hother {b : Bool} (h : s.linkIsUp p.other = b) : w.linkIsUp p.other = b := hw.linkIsUp_other.trans h
  have hsingle {b : Bool} (h : s.isSingle = b) : w.isSingle = b := hw.isSingle.trans h
  refine ⟨congrArg LinkPort.link hport, congrArg LinkPort.validRun hport, congrArg LinkPort.errorRun hport,
    congrArg LinkPort.silence hport, congrArg LinkPort.receiver hport, congrArg LinkPort.transmitter hport,
    congrArg LinkPort.forward hport, congrArg LinkPort.localQ hport, congrArg LinkPort.starvation hport,
    congrArg LinkPort.checkTimer hport, congrArg LinkPort.check hport, (hcounter _).trans hw.discarded,
    ht.discarded.trans hw.credits, (hcounter _).trans herrors, (hcounter _).trans hdowns,
    hforward, hlink, fun h hn => ?_, fun h hn hnew => ?_, fun h hstands => ?_, ?_, fun h hidle => ?_, fun h hquiet => ?_,
    fun h => ?_, fun h hn => ?_⟩
  · obtain ⟨hhas, hldu⟩ := ht.raises (hon h) (hnext hn)
    rw [hw.ldu] at hldu
    exact ⟨hhas, hldu⟩
  · obtain ⟨hraised, hjoins, hsilent⟩ := ht.raised (hon h) (hnext hn) (hown hnew)
    refine ⟨hw.ownRaised hraised, fun hlines hroom => ?_, fun hquiet => ?_⟩
    · rw [hjoins (hsingle hlines) (hw.hasRoom_other.trans hroom), hw.joined_other, hw.holdOf]
      rfl
    · exact (hsilent (hquiet.imp hother hsingle)).trans hw.other
  · obtain ⟨hhlu, hports⟩ := ht.stands (hon h) (hown hstands)
    exact ⟨hhlu.trans hw.hlu, hports.trans hw.other⟩
  · rintro rfl hstate hsettle hposition hseen
    have hheads := ht.heads rfl (hw.waitsForPos.trans ((s.waitsForPos_iff).mpr ⟨hstate, hsettle, hposition⟩))
      ((congrArg Ldu.seen hw.ldu).trans hseen)
    rw [hheads]
    refine ⟨fun hroom => ?_, fun hdown => ?_⟩
    · obtain ⟨hldu, hqueue, hsent⟩ := State.becomeHead_sends (hw.hasRoom_other.trans hroom)
      rw [hw.ldu, hw.now] at hldu
      rw [hw.posPayload] at hqueue
      rw [hw.counter (by decide)] at hsent
      exact ⟨hldu, hqueue.trans (congrArg (fun x => insertByClass _ x.localQ) hw.other), hsent⟩
    · have hdecides := State.becomeHead_single (hw.linkIsUp_other.trans hdown)
      rw [hw.img] at hdecides
      exact hdecides
  · have hstill : p = .down ∨ w.waitsForPos = false ∨ w.ldu.seen = true := by
      rw [hw.waitsForPos, hw.ldu]
      refine hidle.imp_right fun hidle => ?_
      by_cases hwaits : s.waitsForPos = true
      · obtain ⟨hdiscover, hsettle, hposition⟩ := s.waitsForPos_iff.mp hwaits
        exact .inr (((hidle.resolve_left (not_not.mpr hdiscover)).resolve_left (not_not.mpr hsettle)).resolve_left
          (not_not.mpr hposition))
      · exact .inl (Bool.eq_false_iff.mpr hwaits)
    rw [ht.waits (hw.onLine.trans h) hstill]
    exact ⟨hw.ldu, hw.hlu, hw.other, hw.ltr⟩
  · exact (ht.quiet (hon h) (hquiet.imp hnext (Or.imp hown (Or.imp hother hsingle)))).trans hw.ltr
  · obtain ⟨hcq, hexu, htail, hivi, htau⟩ := ht.keeps (hon h)
    rw [hw.rest] at hcq hexu htail hivi htau
    exact ⟨hcq, hexu, htail, hivi, htau⟩
  · obtain ⟨hhlu, hldu⟩ := ht.alone (hon h) (hnext hn)
    exact ⟨hhlu.trans hw.hlu, hldu.trans hw.ldu⟩

end Sys2Proof.Machine
end
